-- ==== Sys2Proof/Word.lean ====
section
/-!
DEFINITION. The words of the SLX-A256 and their plainest arithmetic: the Director's 24-bit word (R117), a byte, and a
plane of the array, one bit per PE (R31, R96).
-/

namespace Sys2Proof

/-- The Director's 24-bit word (chapter 5). -/
abbrev Word := BitVec 24

/-- A byte. -/
abbrev Byte := BitVec 8

/-- The number of PEs, 512 x 512 (R31). -/
abbrev peCount : Nat := 262144

/-- One bit of every PE: bit 512 y + x belongs to PE (x, y) (R31). -/
abbrev Plane := BitVec 262144

/-- A sparse table in one canonical form: keys strictly rising, and no entry that equals the default value. -/
abbrev Tab (α : Type) := List (Nat × α)

/-- One bit of a Bool. -/
def bit1 (b : Bool) : BitVec 1 := if b then 1#1 else 0#1

end Sys2Proof
end

