-- ==== Sys2Proof/Syntax.lean ====
section
/-!
DEFINITION. The commands of the SLX-A256: ONE constructor of `Instr` per row of spec/opcode_table.json, and the
plain data that their operands carry.  The table gives its rows no bits and no fields; the operands are this model's
(log entry 1): what the rule named in the row says the step is told from outside.
-/

namespace Sys2Proof

/-- What a CSI-2 packet header's ECC found (R201). -/
inductive HdrEcc where
  | ok | corrected | double
  deriving DecidableEq, Repr

/-- One pixel: its components, right aligned, in the order of Table 7-3 (R210, R211). -/
abbrev Pixel := List (BitVec 16)

/-- An Envor boot image as the boot copier reads it (R439, R440): the outcome of its ECDSA P-384 check and its words. -/
structure BootImage where
  sigOk : Bool
  words : List (BitVec 14)
  deriving DecidableEq, Repr

/-- Who writes a register (R11): the host through a function at a BAR0 offset, at one of BAR4 (the MSI-X table, R228) or in
configuration space, Envor over the mesh, or an MGT record. -/
inductive Writer where
  | host (fn : BitVec 6)
  | msix (fn : BitVec 6)
  | config (fn : BitVec 6)
  | envor
  | mgt
  deriving DecidableEq, Repr

/-- Who reads a register: the host through a function, 4 bytes or 8 at a BAR0 offset (R461), of
the clap area in BAR2 (R237), of BAR4, or of configuration space; or the board over SMBus (R473). -/
inductive Reader where
  | host (fn : BitVec 6) (off : BitVec 25) (wide : Bool)
  | smbus (cmd : BitVec 8)
  | claps (fn : BitVec 6)
  | msix (fn : BitVec 6) (off : BitVec 16) (wide : Bool)
  | config (fn : BitVec 6) (off : BitVec 12)
  deriving DecidableEq, Repr

/-- An image (R403) as LOAD_RECIPE and LOAD_PATCH fetch it: its header, the outcome of each cryptographic check
of R404 and R405, and the plaintext directory, microwords, program words and path table. -/
structure Image where
  kind : BitVec 8
  domain : BitVec 8
  version : BitVec 32
  envelopeOk : Bool
  signer : BitVec 384
  sigOk : Bool
  wrappedFor : List (BitVec 128)
  tagOk : Bool
  dk : BitVec 256
  digest : BitVec 384
  partsOk : Bool
  dir : List (BitVec 64)
  words : List (BitVec 128)
  prog : List (BitVec 14)
  paths : List (BitVec 128)
  deriving DecidableEq, Repr

/-- A crew frame (R279) as a receiver takes it from its cells: the 16-byte header of Table 10-4, its payload in 4-byte units, and
whether its cells and its CRC hold. -/
structure Frame where
  hdr : BitVec 128
  payload : List (BitVec 32)
  crcOk : Bool
  deriving DecidableEq, Repr

/-- A cell of a crew link (R274, R278): the sync headers of lanes 0 to 3, lane 0 lowest, and its 32 bytes, byte 0 lowest. -/
structure Cell where
  sync : BitVec 8
  bytes : BitVec 256
  deriving DecidableEq, Repr

/-- A frame on a crew link: the cells from its first to its last, and whether its start cell stands inside a longer frame (R280). -/
structure Wire where
  cells : List Cell
  inside : Bool
  deriving DecidableEq, Repr

/-- The link side of a PAIR frame that carried a record (R279, R324): LSEQ, the pair sequence number, how many cells it took,
and whether its cells and its CRC hold. -/
structure PairLink where
  lseq : BitVec 12
  num : BitVec 30
  cells : BitVec 5
  crcOk : Bool
  deriving DecidableEq, Repr

/-- A mesh packet (R325): the header of Table 12-1 and the 512-bit data field. -/
structure Packet where
  hdr : BitVec 128
  data : BitVec 512
  deriving DecidableEq, Repr

/-- A dailies record (Table 12-8) as a TRACE packet carries it. -/
structure TraceRec where
  time : BitVec 64
  hdr : BitVec 128
  probe : BitVec 3
  router : BitVec 6
  port : BitVec 3
  waited : Bool
  seq : BitVec 32
  deriving DecidableEq, Repr

/-- The partner's HELLO (Table 11-3), with the verdict of its own checks. -/
structure Hello where
  ident : BitVec 128
  mate : Bool
  lc : BitVec 3
  refclk : BitVec 32
  digest : BitVec 384
  ts : BitVec 64
  refused : Bool
  deriving DecidableEq, Repr

/-- An ordered input of Double mode (R314). -/
inductive OrdInput where
  | slate (ch : BitVec 18) (slate : BitVec 512)
  | putData (ch : BitVec 18) (data : List Byte)
  | eventLine (line : BitVec 6)
  | lineRecord (slot : BitVec 6) (w0 w1 w2 w3 : Word)
  | maskedLine (slot : BitVec 6) (line : BitVec 24)
  | pairTime (t : BitVec 64)
  | mode (m : BitVec 2)
  | crewFrame (p : BitVec 4) (f : Frame)
  | cueVerdict (reason : BitVec 4)
  | clap (ch : BitVec 18) (tail head : BitVec 16)
  | eventSlot
  | frameEnd (slot : BitVec 6) (line : BitVec 24)
  | dmaError (ch : BitVec 18) (code : BitVec 8)
  | channel (ch : BitVec 18) (ctx : BitVec 192) (sq cq : BitVec 64)
  | roundTimeout (g : BitVec 4) (v : BitVec 28)
  | portWords (w : BitVec 256)
  deriving DecidableEq, Repr

/-- An ORDER record (Table 11-3): the input and its delivery cycle. -/
structure Ordered where
  cycle : BitVec 48
  input : OrdInput
  deriving DecidableEq, Repr

/-- A NOTICE record (Table 11-3): sources 0-63 are line slots, 64-127 event lines 0-63. -/
structure Notice where
  source : BitVec 7
  number : BitVec 24
  crc : BitVec 32
  deriving DecidableEq, Repr

/-- A token (Table 14-4) as fetched from KP_ADDR: its fields, whether the DMA read and the must-be-0 fields are good,
and the outcome of its signature check under the key that R393 names. -/
structure Token where
  readOk : Bool
  formatOk : Bool
  kind : BitVec 8
  domain : BitVec 8
  length : BitVec 32
  ident : BitVec 128
  counter : BitVec 32
  rights : BitVec 8
  validity : BitVec 32
  key : BitVec 776
  /-- BODY: the device certificate of a provisioning token. -/
  body : List Byte
  sigOk : Bool
  deriving DecidableEq, Repr

/-- IDE_KM requests (R402). -/
inductive IdeOp where
  | query | keyProg | kSetGo | kSetStop
  deriving DecidableEq, Repr

/-- The commands, one constructor per row of spec/opcode_table.json, in its order.  An operand z of a Director instruction is
its "must be 0" field. -/
inductive Instr where
  /-- POWER_ON_RESET (R429). -/
  | powerOnReset (pin : Bool) (supply : Bool)
  /-- WARM_RESET (R429). -/
  | warmReset
  /-- HOST_DEVICE_RESET_REQUEST (R429). -/
  | hostDeviceResetRequest (fn : BitVec 6) (value : BitVec 32)
  /-- SMBUS_RESET_REQUEST (R443). -/
  | smbusResetRequest (value : BitVec 16) (pecOk : Bool)
  /-- FUNCTION_LEVEL_RESET (R471). -/
  | functionLevelReset (fn : BitVec 6)
  /-- DIRECTOR_RESET (R183). -/
  | directorReset (byHost : Bool) (fn : BitVec 6) (value : BitVec 32)
  /-- READY_BIT_SET (R435). -/
  | readyBitSet (bit : BitVec 4)
  /-- BOOT_COPY (R439). -/
  | bootCopy (slotA : BootImage) (slotB : BootImage)
  /-- BOOT_RETRY (R440). -/
  | bootRetry (fn : BitVec 6) (value : BitVec 32) (img : BootImage)
  /-- REGISTER_WRITE (R466). -/
  | registerWrite (w : Writer) (off : BitVec 25) (wide : Bool) (value : BitVec 64)
  /-- POWER_SAMPLE (R422). -/
  | powerSample (total : BitVec 16) (array : BitVec 16)
  /-- JUNCTION_SENSOR_SAMPLE (R425). -/
  | junctionSensorSample (temps : List (BitVec 16))
  /-- VOLTAGE_SETTLED (R419). -/
  | voltageSettled
  /-- VREG_FAULT (R419). -/
  | vregFault
  /-- SET_MODE (R5). -/
  | setMode (ch : BitVec 18)
  /-- GF_DOMREQ_WRITE (R427). -/
  | gfDomreqWrite (value : BitVec 32)
  /-- DOMAIN_GATED (R341). -/
  | domainGated (b : BitVec 5)
  /-- DOMAIN_OPENED (R427). -/
  | domainOpened (b : BitVec 5)
  /-- MICROWORD (R34). -/
  | microword
  /-- SHADOW_WRITE (R56). -/
  | shadowWrite (tile : BitVec 8)
  /-- OR_RESULT_READY (R51). -/
  | orResultReady
  /-- TALLY_RESULT_READY (R51). -/
  | tallyResultReady
  /-- ENTRY_START (R25). -/
  | entryStart
  /-- SCRIPT_END (R71). -/
  | scriptEnd
  /-- YIELD_EFFECT (R83). -/
  | yieldEffect
  /-- PLANE_TRANSFER_END (R351). -/
  | planeTransferEnd
  /-- HALO_STRIP_READ (R298). -/
  | haloStripRead (edge : BitVec 2)
  /-- IMAGE_COMMIT (R93). -/
  | imageCommit
  /-- IMAGE_BUSY_TIMEOUT (R93). -/
  | imageBusyTimeout
  /-- NOP (R125); un is a word whose encoding chapter 5 assigns to no instruction, fetched where a NOP could be: the table has no
  row for such a word, which raises ILLEGAL (R125). -/
  | nop (z : BitVec 6) (un : Option (BitVec 14))
  /-- HALT (R134). -/
  | halt (z : BitVec 6)
  /-- WFE (R158). -/
  | wfe (z : BitVec 6)
  /-- WFE_WAKE (R158). -/
  | wfeWake
  /-- SEV (R159). -/
  | sev (f : BitVec 6)
  /-- WTU (R161). -/
  | wtu (f : BitVec 6)
  /-- WTU_COMPLETE (R161). -/
  | wtuComplete
  /-- WTU_COMPARE_MATCH (R161). -/
  | wtuCompareMatch (u : BitVec 2)
  /-- TRAP (R174). -/
  | trap (n : BitVec 6)
  /-- INTERRUPT_ENTRY (R177). -/
  | interruptEntry
  /-- RETI (R178). -/
  | reti (z : BitVec 6)
  /-- REP (R152). -/
  | rep (n : BitVec 6)
  /-- REPN (R155). -/
  | repn (n : BitVec 6)
  /-- EXT (R127). -/
  | ext (z : BitVec 6) (lit : BitVec 14)
  /-- MFS (R118). -/
  | mfs (sr : BitVec 6)
  /-- MTS (R118). -/
  | mts (sr : BitVec 6)
  /-- MFS_TBL (R160). -/
  | mfsTbl
  /-- MTS_WTUVH (R161). -/
  | mtsWtuvh (u : BitVec 2)
  /-- FSAVE (R189). -/
  | fsave
  /-- ASAVE (R189). -/
  | asave
  /-- FLOAD (R189). -/
  | fload
  /-- ALOAD (R189). -/
  | aload
  /-- AFLOAD_WRITE (R196). -/
  | afloadWrite
  /-- DSTATE_NORMAL_WRITE (R171). -/
  | dstateNormalWrite
  /-- MAINT_PRODUCT_READY (R166). -/
  | maintProductReady
  /-- LDA_DIRECT (R135). -/
  | ldaDirect (d : BitVec 10)
  /-- STA_DIRECT (R135). -/
  | staDirect (d : BitVec 10)
  /-- LDI (R135). -/
  | ldi (imm : BitVec 10)
  /-- LDA_INDEXED (R136). -/
  | ldaIndexed (am : BitVec 4)
  /-- STA_INDEXED (R136). -/
  | staIndexed (am : BitVec 4)
  /-- LDX (R131). -/
  | ldx (am : BitVec 4)
  /-- STX (R136). -/
  | stx (am : BitVec 4)
  /-- LDY (R131). -/
  | ldy (am : BitVec 4)
  /-- STY (R136). -/
  | sty (am : BitVec 4)
  /-- ADD_MEM (R136). -/
  | addMem (am : BitVec 4)
  /-- SUB_MEM (R136). -/
  | subMem (am : BitVec 4)
  /-- AND_MEM (R136). -/
  | andMem (am : BitVec 4)
  /-- OR_MEM (R136). -/
  | orMem (am : BitVec 4)
  /-- XOR_MEM (R136). -/
  | xorMem (am : BitVec 4)
  /-- MUL_MEM (R136). -/
  | mulMem (am : BitVec 4)
  /-- MULU_MEM (R136). -/
  | muluMem (am : BitVec 4)
  /-- LDG (R136). -/
  | ldg (g : BitVec 3) (am : BitVec 4)
  /-- STG (R136). -/
  | stg (g : BitVec 3) (am : BitVec 4)
  /-- ADD (R137). -/
  | add (g : BitVec 3)
  /-- ADC (R137). -/
  | adc (g : BitVec 3)
  /-- SUB (R137). -/
  | sub (g : BitVec 3)
  /-- SBC (R137). -/
  | sbc (g : BitVec 3)
  /-- AND (R137). -/
  | and (g : BitVec 3)
  /-- OR (R137). -/
  | or (g : BitVec 3)
  /-- XOR (R137). -/
  | xor (g : BitVec 3)
  /-- ANDN (R137). -/
  | andn (g : BitVec 3)
  /-- MUL (R165). -/
  | mul (g : BitVec 3)
  /-- MULU (R165). -/
  | mulu (g : BitVec 3)
  /-- MOVA (R137). -/
  | mova (g : BitVec 3)
  /-- MOVG (R137). -/
  | movg (g : BitVec 3)
  /-- MOVX (R137). -/
  | movx (g : BitVec 3)
  /-- GETX (R137). -/
  | getx (g : BitVec 3)
  /-- MOVY (R137). -/
  | movy (g : BitVec 3)
  /-- GETY (R137). -/
  | gety (g : BitVec 3)
  /-- SHL (R137). -/
  | shl (g : BitVec 3)
  /-- SHR (R137). -/
  | shr (g : BitVec 3)
  /-- SAR (R137). -/
  | sar (g : BitVec 3)
  /-- ROL (R137). -/
  | rol (g : BitVec 3)
  /-- XCH (R137). -/
  | xch (g : BitVec 3)
  /-- ADDX (R137). -/
  | addx (g : BitVec 3)
  /-- ADDY (R137). -/
  | addy (g : BitVec 3)
  /-- NEG (R137). -/
  | neg
  /-- NOT (R137). -/
  | not
  /-- CLZ (R137). -/
  | clz
  /-- POPC (R137). -/
  | popc
  /-- SEXT8 (R137). -/
  | sext8
  /-- SEXT16 (R137). -/
  | sext16
  /-- ZEXT8 (R137). -/
  | zext8
  /-- XFER_A_TO_X (R137). -/
  | xferAToX
  /-- XFER_X_TO_A (R137). -/
  | xferXToA
  /-- XFER_A_TO_Y (R137). -/
  | xferAToY
  /-- XFER_Y_TO_A (R137). -/
  | xferYToA
  /-- XFER_A_TO_RC (R154). -/
  | xferAToRc
  /-- XFER_RC_TO_A (R137). -/
  | xferRcToA
  /-- XFER_A_TO_DP (R137). -/
  | xferAToDp
  /-- ADDI (R138). -/
  | addi (imm : BitVec 7)
  /-- SUBI (R138). -/
  | subi (imm : BitVec 7)
  /-- ANDI (R138). -/
  | andi (imm : BitVec 7)
  /-- ORI (R138). -/
  | ori (imm : BitVec 7)
  /-- XORI (R138). -/
  | xori (imm : BitVec 7)
  /-- ADDXI (R138). -/
  | addxi (imm : BitVec 7)
  /-- ADDYI (R138). -/
  | addyi (imm : BitVec 7)
  /-- LDXI (R138). -/
  | ldxi (imm : BitVec 7)
  /-- CEQ (R139). -/
  | ceq (d : BitVec 3) (s : BitVec 3)
  /-- CNE (R139). -/
  | cne (d : BitVec 3) (s : BitVec 3)
  /-- CLT (R139). -/
  | clt (d : BitVec 3) (s : BitVec 3)
  /-- CLE (R139). -/
  | cle (d : BitVec 3) (s : BitVec 3)
  /-- CGT (R139). -/
  | cgt (d : BitVec 3) (s : BitVec 3)
  /-- CGE (R139). -/
  | cge (d : BitVec 3) (s : BitVec 3)
  /-- CLTU (R139). -/
  | cltu (d : BitVec 3) (s : BitVec 3)
  /-- CLEU (R139). -/
  | cleu (d : BitVec 3) (s : BitVec 3)
  /-- CGTU (R139). -/
  | cgtu (d : BitVec 3) (s : BitVec 3)
  /-- CGEU (R139). -/
  | cgeu (d : BitVec 3) (s : BitVec 3)
  /-- CBS (R139). -/
  | cbs (d : BitVec 3) (s : BitVec 3)
  /-- CBC (R139). -/
  | cbc (d : BitVec 3) (s : BitVec 3)
  /-- BNZ (R140). -/
  | bnz (g : BitVec 3) (disp : BitVec 6)
  /-- BZ (R140). -/
  | bz (g : BitVec 3) (disp : BitVec 6)
  /-- BRA (R141). -/
  | bra (disp : BitVec 8)
  /-- CALL (R141). -/
  | call (disp : BitVec 8)
  /-- JMP (R141). -/
  | jmp (z : BitVec 2) (g : BitVec 3)
  /-- CALL_INDIRECT (R141). -/
  | callIndirect (z : BitVec 2) (g : BitVec 3)
  /-- RET (R141). -/
  | ret (z : BitVec 5)
  /-- FADD (R142). -/
  | fadd (d : BitVec 3) (s : BitVec 3)
  /-- FSUB (R142). -/
  | fsub (d : BitVec 3) (s : BitVec 3)
  /-- FMUL (R142). -/
  | fmul (d : BitVec 3) (s : BitVec 3)
  /-- FDIV (R142). -/
  | fdiv (d : BitVec 3) (s : BitVec 3)
  /-- FFMA (R142). -/
  | ffma (d : BitVec 3) (s : BitVec 3)
  /-- FSQRT (R142). -/
  | fsqrt (d : BitVec 3) (s : BitVec 3)
  /-- FMOV (R142). -/
  | fmov (d : BitVec 3) (s : BitVec 3)
  /-- FNEG (R142). -/
  | fneg (d : BitVec 3) (s : BitVec 3)
  /-- FABS (R142). -/
  | fabs (d : BitVec 3) (s : BitVec 3)
  /-- FCEQ (R142). -/
  | fceq (g : BitVec 3) (s : BitVec 3)
  /-- FCLT (R142). -/
  | fclt (g : BitVec 3) (s : BitVec 3)
  /-- FCLE (R142). -/
  | fcle (g : BitVec 3) (s : BitVec 3)
  /-- FCUN (R142). -/
  | fcun (g : BitVec 3) (s : BitVec 3)
  /-- FIN (R142). -/
  | fin (f : BitVec 3)
  /-- FOUT (R142). -/
  | fout (f : BitVec 3)
  /-- FCVTI (R143). -/
  | fcvti (f : BitVec 3)
  /-- FCVTU (R143). -/
  | fcvtu (f : BitVec 3)
  /-- FTOI (R143). -/
  | ftoi (f : BitVec 3)
  /-- FTOU (R143). -/
  | ftou (f : BitVec 3)
  /-- DADD (R168). -/
  | dadd (z : BitVec 3) (g : BitVec 3)
  /-- DSUB (R168). -/
  | dsub (z : BitVec 3) (g : BitVec 3)
  /-- DIVU (R167). -/
  | divu (z : BitVec 3) (g : BitVec 3)
  /-- DIVS (R167). -/
  | divs (z : BitVec 3) (g : BitVec 3)
  /-- SCRIPT_CALL (R145). -/
  | scriptCall (idx : BitVec 10)
  /-- CALL_QUEUE_RESUME (R24). -/
  | callQueueResume
  /-- ABAR (R113). -/
  | abar (z : BitVec 6)
  /-- ABAR_RETIRE (R114). -/
  | abarRetire
  /-- RDOR (R26). -/
  | rdor (z : BitVec 3) (g : BitVec 3)
  /-- RDOR_COMPLETE (R26). -/
  | rdorComplete
  /-- RDTALLY (R26). -/
  | rdtally (z : BitVec 3) (g : BitVec 3)
  /-- RDTALLY_COMPLETE (R26). -/
  | rdtallyComplete
  /-- MSET (R147). -/
  | mset (z : BitVec 4)
  /-- MCLR (R147). -/
  | mclr (z : BitVec 4)
  /-- MINV (R147). -/
  | minv (z : BitVec 4)
  /-- MLOAD (R147). -/
  | mload (z : BitVec 1) (g : BitVec 3)
  /-- HALO (R148). -/
  | halo (edge : BitVec 2) (slot : BitVec 3) (z : BitVec 1)
  /-- ARD (R149). -/
  | ard (sel : BitVec 3) (g : BitVec 3)
  /-- AWR (R149). -/
  | awr (sel : BitVec 3) (g : BitVec 3)
  /-- YIELD (R82). -/
  | yield (z : BitVec 6)
  /-- UNPARK (R84). -/
  | unpark (z : BitVec 6)
  /-- UNPARK_RESUME (R84). -/
  | unparkResume
  /-- PLOAD (R351). -/
  | pload (z : BitVec 3) (g : BitVec 3)
  /-- PSTORE (R351). -/
  | pstore (z : BitVec 3) (g : BitVec 3)
  /-- SPLICE_OPCODE (R150). -/
  | spliceOpcode (op : BitVec 6) (snd : BitVec 2) (rcv : BitVec 2)
  /-- OPCODE_ANSWER (R369). -/
  | opcodeAnswer (d0 : BitVec 24) (d1 : BitVec 24)
  /-- OPCODE_WITHDRAWAL (R370). -/
  | opcodeWithdrawal
  /-- SPLICE_NOANSWER (R151). -/
  | spliceNoanswer
  /-- SPLICE_EVENT_OUT (R19). -/
  | spliceEventOut (n : BitVec 3)
  /-- CUETIME (R260). -/
  | cuetime (snd : BitVec 2) (rcv : BitVec 2)
  /-- CUEPOST (R260). -/
  | cuepost (snd : BitVec 2) (rcv : BitVec 2)
  /-- CUEPOST_RESUME (R28). -/
  | cuepostResume
  /-- CUE_ENTRY (R261). -/
  | cueEntry
  /-- CUE_EDGE_DUE (R263). -/
  | cueEdgeDue
  /-- TB_STEP_WRITE (R258). -/
  | tbStepWrite (value : BitVec 64)
  /-- TB_SLEW_WRITE (R258). -/
  | tbSlewWrite (value : BitVec 32)
  /-- SLEW_COMPLETE (R258). -/
  | slewComplete
  /-- TB_NOW_LOW_READ (R259). -/
  | tbNowLowRead (rd : Reader)
  /-- PTP_EVENT_MESSAGE (R257). -/
  | ptpEventMessage (port : BitVec 4) (domain : BitVec 8) (fcsOk : Bool)
  /-- CSI2_LONG_PACKET (R201). -/
  | csi2LongPacket (port : BitVec 5) (vc : BitVec 4) (dt : BitVec 6) (ecc : HdrEcc) (crcOk : Bool) (pixels : List Pixel)
  /-- CSI2_FRAME_START (R201). -/
  | csi2FrameStart (port : BitVec 5) (vc : BitVec 4) (ecc : HdrEcc)
  /-- CSI2_FRAME_END (R201). -/
  | csi2FrameEnd (port : BitVec 5) (vc : BitVec 4) (ecc : HdrEcc)
  /-- DPHY_DESKEW_BURST (R202). -/
  | dphyDeskewBurst (port : BitVec 5)
  /-- DPHY_ALIGNMENT_LOSS (R202). -/
  | dphyAlignmentLoss (port : BitVec 5) (vc : BitVec 4) (dt : BitVec 6)
  /-- CXP_IMAGE_HEADER (R204). -/
  | cxpImageHeader (link : BitVec 5) (stream : BitVec 8) (tag : BitVec 8) (pfnc : BitVec 32) (tap1x1y : Bool) (lineLen : BitVec 24)
  /-- CXP_STREAM_PACKET (R203). -/
  | cxpStreamPacket (link : BitVec 5) (stream : BitVec 8) (tag : BitVec 8) (crcOk : Bool) (pixels : List Pixel)
  /-- CXP_CONTROL_PACKET (R199); discovery: link discovery (R206). -/
  | cxpControlPacket (link : BitVec 5) (discovery : Bool) (bytes : List Byte)
  /-- CXP_TRIGGER_EDGE (R205). -/
  | cxpTriggerEdge (link : BitVec 5)
  /-- CXP_TRIGGER_RECEIVED (R205). -/
  | cxpTriggerReceived (link : BitVec 5)
  /-- GVSP_LEADER (R208). -/
  | gvspLeader (port : BitVec 4) (ip : BitVec 32) (udp : BitVec 16) (block : BitVec 64) (image : Bool) (pfnc : BitVec 32) (width : BitVec 32) (height : BitVec 32) (fcsOk : Bool)
  /-- GVSP_PAYLOAD (R208); first is the pixel of the block at which the packet ID places the bytes, len the bytes of its frame. -/
  | gvspPayload (port : BitVec 4) (ip : BitVec 32) (udp : BitVec 16) (block : BitVec 64) (first : BitVec 32) (pixels : List Pixel) (len : BitVec 16) (fcsOk : Bool)
  /-- GVSP_TRAILER (R209). -/
  | gvspTrailer (port : BitVec 4) (ip : BitVec 32) (udp : BitVec 16) (block : BitVec 64) (fcsOk : Bool)
  /-- ARP_REQUEST (R207). -/
  | arpRequest (port : BitVec 4) (ip : BitVec 32) (bytes : List Byte) (fcsOk : Bool)
  /-- SENSOR_LINK (R445). -/
  | sensorLink (i : BitVec 7)
  /-- LINE_COMPLETE (R22). -/
  | lineComplete (slot : BitVec 6)
  /-- CLAP (R237). -/
  | clap (fn : BitVec 6) (off : BitVec 21) (len : BitVec 8) (payload : BitVec 64)
  /-- ADM_CQ_ENABLE (R229). -/
  | admCqEnable (value : BitVec 64)
  /-- SLATE_FETCH (R239). -/
  | slateFetch (ch : BitVec 18) (slate : BitVec 512)
  /-- SLATE_TIMEOUT (R251). -/
  | slateTimeout (ch : BitVec 18)
  /-- DMA_READ_COMPLETION (R252). -/
  | dmaReadCompletion (ch : BitVec 18) (status : BitVec 8) (poisoned : Bool) (data : List Byte)
  /-- DMA_COMPLETION_TIMEOUT (R252). -/
  | dmaCompletionTimeout (ch : BitVec 18)
  /-- PCIE_LINKDOWN (R445). -/
  | pcieLinkdown (ltssm : BitVec 8)
  /-- PCIE_LINK_RETURN (R445). -/
  | pcieLinkReturn
  /-- EVENT_RECORD_WRITE (R249). -/
  | eventRecordWrite
  /-- SLATE_NOP (R245). -/
  | slateNop (ch : BitVec 18)
  /-- START (R233). -/
  | start (ch : BitVec 18)
  /-- STOP (R233). -/
  | stop (ch : BitVec 18)
  /-- STOP_COMPLETE (R233). -/
  | stopComplete (ch : BitVec 18)
  /-- MSG (R246). -/
  | msg (ch : BitVec 18)
  /-- MSG_ANSWER (R246). -/
  | msgAnswer (ch : BitVec 18)
  /-- PUT (R245). -/
  | put (ch : BitVec 18)
  /-- GET (R245). -/
  | get (ch : BitVec 18)
  /-- MARK (R245). -/
  | mark (ch : BitVec 18)
  /-- CREATE_CHANNEL (R231). -/
  | createChannel (ch : BitVec 18)
  /-- DESTROY_CHANNEL (R235). -/
  | destroyChannel (ch : BitVec 18)
  /-- DRAIN_END (R234). -/
  | drainEnd (ch : BitVec 18) (idle : Bool)
  /-- LOAD_RECIPE (R92). -/
  | loadRecipe (ch : BitVec 18) (img : Image)
  /-- UNBIND (R233). -/
  | unbind (ch : BitVec 18)
  /-- BIND_INPUT (R224). -/
  | bindInput (ch : BitVec 18)
  /-- BIND_OUTPUT (R247). -/
  | bindOutput (ch : BitVec 18)
  /-- CREW_SCAN (R287). -/
  | crewScan (ch : BitVec 18)
  /-- SCAN_COLLECT_END (R287). -/
  | scanCollectEnd
  /-- ATTEST (R401). -/
  | attest (ch : BitVec 18)
  /-- LOAD_PATCH (R408). -/
  | loadPatch (ch : BitVec 18) (img : Image)
  /-- RELOAD_VERIFY (R94). -/
  | reloadVerify (ch : BitVec 18)
  /-- LOG_READ (R413). -/
  | logRead (ch : BitVec 18)
  /-- CHANNEL_INFO (R247). -/
  | channelInfo (ch : BitVec 18)
  /-- SET_RANGE (R229). -/
  | setRange (ch : BitVec 18)
  /-- MGMT_TX (R247). -/
  | mgmtTx (ch : BitVec 18) (bytes : List Byte)
  /-- MGMT_RX (R247). -/
  | mgmtRx (ch : BitVec 18)
  /-- MGMT_CTL (R247). -/
  | mgmtCtl (ch : BitVec 18)
  /-- CREW_LINK_UP (R275). -/
  | crewLinkUp (p : BitVec 4) (nport : BitVec 4) (naddr : BitVec 8) (navalid : Bool) (ident : BitVec 128)
  /-- CREW_PORT_DOWN (R300). -/
  | crewPortDown (p : BitVec 4)
  /-- CREW_BYP_WRITE (R276). -/
  | crewBypWrite (value : BitVec 32)
  /-- BYPASS_SETTLED (R276). -/
  | bypassSettled
  /-- CREW_MSG_FRAME (R285). -/
  | crewMsgFrame (p : BitVec 4) (w : Wire)
  /-- HALO_FRAME (R297). -/
  | haloFrame (p : BitVec 4) (w : Wire)
  /-- RED_UP_FRAME (R304). -/
  | redUpFrame (p : BitVec 4) (w : Wire)
  /-- RED_DN_FRAME (R304). -/
  | redDnFrame (p : BitVec 4) (w : Wire)
  /-- TIME_FRAME (R307). -/
  | timeFrame (p : BitVec 4) (w : Wire)
  /-- CREW_SEV_FRAME (R309). -/
  | crewSevFrame (p : BitVec 4) (w : Wire)
  /-- SCAN_FRAME (R287). -/
  | scanFrame (p : BitVec 4) (w : Wire)
  /-- IDENT_FRAME (R287). -/
  | identFrame (p : BitVec 4) (w : Wire)
  /-- MGT_FRAME (R288). -/
  | mgtFrame (p : BitVec 4) (w : Wire)
  /-- MGTR_FRAME (R287). -/
  | mgtrFrame (p : BitVec 4) (w : Wire)
  /-- LINK_ACK (R282). -/
  | linkAck (p : BitVec 4) (lseq : BitVec 12) (crcOk : Bool)
  /-- LINK_NAK (R282). -/
  | linkNak (p : BitVec 4) (lseq : BitVec 12) (crcOk : Bool)
  /-- CREW_CREDIT_RETURN (R281). -/
  | crewCreditReturn (p : BitVec 4) (pool : BitVec 3) (total : BitVec 32) (crcOk : Bool)
  /-- DELAY_REQUEST (R307). -/
  | delayRequest (p : BitVec 4) (crcOk : Bool)
  /-- DELAY_RESPONSE (R307). -/
  | delayResponse (p : BitVec 4) (peer : BitVec 64) (crcOk : Bool)
  /-- DELAY_MEASURE (R307). -/
  | delayMeasure
  /-- TIME_FRAME_SEND (R307). -/
  | timeFrameSend
  /-- REPLAY_TIMEOUT (R282). -/
  | replayTimeout (p : BitVec 4)
  /-- SEND_SLOT_GO (R294). -/
  | sendSlotGo (p : BitVec 4) (slot : BitVec 5)
  /-- CREW_RTS_WRITE (R293). -/
  | crewRtsWrite (d : BitVec 8) (value : BitVec 32)
  /-- CREW_EPOCH_SWAP (R293). -/
  | crewEpochSwap
  /-- CREW_EPOCH_RELEASE (R293). -/
  | crewEpochRelease
  /-- CREW_OLDLIVE_CLEAR (R293). -/
  | crewOldliveClear
  /-- HXSEND (R297). -/
  | hxsend (snd : BitVec 2) (rcv : BitVec 2)
  /-- HXDONE (R299). -/
  | hxdone (snd : BitVec 2) (rcv : BitVec 2)
  /-- CRARM (R303). -/
  | crarm (snd : BitVec 2) (rcv : BitVec 2)
  /-- CRREAD (R304). -/
  | crread (snd : BitVec 2) (rcv : BitVec 2)
  /-- CR_GRP_WRITE (R302). -/
  | crGrpWrite (g : BitVec 4) (value : BitVec 32)
  /-- CREW_CONTRIBUTION (R303). -/
  | crewContribution (g : BitVec 4)
  /-- CREW_ROUND_TIMEOUT (R306). -/
  | crewRoundTimeout (g : BitVec 4)
  /-- PAIR_JOIN (R312). -/
  | pairJoin (ctl : BitVec 32)
  /-- HELLO_FRAME (R312). -/
  | helloFrame (h : Hello) (link : PairLink)
  /-- PAIR_TS_REACHED (R312). -/
  | pairTsReached
  /-- ORDER_FRAME (R314). -/
  | orderFrame (o : Option Ordered) (link : PairLink)
  /-- ORDERED_INPUT_DELIVERY (R314). -/
  | orderedInputDelivery
  /-- PAIR_TIME_ASSIGN (R316). -/
  | pairTimeAssign
  /-- NOTICE_FRAME (R315). -/
  | noticeFrame (n : Notice) (link : PairLink)
  /-- LINEWAIT_EXPIRY (R315). -/
  | linewaitExpiry (n : Notice)
  /-- DIGEST_FRAME (R317). -/
  | digestFrame (kind : BitVec 2) (number : BitVec 32) (digest : BitVec 64) (link : PairLink)
  /-- CMPTMO_EXPIRY (R317). -/
  | cmptmoExpiry (kind : BitVec 2) (number : BitVec 32)
  /-- VERDICT_FRAME (R320). -/
  | verdictFrame (cause : BitVec 4) (self : Bool) (link : PairLink)
  /-- VERDICT_TIMEOUT (R320). -/
  | verdictTimeout
  /-- HEARTBEAT_SILENT (R320). -/
  | heartbeatSilent
  /-- PAIR_HB_TOGGLE (R488). -/
  | pairHbToggle (hbI : Bool)
  /-- PAIR_SPLIT (R320). -/
  | pairSplit (ctl : BitVec 32)
  /-- MESH_RD (R344). -/
  | meshRd (k : Packet)
  /-- MESH_WR (R348). -/
  | meshWr (k : Packet)
  /-- MESH_ADD (R347). -/
  | meshAdd (k : Packet)
  /-- MESH_SWAP (R347). -/
  | meshSwap (k : Packet)
  /-- MESH_PWR (R326). -/
  | meshPwr (k : Packet)
  /-- MESH_RDR (R334). -/
  | meshRdr (k : Packet)
  /-- MESH_WRR (R334). -/
  | meshWrr (k : Packet)
  /-- MESH_CFGW (R326). -/
  | meshCfgw (k : Packet)
  /-- MESH_TRACE (R343). -/
  | meshTrace (rec : TraceRec)
  /-- MESH_PING (R326). -/
  | meshPing (k : Packet)
  /-- MESH_PONG (R326). -/
  | meshPong (k : Packet)
  /-- PACKET_FORWARD (R329). -/
  | packetForward (r : BitVec 6) (port : BitVec 3) (vn : BitVec 2) (inj : Option Packet)
  /-- MR_RTS_WRITE (R338). -/
  | mrRtsWrite (r : BitVec 6) (d : BitVec 6) (value : BitVec 32)
  /-- MR_EPOCH_SWAP (R338). -/
  | mrEpochSwap (r : BitVec 6)
  /-- MR_SWAP_COMPLETE (R338). -/
  | mrSwapComplete (r : BitVec 6)
  /-- MR_EPOCH_RELEASE (R338). -/
  | mrEpochRelease (r : BitVec 6)
  /-- MR_OLDLIVE_CLEAR (R338). -/
  | mrOldliveClear
  /-- MR_RATE_ENABLE (R336). -/
  | mrRateEnable (e : BitVec 7) (value : BitVec 32)
  /-- PATROL_BORROW (R352). -/
  | patrolBorrow (b : BitVec 4)
  /-- PATROL_COPY_DONE (R352). -/
  | patrolCopyDone (b : BitVec 4)
  /-- PATROL_TEST_DONE (R352). -/
  | patrolTestDone (b : BitVec 4) (mismatch : Bool)
  /-- SB_PIN_WRITE (R354). -/
  | sbPinWrite (n : BitVec 3) (value : BitVec 32)
  /-- SPL_CFGIN_WORD (R376). -/
  | splCfginWord (byHost : Bool) (w : BitVec 64)
  /-- CFG_BEGIN (R379). -/
  | cfgBegin (byHost : Bool) (ws : List (BitVec 64))
  /-- CFG_BLOCK (R378). -/
  | cfgBlock (byHost : Bool) (ws : List (BitVec 64))
  /-- CFG_ROUTE (R378). -/
  | cfgRoute (byHost : Bool) (ws : List (BitVec 64))
  /-- CFG_IOCELL (R378). -/
  | cfgIocell (byHost : Bool) (ws : List (BitVec 64))
  /-- CFG_QUEUE (R378). -/
  | cfgQueue (byHost : Bool) (ws : List (BitVec 64))
  /-- CFG_HARDOUT (R378). -/
  | cfgHardout (byHost : Bool) (ws : List (BitVec 64))
  /-- CFG_SAFE (R378). -/
  | cfgSafe (byHost : Bool) (ws : List (BitVec 64))
  /-- CFG_START (R380). -/
  | cfgStart (byHost : Bool) (ws : List (BitVec 64))
  /-- CFG_ABORT (R381). -/
  | cfgAbort (byHost : Bool) (ws : List (BitVec 64))
  /-- CRAM_CHECK (R382). -/
  | cramCheck (b : BitVec 6) (mismatch : Bool)
  /-- SPLICE_CAPTURE (R383). -/
  | spliceCapture
  /-- SPL_CAPCTL_GO (R383). -/
  | splCapctlGo (value : BitVec 32)
  /-- QUEUE_PUSH (R372). -/
  | queuePush (q : BitVec 4) (wd : BitVec 36) (pop : Bool)
  /-- QUEUE_POP (R371). -/
  | queuePop (q : BitVec 4)
  /-- QUEUE_RAM_READ (R371). -/
  | queueRamRead (q : BitVec 4) (addr : BitVec 12)
  /-- QUEUE_RAM_WRITE (R371). -/
  | queueRamWrite (q : BitVec 4) (addr : BitVec 12) (wd : BitVec 36)
  /-- QUEUE_DELAY_PUSH (R371). -/
  | queueDelayPush (q : BitVec 4) (wd : BitVec 36)
  /-- KP_TRANSITION (R392). -/
  | kpTransition (tok : Token)
  /-- KP_MTOKEN (R394). -/
  | kpMtoken (tok : Token)
  /-- KP_MTOKEN_END (R394). -/
  | kpMtokenEnd
  /-- MTOKEN_EXPIRY (R394). -/
  | mtokenExpiry
  /-- KP_DOMAIN_RELEASE (R406). -/
  | kpDomainRelease (tok : Token)
  /-- KP_IDENTITY (R388). -/
  | kpIdentity
  /-- TAMPER (R396). -/
  | tamper (src : BitVec 3)
  /-- VBAT_TAMPER (R397). -/
  | vbatTamper (src : BitVec 3)
  /-- SPDM_GET_VERSION (R400). -/
  | spdmGetVersion
  /-- SPDM_GET_CAPABILITIES (R400). -/
  | spdmGetCapabilities
  /-- SPDM_NEGOTIATE_ALGORITHMS (R400). -/
  | spdmNegotiateAlgorithms (supported : Bool)
  /-- SPDM_GET_DIGESTS (R400). -/
  | spdmGetDigests
  /-- SPDM_GET_CERTIFICATE (R400). -/
  | spdmGetCertificate (slot : BitVec 4) (off : BitVec 16) (len : BitVec 16)
  /-- SPDM_CHALLENGE (R400). -/
  | spdmChallenge (slot : BitVec 4) (nonce : BitVec 256)
  /-- SPDM_GET_MEASUREMENTS (R400). -/
  | spdmGetMeasurements (index : BitVec 8) (sign : Bool) (nonce : BitVec 256)
  /-- SPDM_KEY_EXCHANGE (R400). -/
  | spdmKeyExchange (slot : BitVec 4) (reqSession : BitVec 16)
  /-- SPDM_FINISH (R400). -/
  | spdmFinish (sid : BitVec 2) (macOk : Bool)
  /-- SPDM_HEARTBEAT (R400). -/
  | spdmHeartbeat (sid : BitVec 2)
  /-- SPDM_KEY_UPDATE (R400). -/
  | spdmKeyUpdate (sid : BitVec 2)
  /-- SPDM_END_SESSION (R400). -/
  | spdmEndSession (sid : BitVec 2)
  /-- IDE_KM_REQUEST (R402). -/
  | ideKmRequest (sid : Option (BitVec 2)) (op : IdeOp) (stream : BitVec 3) (sub : BitVec 3) (keySet : Bool)
  /-- JTAG_EXTEST (R492). -/
  | jtagExtest (cells : BitVec 1162)
  /-- JTAG_IDCODE (R492). -/
  | jtagIdcode
  /-- JTAG_SAMPLE_PRELOAD (R492). -/
  | jtagSamplePreload (cells : BitVec 1162)
  /-- JTAG_INTEST (R492). -/
  | jtagIntest (cells : BitVec 1162)
  /-- JTAG_BYPASS (R492). -/
  | jtagBypass (code : BitVec 8)
  /-- JTAG_DEBUG (R414). -/
  | jtagDebug (code : BitVec 8)
  /-- ERR_INJ_ARM (R450). -/
  | errInjArm (value : BitVec 32)
  /-- ERR_INJ_DISARM (R450). -/
  | errInjDisarm (value : BitVec 32)
  /-- ERROR_QUEUE_FLUSH (R448). -/
  | errorQueueFlush
  /-- LINK_PLL (R417). -/
  | linkPll (pll : BitVec 2) (group : BitVec 4)
  /-- ETHERNET_UNMATCHED_FRAME (R199); the frame from its destination address on, without FCS. -/
  | ethernetUnmatchedFrame (port : BitVec 4) (bytes : List Byte) (fcsOk : Bool)
  /-- SENSOR_LINK_UP (R199); fast: a D-PHY lane runs above 1.5 Gbit/s (R202). -/
  | sensorLinkUp (i : BitVec 7) (fast : Bool)
  /-- LINK_PLL_LOCK (R417). -/
  | linkPllLock (pll : BitVec 2) (group : BitVec 4)
  /-- CREW_SYNC_CLEAR (R308). -/
  | crewSyncClear
  /-- PAIR_JOIN_TIMEOUT (R312). -/
  | pairJoinTimeout
  /-- VBAT_LOST (R397). -/
  | vbatLost
  /-- LINE_COPY_COMPLETE (R220). -/
  | lineCopyComplete (slot : BitVec 6)
  deriving DecidableEq, Repr

end Sys2Proof
end

