-- ==== Sys2Proof/Decode.lean ====
section
/-!
DEFINITION. The opcode map of the Director (R125, Tables 5-5 to 5-15): the command that a 14-bit word stands for.  The
rows of spec/opcode_table.json themselves have no bits, so no word of the table spells a command.
-/

namespace Sys2Proof

/-- Group 0x0 (Table 5-7); lit is the literal word after an EXT word. -/
def systemWord (w lit : BitVec 14) : Option Instr :=
  let z : BitVec 6 := w.extractLsb' 0 6
  match (w.extractLsb' 6 4).toNat with
  | 0 => some (.nop z none)
  | 1 => some (.halt z)
  | 2 => some (.wfe z)
  | 3 => some (.sev z)
  | 4 => some (.wtu z)
  | 5 => some (.trap z)
  | 6 => some (.reti z)
  | 7 => some (.rep z)
  | 8 => some (.repn z)
  | 9 => some (.ext z lit)
  | 10 => some (.mfs z)
  | 11 => some (.mts z)
  | _ => none

/-- Group 0x4 (Table 5-8). -/
def indexedWord (w : BitVec 14) : Option Instr :=
  let am : BitVec 4 := w.extractLsb' 0 4
  let g : BitVec 3 := w.extractLsb' 4 3
  let op := (w.extractLsb' 4 6).toNat
  if 16 ≤ op ∧ op < 24 then some (.ldg g am)
  else if 24 ≤ op ∧ op < 32 then some (.stg g am)
  else
    match op with
    | 0 => some (.ldaIndexed am)
    | 1 => some (.staIndexed am)
    | 2 => some (.ldx am)
    | 3 => some (.stx am)
    | 4 => some (.ldy am)
    | 5 => some (.sty am)
    | 6 => some (.addMem am)
    | 7 => some (.subMem am)
    | 8 => some (.andMem am)
    | 9 => some (.orMem am)
    | 10 => some (.xorMem am)
    | 11 => some (.mulMem am)
    | 12 => some (.muluMem am)
    | _ => none

/-- UNARY and XFER of group 0x5 (Table 5-9a). -/
def moveWord (unary : Bool) (n : Nat) : Option Instr :=
  if unary then
    match n with
    | 0 => some (.neg)
    | 1 => some (.not)
    | 2 => some (.clz)
    | 3 => some (.popc)
    | 4 => some (.sext8)
    | 5 => some (.sext16)
    | 6 => some (.zext8)
    | _ => none
  else
    match n with
    | 0 => some (.xferAToX)
    | 1 => some (.xferXToA)
    | 2 => some (.xferAToY)
    | 3 => some (.xferYToA)
    | 4 => some (.xferAToRc)
    | 5 => some (.xferRcToA)
    | 6 => some (.xferAToDp)
    | _ => none

/-- Group 0x5 (Table 5-9a). -/
def aluWord (w : BitVec 14) : Option Instr :=
  let g : BitVec 3 := w.extractLsb' 0 3
  match (w.extractLsb' 3 7).toNat with
  | 0 => some (.add g)
  | 1 => some (.adc g)
  | 2 => some (.sub g)
  | 3 => some (.sbc g)
  | 4 => some (.and g)
  | 5 => some (.or g)
  | 6 => some (.xor g)
  | 7 => some (.andn g)
  | 8 => some (.mul g)
  | 9 => some (.mulu g)
  | 10 => some (.mova g)
  | 11 => some (.movg g)
  | 12 => some (.movx g)
  | 13 => some (.getx g)
  | 14 => some (.movy g)
  | 15 => some (.gety g)
  | 16 => some (.shl g)
  | 17 => some (.shr g)
  | 18 => some (.sar g)
  | 19 => some (.rol g)
  | 20 => some (.xch g)
  | 21 => some (.addx g)
  | 22 => some (.addy g)
  | 23 => moveWord true g.toNat
  | 24 => moveWord false g.toNat
  | _ => none

/-- Group 0x6 (Table 5-10). -/
def immediateWord (w : BitVec 14) : Option Instr :=
  let imm : BitVec 7 := w.extractLsb' 0 7
  match (w.extractLsb' 7 3).toNat with
  | 0 => some (.addi imm)
  | 1 => some (.subi imm)
  | 2 => some (.andi imm)
  | 3 => some (.ori imm)
  | 4 => some (.xori imm)
  | 5 => some (.addxi imm)
  | 6 => some (.addyi imm)
  | _ => some (.ldxi imm)

/-- Group 0x7 (Table 5-11). -/
def compareWord (w : BitVec 14) : Option Instr :=
  let d : BitVec 3 := w.extractLsb' 3 3
  let s : BitVec 3 := w.extractLsb' 0 3
  match (w.extractLsb' 6 4).toNat with
  | 0 => some (.ceq d s)
  | 1 => some (.cne d s)
  | 2 => some (.clt d s)
  | 3 => some (.cle d s)
  | 4 => some (.cgt d s)
  | 5 => some (.cge d s)
  | 6 => some (.cltu d s)
  | 7 => some (.cleu d s)
  | 8 => some (.cgtu d s)
  | 9 => some (.cgeu d s)
  | 10 => some (.cbs d s)
  | 11 => some (.cbc d s)
  | _ => none

/-- Group 0x9 (Table 5-12). -/
def transferWord (w : BitVec 14) : Option Instr :=
  let g : BitVec 3 := w.extractLsb' 0 3
  let z : BitVec 2 := w.extractLsb' 3 2
  match (w.extractLsb' 8 2).toNat, (w.extractLsb' 5 3).toNat with
  | 0, _ => some (.bra (w.extractLsb' 0 8))
  | 1, _ => some (.call (w.extractLsb' 0 8))
  | 2, 0 => some (.jmp z g)
  | 2, 1 => some (.callIndirect z g)
  | 2, 2 => some (.ret (w.extractLsb' 0 5))
  | _, _ => none

/-- Group 0xA (Tables 5-13 and 5-14). -/
def floatWord (w : BitVec 14) : Option Instr :=
  let d : BitVec 3 := w.extractLsb' 3 3
  let s : BitVec 3 := w.extractLsb' 0 3
  match (w.extractLsb' 6 4).toNat with
  | 0 => some (.fadd d s)
  | 1 => some (.fsub d s)
  | 2 => some (.fmul d s)
  | 3 => some (.fdiv d s)
  | 4 => some (.ffma d s)
  | 5 => some (.fsqrt d s)
  | 6 => some (.fmov d s)
  | 7 => some (.fneg d s)
  | 8 => some (.fabs d s)
  | 9 => some (.fceq d s)
  | 10 => some (.fclt d s)
  | 11 => some (.fcle d s)
  | 12 => some (.fcun d s)
  | 13 =>
    match d.toNat with
    | 0 => some (.fin s)
    | 1 => some (.fout s)
    | 2 => some (.fcvti s)
    | 3 => some (.fcvtu s)
    | 4 => some (.ftoi s)
    | 5 => some (.ftou s)
    | _ => none
  | _ => none

/-- Group 0xB (R144). -/
def decimalWord (w : BitVec 14) : Option Instr :=
  let z : BitVec 3 := w.extractLsb' 3 3
  let g : BitVec 3 := w.extractLsb' 0 3
  match (w.extractLsb' 6 4).toNat with
  | 0 => some (.dadd z g)
  | 1 => some (.dsub z g)
  | 2 => some (.divu z g)
  | 3 => some (.divs z g)
  | _ => none

/-- Group 0xD (Table 5-15, R147). -/
def arrayWord (w : BitVec 14) : Option Instr :=
  let f : BitVec 6 := w.extractLsb' 0 6
  let z : BitVec 3 := w.extractLsb' 3 3
  let g : BitVec 3 := w.extractLsb' 0 3
  match (w.extractLsb' 6 4).toNat with
  | 0 => some (.abar f)
  | 1 => some (.rdor z g)
  | 2 => some (.rdtally z g)
  | 3 =>
    match (w.extractLsb' 4 2).toNat with
    | 0 => some (.mset (w.extractLsb' 0 4))
    | 1 => some (.mclr (w.extractLsb' 0 4))
    | 2 => some (.minv (w.extractLsb' 0 4))
    | _ => some (.mload (w.extractLsb' 3 1) g)
  | 4 => some (.halo (w.extractLsb' 4 2) (w.extractLsb' 1 3) (w.extractLsb' 0 1))
  | 5 => some (.ard z g)
  | 6 => some (.awr z g)
  | 7 => some (.yield f)
  | 8 => some (.unpark f)
  | 9 => some (.pload z g)
  | 10 => some (.pstore z g)
  | _ => none

/-- Group 0xE (R150, R260). -/
def opcodeWord (w : BitVec 14) : Option Instr :=
  let op : BitVec 6 := w.extractLsb' 4 6
  let snd : BitVec 2 := w.extractLsb' 2 2
  let rcv : BitVec 2 := w.extractLsb' 0 2
  if op = 0x3E then some (.cuetime snd rcv)
  else if op = 0x3F then some (.cuepost snd rcv)
  else some (.spliceOpcode op snd rcv)

/-- The command of a Director word (Table 5-5), lit being the word after it; none where the tables of chapter 5 assign its
encoding to no instruction (R125). -/
def directorWord (w lit : BitVec 14) : Option Instr :=
  let d : BitVec 10 := w.extractLsb' 0 10
  match (w.extractLsb' 10 4).toNat with
  | 0 => systemWord w lit
  | 1 => some (.ldaDirect d)
  | 2 => some (.staDirect d)
  | 3 => some (.ldi d)
  | 4 => indexedWord w
  | 5 => aluWord w
  | 6 => immediateWord w
  | 7 => compareWord w
  | 8 =>
    if w.getLsbD 9 then some (.bz (w.extractLsb' 6 3) (w.extractLsb' 0 6))
    else some (.bnz (w.extractLsb' 6 3) (w.extractLsb' 0 6))
  | 9 => transferWord w
  | 10 => floatWord w
  | 11 => decimalWord w
  | 12 => some (.scriptCall d)
  | 13 => arrayWord w
  | 14 => opcodeWord w
  | _ => none

/-- A word whose encoding no table of chapter 5 assigns: it raises ILLEGAL (R125). -/
def unassignedWord (w : BitVec 14) : Bool := (directorWord w 0).isNone

/-- The command that the low nbits bits of w spell by the table's bits: no row of the table has any. -/
def decodeTableWord (_nbits _w : Nat) : Option Instr := none

end Sys2Proof
end

