-- ==== Sys2Proof/Config.lean ====
section
/-!
DEFINITION. What the spec leaves open, as constants without a body: nothing in Lean can evaluate them or prove a value
of them.  A statement that mentions one holds for every value of it.  Log entries 2, 3 and 4.
-/

namespace Sys2Proof.Config

/-- Free values: the n-th value that a step leaves open, of width w (log entry 2).  State holds the counter n. -/
opaque freeBits (w : Nat) (n : Nat) : BitVec w

/-- The micro-PC of a ROM library script's first microword: the spec gives no ROM address (R90; log entry 3). -/
opaque romEntry (idx : BitVec 10) : BitVec 14

/-- Digests, keys, signatures and MACs of ch. 14: standards outside the spec give their values (log entry 4).  The
argument is the purpose, then the bytes that the rule names. -/
opaque crypto (w : Nat) (purpose : Nat) (bytes : List Byte) : BitVec w

/-- What this part was made with: the device identifier, the owner key hashes and the rest of the MRAM contents that
manufacturing writes and no rule gives a value (log entry 5). -/
opaque provisioned (w : Nat) (item : Nat) : BitVec w

/-- The filter of crew time: the filtered offset after a TIME frame, from the one before it and how far the parent's time
lies ahead, in ns; no rule gives the filter (R308; log entry 15). -/
opaque timeFilter (old : BitVec 16) (ahead : Int) : BitVec 16

/-- The TRAP number of Envor's cue service: no rule gives it (R269; log entry 19). -/
opaque cueTrap : BitVec 6

end Sys2Proof.Config
end

