-- ==== Sys2Proof/Machine/Tab.lean ====
section
/-!
DEFINITION. Sparse tables: a list of (key, value) in one canonical form, keys strictly rising and no entry equal to
the default value `d`, so that equal tables are equal data.  Every memory and register array of the model is one.
-/

namespace Sys2Proof.Machine

/-- The value at key k; `d` where the table lists none. -/
def Tab.get {α : Type} (d : α) : Tab α → Nat → α
  | [], _ => d
  | (k', v) :: t, k => if k' = k then v else Tab.get d t k

/-- Write v at key k; writing the default removes the entry. -/
def Tab.set {α : Type} [DecidableEq α] (d : α) : Tab α → Nat → α → Tab α
  | [], k, v => if v = d then [] else [(k, v)]
  | (k', v') :: t, k, v =>
    if k < k' then (if v = d then (k', v') :: t else (k, v) :: (k', v') :: t)
    else if k = k' then (if v = d then t else (k, v) :: t)
    else (k', v') :: Tab.set d t k v

/-- Replace the value at key k by its image. -/
def Tab.upd {α : Type} [DecidableEq α] (d : α) (t : Tab α) (k : Nat) (f : α → α) : Tab α :=
  Tab.set d t k (f (Tab.get d t k))

/-- Write a list of values from key k on. -/
def Tab.setList {α : Type} [DecidableEq α] (d : α) (t : Tab α) (k : Nat) : List α → Tab α
  | [] => t
  | v :: vs => Tab.setList d (Tab.set d t k v) (k + 1) vs

/-- Read n values from key k on. -/
def Tab.getList {α : Type} (d : α) (t : Tab α) (k : Nat) : Nat → List α
  | 0 => []
  | n + 1 => Tab.get d t k :: Tab.getList d t (k + 1) n

/-- Write a table of n values given by a function of the key. -/
def Tab.ofFn {α : Type} [DecidableEq α] (d : α) (n : Nat) (f : Nat → α) : Tab α :=
  (List.range n).foldl (fun t k => Tab.set d t k (f k)) []

/-- Every key is above b, keys rise, and no entry equals the default. -/
def Tab.wfFrom {α : Type} [DecidableEq α] (d : α) : Nat → Tab α → Bool
  | _, [] => true
  | b, (k, v) :: t => decide (b ≤ k) && decide (v ≠ d) && Tab.wfFrom d (k + 1) t

/-- The canonical form. -/
def Tab.wf {α : Type} [DecidableEq α] (d : α) (t : Tab α) : Bool := Tab.wfFrom d 0 t

end Sys2Proof.Machine
end

