-- ==== Sys2Proof/Machine/State.lean ====
section
/-!
DEFINITION. The state of the SLX-A256 as plain data, one structure per block of Table 1-1, the queue of waiting
commands, and the state right after a power-on reset.
-/

namespace Sys2Proof.Machine

/-- What the model reports outside a next state: nothing faults (every command of the table has an effect, or finds its
conditions unmet and changes nothing).  Kept as the closed type that the interface asks for; no definition raises it. -/
inductive Fault where
  /-- Raised by nothing. -/
  | none
  deriving DecidableEq, Repr

/-- Refusals of a step. -/
inductive Refusal where
  /-- Raised by an arm of Dispatch.lean whose command has no meaning yet; safe. -/
  | notModelled (mnemonic : String)
  deriving DecidableEq, Repr

/-- What a CoaXPress stream packet carries: an image header, or pixels with the verdict of its CRC. -/
inductive CxpItem where
  | header (pfnc : BitVec 32) (tap1x1y : Bool) (lineLen : BitVec 24)
  | data (crcOk : Bool) (px : List Pixel)
  deriving DecidableEq, Repr

/-- A CoaXPress stream packet as it came on a link (R203). -/
structure CxpPacket where
  link : BitVec 5
  tag : BitVec 8
  item : CxpItem
  deriving DecidableEq, Repr

/-- What the device sends outside, in order: the model's own record of it (log entry 6). -/
inductive Out where
  /-- A posted memory write to host memory by function fn. -/
  | hostWrite (fn : BitVec 6) (addr : BitVec 64) (bytes : List Byte)
  /-- A memory read request to host memory. -/
  | hostRead (fn : BitVec 6) (addr : BitVec 64) (len : Nat)
  /-- An MSI-X message of vector vec of function fn (R250). -/
  | msix (fn : BitVec 6) (vec : BitVec 8)
  /-- An Uncorrectable Internal Error through AER on PF 0 (R454). -/
  | aerInternal
  /-- A PCIe correctable error (AER status bit). -/
  | aerCorrectable (bit : BitVec 5)
  /-- A crew frame on port p, as its cells. -/
  | crew (p : BitVec 4) (w : Wire)
  /-- A link control cell on port p: kind 0 ACK, 1 NAK, 2 credit return (pool in bits [2:0], the cells returned since training above
  them), 3 delay request, 4 delay response. -/
  | crewCell (p : BitVec 4) (kind : BitVec 3) (arg : BitVec 64)
  /-- What training sends on port p: this device's identifier, crew address with its VALID, and port number (R275). -/
  | crewTrain (p : BitVec 4) (ident : BitVec 128) (addr : BitVec 8) (valid : Bool)
  /-- A mesh packet delivered at an endpoint outside the model's memories. -/
  | mesh (router : BitVec 6) (port : BitVec 1) (k : Packet)
  /-- A CoaXPress trigger packet on a link, with its delay field (R205). -/
  | trigger (link : BitVec 5) (delay : BitVec 8)
  /-- A device-role link sends on a stream packet of the host-role link it mirrors (R206). -/
  | cxpCopy (link : BitVec 5) (stream : BitVec 8) (k : CxpPacket)
  /-- A device-role link answers link discovery (R206). -/
  | cxpDiscovery (link : BitVec 5)
  /-- A management packet sent on a sensor port (R247). -/
  | mgmt (port : BitVec 8) (bytes : List Byte)
  /-- An ARP reply (R207). -/
  | arp (port : BitVec 4) (ip : BitVec 32)
  /-- A Splice event input raised for one Splice cycle (R159). -/
  | spliceEvent (n : BitVec 3)
  /-- An SPDM or IDE_KM response (R400, R402): message code and payload fields. -/
  | spdm (code : BitVec 8) (fields : List (BitVec 512))
  /-- An edge at a Splice pin: bank, pin, level after it, and its time. -/
  | edge (bank : BitVec 3) (pin : BitVec 6) (level : Bool) (time : BitVec 96)
  /-- A value read by an outside reader (host register read, SMBus, JTAG): what it saw. -/
  | read (src : BitVec 8) (value : BitVec 128)
  /-- A JTAG shift result: the boundary-scan cells or the data register. -/
  | jtag (cells : BitVec 1162)
  deriving DecidableEq, Repr

/-- A halo slot (R49): the plane it is bound to, and 32 x 512 bits: bit 512 (r - 1) + c is position r beyond the edge at
coordinate c along it. -/
structure Halo where
  bound : Option (BitVec 12)
  data : BitVec 16384
  /-- Its edge's port has gone down and no new send has completed: moves read 0 (R300). -/
  dead : Bool
  deriving DecidableEq, Repr

/-- A plane-row segment waiting at a shadow port (R56): the slot and line job that sent it, its plane and PE row, and its 32 bits. -/
structure Seg where
  slot : BitVec 6
  line : Nat
  plane : BitVec 12
  row : BitVec 9
  bits : BitVec 32
  deriving DecidableEq, Repr

/-- The PE array (ch. 2). -/
structure Arr where
  c : Plane
  t : Plane
  m : Plane
  f : Plane
  g : Plane
  q : Plane
  s : Plane
  k0 : Plane
  k1 : Plane
  k2 : Plane
  k3 : Plane
  k4 : Plane
  k5 : Plane
  /-- Local memory, planes 0 to 4095 (R43). -/
  mem : Tab Plane
  /-- Segments with a poisoned check pattern: key 8192 plane + 16 row + tile column (R46). -/
  poison : Tab Bool
  /-- Halo slots: key 8 edge + slot, edges 0 N, 1 E, 2 S, 3 W (R49, R148). -/
  halo : Tab Halo
  /-- The segment at the head of each tile's shadow port (R56). -/
  shHead : Tab (Option Seg)
  /-- Segments behind the head: key 16 tile + corner-turn unit. -/
  shQueue : Tab (List Seg)
  /-- The unit whose segment each tile took last (rotation). -/
  shLast : Tab Nat
  /-- The microword of the current array cycle writes sub-bank 3 (R56). -/
  sb3 : Bool
  deriving DecidableEq, Repr

/-- An empty halo slot (R33). -/
def Halo.empty : Halo := { bound := none, data := 0#16384, dead := false }

/-- The array after memory initialisation (R32, R33): everything 0, the mask 1. -/
def Arr.reset : Arr :=
  { c := 0#peCount, t := 0#peCount, m := BitVec.allOnes peCount, f := 0#peCount, g := 0#peCount, q := 0#peCount,
    s := 0#peCount, k0 := 0#peCount, k1 := 0#peCount, k2 := 0#peCount, k3 := 0#peCount, k4 := 0#peCount,
    k5 := 0#peCount, mem := [], poison := [], halo := [], shHead := [], shQueue := [], shLast := [], sb3 := false }

/-- What the loader records of a path (R268, R269). -/
structure Path where
  trig : Nat
  k : Nat
  /-- Its first program word within the image. -/
  entry : Nat
  fp : Bool
  mingap : Nat
  cueMax : Nat
  /-- T_dir, the cue service calls of the slowest path, and T_arr. -/
  tDir : Nat
  cues : Nat
  tArr : Nat
  /-- The window need N. -/
  need : Nat
  deriving DecidableEq, Repr

/-- What is bound to a channel by LOAD_RECIPE (R232, R247): the retained image, the allocations, the deadline. -/
structure Recipe where
  img : Image
  /-- PBASE and PCNT of sub-banks 0 to 3. -/
  pbase : List Nat
  pcnt : List Nat
  /-- The staging window: first staging line and number of lines. -/
  win : Nat
  wlen : Nat
  deadline : Nat
  /-- The proven worst case in ns (R271). -/
  proven : Nat
  /-- Micro-PC of its first microword and address of its first program word. -/
  base : Nat
  prog : Nat
  /-- Bytes that the retained image takes of staging bank 14 (Table 8-5). -/
  bytes : Nat
  paths : List Path
  /-- The longest charged count of an atomic script, and the longest non-interruptible stretch of the program (R271). -/
  atomic : Nat
  stretch : Nat
  /-- The slots bound to the channel, in the order of their binding (TRIG 0, K). -/
  inputs : List Nat
  deriving DecidableEq, Repr

/-- What an entry of the script queue is (R24, R77, R113, R148, R351, R83). -/
inductive EntryKind where
  | script
  | mset | mclr | minv
  | mload (plane : BitVec 12)
  | halo (edge : BitVec 2) (slot : BitVec 3) (plane : Option (BitVec 12))
  | abar
  | resume
  | transfer (toPlanes : Bool) (plane : BitVec 12) (n : Nat) (line : Nat)
  deriving DecidableEq, Repr

/-- An entry of the script queue with what it captured at issue (R24, R76). -/
structure Entry where
  kind : EntryKind
  idx : BitVec 10
  aa : Tab Word
  pr : Tab Word
  ch : BitVec 18
  /-- The charged count of R74, or the fixed count of an entry that is no script. -/
  total : Nat
  /-- Names the entry: an ABAR's own entry (R114), a crew contribution's entry (R303). -/
  serial : Nat
  /-- The order of issue; an unpark renews it (R83). -/
  order : Nat
  deriving DecidableEq, Repr

/-- The entry that issues, with the sequencing state of R68 to R71. -/
structure Run where
  e : Entry
  upc : BitVec 14
  lc : Tab (BitVec 12)
  ix : Tab (BitVec 12)
  cix : BitVec 6
  /-- Cycles of the charged count not yet issued. -/
  remain : Nat
  /-- Cycles issued so far. -/
  phase : Nat
  orb : Bool
  allb : Bool
  countb : BitVec 18
  /-- END has issued: padding (R71). -/
  ended : Bool
  /-- The microword issued last is a checkpoint (R79). -/
  ckpt : Bool
  /-- The number of this run: samples carry it (R69). -/
  run : Nat
  /-- The cycle y0 to y39 of Table 3-9 that issues next, and whether it belongs to a switch sequence (R85) and not to a
  standalone restore (R88); none while the entry issues its own cycles. -/
  sw : Option (Nat × Bool)
  /-- Those cycles restore a resume entry; its record has been accepted (R88). -/
  incoming : Bool
  loads : Bool
  deriving DecidableEq, Repr

/-- A sample in flight in one of the trees (R51, R52). -/
structure Sample where
  cyc : Nat
  tally : Bool
  /-- The number of samples that are 1. -/
  count : Nat
  run : Nat
  idx : BitVec 10
  /-- The serial of the ABAR entry whose sampling it is, with the flag number (R113). -/
  abar : Option (Nat × Nat)
  deriving DecidableEq, Repr

/-- An image in force (R94): what RELOAD_VERIFY checks again.  `base` is the micro-PC of its first word and `pbase` the
address of its first program word. -/
structure Placed where
  img : Image
  base : Nat
  pbase : Nat
  persist : Bool
  /-- The channel whose retained copy it is; none for a vendor image. -/
  ch : Option (BitVec 18)
  deriving DecidableEq, Repr

/-- An image that has passed every check and waits for its commit boundary (R93). -/
structure Commit where
  p : Placed
  entries : List (BitVec 320)
  /-- The channel whose slate loads it, and when the wait began (ns). -/
  slateCh : BitVec 18
  since : Nat
  deriving DecidableEq, Repr

/-- The micro-sequencer and control store (ch. 3). -/
structure Seq where
  /-- Array cycles issued so far: the model's clock of the array domain. -/
  cyc : Nat
  run : Option Run
  queue : List Entry
  /-- The park stack, top level first (R83). -/
  park : List (List Entry)
  /-- Yield requests made and not yet in effect, oldest first: the serial that the next entry had at the request. -/
  reqs : List Nat
  serial : Nat
  runs : Nat
  samples : List Sample
  /-- Results that became readable in this array cycle (R61, CAP). -/
  freshOr : Option Nat
  freshTally : Option Nat
  /-- The result registers (Tables 2-7 and 2-8). -/
  resOr : Bool
  resTally : BitVec 19
  /-- The Director has read the result of the latest sampling that each register holds (R26). -/
  orTaken : Bool
  tallyTaken : Bool
  /-- ABAR results delivered: key the entry's serial, value (results, how many). -/
  abarRes : Tab (BitVec 5 × Nat)
  /-- PR0 to PR3 (Table 3-3). -/
  pr : Tab Word
  /-- MSEQ_CTL.YIELD_ON. -/
  yieldOn : BitVec 8
  /-- MSTAT.RESUME_REFUSED and MSTAT.REFUSE. -/
  resumeRefused : Bool
  refuse : BitVec 4
  /-- Patch RAM 0x2000 to 0x3FFF (R90). -/
  cs : Tab (BitVec 128)
  /-- The script table (Table 3-6). -/
  table : Tab (BitVec 320)
  /-- ST_COMMITS (R468). -/
  commits : BitVec 32
  images : List Placed
  waiting : Option Commit
  deriving DecidableEq, Repr

/-- The micro-sequencer after reset (R63, R73, R90, Tables 3-11 and 3-12). -/
def Seq.reset : Seq :=
  { cyc := 0, run := none, queue := [], park := [], reqs := [], serial := 0, runs := 0, samples := [],
    freshOr := none, freshTally := none, resOr := false, resTally := 0, orTaken := false, tallyTaken := false, abarRes := [], pr := [], yieldOn := 0,
    resumeRefused := false, refuse := 0, cs := [], table := [], commits := 0, images := [], waiting := none }

/-- Whether the Director issues (R134, R182, R183, R321, R439). -/
inductive DirRun where
  /-- Held in reset until BOOT is set. -/
  | held
  | running
  /-- HALT (R134). -/
  | halted
  /-- A double fault (R182). -/
  | doubleFault
  /-- An uncorrectable program word (PMEM_UE). -/
  | pmemUe
  /-- The pair's safe state (R321). -/
  | safe
  deriving DecidableEq, Repr

/-- The instruction at which the Director holds, if any. -/
inductive Hold where
  | none
  | wfe
  | wtu (u : BitVec 2)
  /-- A script call, mask, halo or transfer entry that found the queue full (R24): the instruction issues afresh. -/
  | queue (i : Instr)
  | unpark
  /-- A YIELD that issued while a switch sequence runs (R82). -/
  | yield
  | abar (serial : Nat)
  | rdor (g : BitVec 3)
  | rdtally (g : BitVec 3)
  /-- A Splice opcode outstanding (R150). -/
  | opcode (op : BitVec 6) (snd rcv : BitVec 2)
  /-- A cue write without a credit (R28). -/
  | cuepost (snd rcv : BitVec 2)
  deriving DecidableEq, Repr

/-- A repetition in progress (R152 to R155). -/
structure Rep where
  /-- The address of the prefix word. -/
  pc : BitVec 18
  /-- Repetitions still to run. -/
  count : Word
  /-- REPN: no interrupt. -/
  noInt : Bool
  /-- The value written to RC by a repetition (R154). -/
  held : Option Word
  /-- The literal of the repeated instruction's EXT pair, once read. -/
  lit : Option (BitVec 14)
  /-- Until a repetition has issued: the load in whose delay slot the prefix stands, as its register, its value, and the
  register's value before it (R132, R153, R501). -/
  slot : Option (BitVec 2 × Word × Word)
  /-- No repetition has issued since the prefix. -/
  fresh : Bool
  deriving DecidableEq, Repr

/-- The Director (ch. 5 and 6). -/
structure Dir where
  run : DirRun
  hold : Hold
  /-- Director cycles passed (Tables 5-17 and 6-1). -/
  cyc : Nat
  /-- The address of the word that issues next. -/
  pc : BitVec 18
  a : Word
  x : Word
  y : Word
  ph : Word
  rc : Word
  dp : BitVec 8
  mx : BitVec 19
  my : BitVec 19
  -- FLAGS (Table 5-2)
  priv : Bool
  cwp : BitVec 4
  ipl : BitVec 3
  ie : Bool
  dvz : Bool
  dv : Bool
  v : Bool
  c : Bool
  /-- The 96 physical window registers (R121). -/
  wreg : Tab Word
  /-- LK and the save set of each window: key 32 window + REG (Table 6-12, REG 8 to 20). -/
  wsave : Tab Word
  wsel : BitVec 9
  fpcr : Word
  /-- F0 to F7 (R169). -/
  f : Tab (BitVec 32)
  /-- AA0 to AA7. -/
  aa : Tab Word
  evm : BitVec 64
  evp : BitVec 64
  /-- The timebase latch of R160, bits [63:24]. -/
  tbl : BitVec 40
  /-- The low words of the compare units as last written: key 3 u + word. -/
  wtuw : Tab Word
  /-- The compare units' values and their armed bits (R161). -/
  wtuv : Tab (BitVec 64)
  wtuArmed : BitVec 4
  deriving DecidableEq, Repr

/-- The Director's trap, interrupt and isolation registers, its memories and its transient state (ch. 6). -/
structure Dsys where
  vbase : BitVec 8
  tcause : Word
  tdata : Word
  iact : BitVec 8
  irqsel : BitVec 6
  irqcfg : Tab (BitVec 4)
  chid : Word
  rgsel : BitVec 9
  /-- RGLO and RGHI: key RGSEL (Table 6-13). -/
  rglo : Tab Word
  rghi : Tab (BitVec 10)
  adirty : Bool
  fdirty : Bool
  fown : BitVec 19
  aown : BitVec 19
  sfch : BitVec 18
  /-- DSTATE (Table 6-6). -/
  lastrst : BitVec 2
  dfault : Bool
  normal : Bool
  /-- A double fault has stopped the Director since its latest reset: what the next reset shows in DFAULT (R183). -/
  doubled : Bool
  /-- MRH : MRL, and the products in the maintenance pipeline with the Director cycle from which each is seen. -/
  mr : BitVec 48
  mpipe : List (BitVec 48 × Nat)
  /-- AFSTAT.EN and AFSTAT.FLAGS (Table 4-6 (a)). -/
  afEn : BitVec 5
  afFlags : BitVec 5
  /-- The load in its delay slot (R132): register 1 A, 2 X, 3 Y, and the value. -/
  ld : Option (BitVec 2 × Word)
  /-- The literal of an EXT pair read (R127). -/
  ext : Option (BitVec 14)
  rep : Option Rep
  /-- ABAR holds interrupted: key the handler's window, value the serial + 1 (R114). -/
  abarHeld : Tab Nat
  /-- Repetitions of REPN that an entry interrupted: key the handler's window (R155, R163). -/
  repnHeld : Tab Bool
  /-- Data memory and program memory. -/
  dmem : Tab Word
  pmem : Tab (BitVec 14)
  /-- Uncorrectable words. -/
  dpoison : Tab Bool
  ppoison : Tab Bool
  deriving DecidableEq, Repr

/-- The Director's registers after power-on or warm reset (Tables 5-1 and 5-2); it is held until BOOT (R439). -/
def Dir.reset : Dir :=
  { run := .held, hold := .none, cyc := 0, pc := 0, a := 0, x := 0, y := 0, ph := 0, rc := 0, dp := 0, mx := 0,
    my := 0, priv := true, cwp := 0, ipl := 0, ie := false, dvz := false, dv := false, v := false, c := false,
    wreg := [], wsave := [], wsel := 0, fpcr := 0, f := [], aa := [], evm := 0, evp := 0, tbl := 0, wtuw := [],
    wtuv := [], wtuArmed := 0 }

/-- The registers of Table 6-7 after reset; lastrst is 0b00 power-on, 0b01 warm, 0b10 Director reset. -/
def Dsys.reset (lastrst : BitVec 2) : Dsys :=
  { vbase := 0xFF, tcause := 0x00FF00, tdata := 0, iact := 0, irqsel := 0, irqcfg := [], chid := 0, rgsel := 0,
    rglo := [], rghi := [], adirty := false, fdirty := false, fown := 0, aown := 0, sfch := 0, lastrst := lastrst,
    dfault := false, normal := false, doubled := false, mr := 0, mpipe := [], afEn := 0, afFlags := 0, ld := none, ext := none,
    rep := none, abarHeld := [], repnHeld := [], dmem := [], pmem := [], dpoison := [], ppoison := [] }

/-- A sensor port: SP_CFG, SP_IP, SP_STAT, SP_UNCL (Table 7-2) and what the host set through MGMT_CTL (Table 8-12). -/
structure Port where
  /-- SP_CFG without KIND, which is fixed by the port number. -/
  cfg : BitVec 32
  ip : BitVec 32
  up : Bool
  errs : BitVec 16
  uncl : BitVec 32
  /-- Multicast groups joined (Ethernet). -/
  groups : List (BitVec 32)
  /-- CoaXPress bit rate code (R203). -/
  rate : BitVec 8
  /-- The D-PHY lanes run above 1.5 Gbit/s, and the initial deskew burst has been received (R202). -/
  fast : Bool
  deskew : Bool
  deriving DecidableEq, Repr

/-- A line that a slot has admitted (R221), from its first pixel to its record (R217). -/
structure LineJob where
  /-- Names the job within its slot. -/
  id : Nat
  /-- LINE, the slot's arrival count (R217). -/
  line : BitVec 24
  /-- The time of the line (R21), once its last pixel has entered the FIFO. -/
  time : Option (BitVec 64)
  row : BitVec 9
  group : BitVec 4
  fs : Bool
  fe : Bool
  /-- The frame of the slot to which the line belongs: its count since binding, from 1; 0 none. -/
  frame : Nat
  /-- The registers under which it was admitted (R223). -/
  fmt : BitVec 32
  roi : BitVec 32
  place : BitVec 32
  alloc : BitVec 32
  ev : BitVec 32
  copy : BitVec 32
  chan : BitVec 18
  /-- Bytes it holds in the FIFO. -/
  bytes : Nat
  /-- The kept pixels of the region, each as its P kept bits; [] until complete. -/
  px : List (BitVec 48)
  /-- Segments not yet written by the shadow ports. -/
  segs : Nat
  /-- Double mode: this member has reported the line (R315). -/
  noticed : Bool
  /-- Its segments have joined the shadow queues (R219). -/
  queued : Bool
  /-- The slot's binding, by number, under which it was admitted (R223). -/
  bind : Nat
  deriving DecidableEq, Repr

/-- A line whose data is still arriving at a slot: what has come of it. -/
structure Arriving where
  /-- The line's index within its image or block. -/
  index : Nat
  /-- 0 admitted, 1 to 5 dropped by that row of Table 7-5 (1 OVF, 2 RATE, 3 INC, 4 FMT, 5 ALLOC), 6 ignored. -/
  fate : BitVec 3
  /-- Names the line's job when it was admitted. -/
  id : Nat
  /-- (first pixel, pixels) pieces received. -/
  parts : List (Nat × List Pixel)
  bad : Bool
  deriving DecidableEq, Repr

/-- What a slot has received of its stream under one binding (R203, R204, R208, R209, R223). -/
structure Rx where
  /-- CT_SRC of the binding. -/
  src : BitVec 32
  /-- The image or block in progress is accepted; its line length, height, block number and next pixel. -/
  accept : Bool
  width : Nat
  height : Nat
  block : BitVec 64
  pos : Nat
  /-- CoaXPress: the next packet tag, none before the first image header; packets held for reordering; and a packet of
  the image was lost (R203). -/
  tag : Option (BitVec 8)
  held : List CxpPacket
  gap : Bool
  arriving : List Arriving
  /-- Lines of the image or block that are over. -/
  ended : List Nat
  deriving DecidableEq, Repr

/-- Nothing received. -/
def Rx.empty : Rx :=
  { src := 0, accept := false, width := 0, height := 0, block := 0, pos := 0, tag := none, held := [], gap := false, arriving := [],
    ended := [] }

/-- A stream slot (Table 7-4) and its line state. -/
structure Slot where
  src : BitVec 32
  fmt : BitVec 32
  roi : BitVec 32
  place : BitVec 32
  lim : BitVec 32
  dmax : BitVec 32
  ev : BitVec 32
  chan : BitVec 32
  alloc : BitVec 32
  copy : BitVec 32
  lines : BitVec 32
  dropOvf : BitVec 32
  dropRate : BitVec 32
  dropInc : BitVec 32
  dropFmt : BitVec 32
  dropAlloc : BitVec 32
  dropCopy : BitVec 32
  /-- The arrival count (R217). -/
  arrival : BitVec 24
  /-- Bytes in the line FIFO (R221). -/
  fill : Nat
  /-- Tokens, in millionths of a line (R222). -/
  tokens : Nat
  /-- Frames since binding, and the index of the next line in its frame (R215). -/
  frame : Nat
  index : Nat
  /-- Lines dropped since the previous record, saturating at 31 (R217). -/
  dropSince : BitVec 5
  /-- LINE of the latest record. -/
  lastLine : BitVec 24
  /-- Bindings so far, and lines written since binding (R218, every NTH line) of the binding, by number, whose line was
  recorded last (R223). -/
  bind : Nat
  written : Nat
  writtenOf : Nat
  /-- Reception under the binding in force, and of lines admitted under earlier ones (R223). -/
  rx : Rx
  prev : List Rx
  /-- Jobs named so far. -/
  ids : Nat
  /-- Admitted lines in order. -/
  jobs : List LineJob
  /-- The last record written: its data address, its word 3 and its frame; none once its FE is settled (R218). -/
  lastRec : Option (BitVec 18 × Word × Nat)
  /-- The copy in progress: the first staging line and its lines (R220). -/
  copying : Option (Nat × List (BitVec 512))
  deriving DecidableEq, Repr

/-- A port after reset. -/
def Port.reset : Port :=
  { cfg := 0, ip := 0, up := false, errs := 0, uncl := 0, groups := [], rate := 0, fast := false, deskew := false }

/-- A slot after reset. -/
def Slot.reset : Slot :=
  { src := 0, fmt := 0, roi := 0, place := 0, lim := 0, dmax := 0, ev := 0, chan := 0, alloc := 0, copy := 0,
    lines := 0, dropOvf := 0, dropRate := 0, dropInc := 0, dropFmt := 0, dropAlloc := 0, dropCopy := 0, arrival := 0,
    fill := 0, tokens := 0, frame := 0, index := 0, dropSince := 0, lastLine := 0, bind := 0, written := 0, writtenOf := 0, rx := Rx.empty,
    prev := [], ids := 0, jobs := [], lastRec := none, copying := none }

/-- Sensor ingest (ch. 7): ports 0-31 CSI-2, 32-63 CoaXPress, 64-79 Ethernet; slots 0-63 (4 x unit + slot). -/
structure Ing where
  ports : Tab Port
  slots : Tab Slot
  deriving DecidableEq, Repr

/-- Ingest after reset. -/
def Ing.reset : Ing := { ports := [], slots := [] }

/-- The states of a channel (Table 8-4). -/
inductive ChState where
  | free | opened | bound | running | draining
  deriving DecidableEq, Repr

/-- The output bindings of a channel (BIND_OUTPUT, KIND 1 and 2; the cue pins are in the cue list). -/
structure Outputs where
  crew : List (BitVec 8)
  mac : Bool
  sign : Bool
  deriving DecidableEq, Repr

/-- The slate in execution on a channel (R239). -/
structure Exec where
  slate : BitVec 512
  /-- When it was accepted, in ns. -/
  since : Nat
  /-- Data received so far (DMA reads), in bytes, and how many bytes have been asked for. -/
  data : List Byte
  asked : Nat
  /-- Waits for an end of its own: a drain, a scan, a stop, a message answer, an image commit. -/
  waiting : Bool
  deriving DecidableEq, Repr

/-- A channel: its context bytes 0-23 (Table 8-4), its save frame (Table 6-16), its reel descriptors (Table 8-7), and
what the runtime and the host interface keep for it. -/
structure Chan where
  gen : BitVec 14
  st : ChState
  adm : Bool
  pri : BitVec 3
  dom : BitVec 6
  high : BitVec 16
  win : BitVec 128
  tout : BitVec 8
  late : BitVec 8
  /-- Bytes 24 to 63, byte 24 lowest. -/
  frame : BitVec 320
  /-- Uncorrectable 64-bit words of the context, bit w (CTX_ECC_UE). -/
  ue : BitVec 8
  fetch : BitVec 12
  tail : BitVec 12
  depth : BitVec 4
  sbase : BitVec 35
  write : BitVec 12
  head : BitVec 12
  phase : Bool
  vec : BitVec 8
  cbase : BitVec 31
  exec : Option Exec
  /-- Slates whose TIMEOUT record has been committed and whose result is still to come (R251). -/
  stale : List Exec
  recipe : Option Recipe
  out : Outputs
  /-- When the index became free, as an order (R230). -/
  freed : Nat
  /-- The admin channel whose DESTROY_CHANNEL waits for the drain (R234). -/
  destroyer : Option (BitVec 18)
  /-- A drain that a function reset began: no record is written (R253). -/
  silent : Bool
  /-- The latest time (R21) of a line of the channel that was written and recorded (R234). -/
  lastLine : BitVec 64
  /-- Rotation stamp of the last fetch (R239). -/
  served : Nat
  /-- When a path was last activated, in ns plus 1: key its place in the path table (R270). -/
  acts : Tab Nat
  /-- The slate in front is known to be the runtime's, which is not fetched while RUNTIME is 0 (R254). -/
  blocked : Bool
  deriving DecidableEq, Repr

/-- A channel that is FREE and was never used (R231): GEN 1, HIGH 0xFFFF. -/
def Chan.free : Chan :=
  { gen := 1, st := .free, adm := false, pri := 0, dom := 0, high := 0xFFFF, win := 0, tout := 0, late := 0,
    frame := 0, ue := 0, fetch := 0, tail := 0, depth := 0, sbase := 0, write := 0, head := 0, phase := false,
    vec := 0, cbase := 0, exec := none, stale := [], recipe := none, out := { crew := [], mac := false, sign := false },
    freed := 0, destroyer := none, silent := false, lastLine := 0, served := 0, acts := [], blocked := false }

/-- Channel 0 after reset: OPEN, admin-capable, priority 7, domain 0, no timeout (R229, R231). -/
def Chan.zero : Chan := { Chan.free with st := .opened, adm := true, pri := 7 }

/-- An event record waiting for channel 0 (Table 8-14). -/
structure EvRec where
  time : BitVec 64
  data : BitVec 32
  code : BitVec 16
  deriving DecidableEq, Repr

/-- The latch and the held parts of one function (R463): the register's offset, the parts written (bit per 32-bit
word) with their value, and the latched value of a reading with the parts it covers. -/
structure Half where
  off : Nat
  parts : BitVec 4
  held : BitVec 128
  latched : Option (BitVec 128)
  deriving DecidableEq, Repr

/-- An entry of a function's MSI-X table (R228, R250): message address and data, and the mask bit of its vector control. -/
structure MsixVec where
  addr : BitVec 64
  data : BitVec 32
  mask : Bool
  deriving DecidableEq, Repr

/-- An entry after reset: masked (PRESUMED, PCIe Base 5.0; log entry 58). -/
def MsixVec.reset : MsixVec := { addr := 0, data := 0, mask := true }

/-- A read request to host memory that is outstanding (Table 8-1): its channel, the bytes still to come, and whether the
PUT that asked for them still wants them (R251). -/
structure HostRd where
  ch : BitVec 18
  left : Nat
  live : Bool
  deriving DecidableEq, Repr

/-- The host interface (ch. 8 and R461-R471). -/
structure HostIf where
  base : Tab (BitVec 18)
  count : Tab (BitVec 19)
  dom : Tab (BitVec 64)
  clapDrop : Tab (BitVec 32)
  lastStat : Tab (BitVec 8)
  badAcc : Tab (BitVec 24)
  halves : Tab (Option Half)
  admSq : BitVec 64
  admCq : BitVec 64
  evOvf : BitVec 32
  /-- Event records lost since the previous 0x0007 record (R249). -/
  evLost : BitVec 32
  evq : List EvRec
  chans : Tab Chan
  /-- Orders given out: the stamps of `freed` and `served`. -/
  stamp : Nat
  /-- The link is up: writes and reads issue (detector 33). -/
  link : Bool
  /-- Writes held while the link is down, oldest first. -/
  outq : List Out
  /-- Max Payload Size and Max Read Request Size (Table 8-1), as Device Control encodes them: 128 bytes times 2 to that. -/
  mps : BitVec 3
  mrrs : BitVec 3
  /-- The MSI-X tables and pending bits: key 256 function + vector; and MSI-X Enable (bit 1) and Function Mask (bit 0) of
  each function (R228, R250). -/
  msix : Tab MsixVec
  msixPend : Tab Bool
  msixCtl : Tab (BitVec 2)
  /-- Read requests outstanding, oldest first; at most 768 (Table 8-1). -/
  reads : List HostRd
  deriving DecidableEq, Repr

/-- The host interface after reset (Table 8-3). -/
def HostIf.reset : HostIf :=
  { base := [], count := [(0, 0x40000)], dom := [(0, BitVec.allOnes 64)], clapDrop := [], lastStat := [], badAcc := [],
    halves := [], admSq := 0, admCq := 0, evOvf := 0, evLost := 0, evq := [], chans := [(0, Chan.zero)], stamp := 0,
    link := true, outq := [], mps := 0, mrrs := 2, msix := [], msixPend := [], msixCtl := [], reads := [] }

/-- A pending cue entry (Table 9-2), with which of its edges have fallen due. -/
structure CueEnt where
  time : BitVec 64
  obj : Word
  /-- true LEVEL, false PULSE. -/
  isLevel : Bool
  value : Bool
  npm1 : BitVec 3
  bank : BitVec 3
  pin : BitVec 6
  width : Word
  ch : BitVec 18
  /-- The rising edge of a PULSE has fallen due. -/
  rose : Bool
  /-- Some edge was masked (R265). -/
  masked : Bool
  /-- The place it holds among the 8,192. -/
  place : BitVec 13
  /-- Its stored word is uncorrectable (CUE_STORE_UE). -/
  ue : Bool
  deriving DecidableEq, Repr

/-- An entry as CUETIME and CUEPOST send it, before its judgement. -/
structure CuePost where
  time : BitVec 64
  a : Word
  x : Word
  y : Word
  ch : BitVec 18
  deriving DecidableEq, Repr

/-- A key window (R262): bit k of marks is the number HIGH - k. -/
structure KeyWin where
  high : Word
  marks : BitVec 64
  deriving DecidableEq, Repr

/-- The timebase and the cue list (ch. 9). -/
structure Cue where
  /-- The timebase: 64 bits of ns and a 32-bit fraction (R255). -/
  tb : BitVec 96
  ctl : BitVec 32
  adj : BitVec 32
  /-- The part of a slew not yet applied, in units of 2^-32 ns, and the tick within 125 (R258). -/
  slew : Int
  slewTick : Nat
  stepRef : Bool
  /-- The cue time latch of the Director (R260). -/
  latch : BitVec 64
  credits : Nat
  /-- Entries sent and not yet judged, oldest first. -/
  inbox : List CuePost
  pend : List CueEnt
  /-- The level that each pin holds by LEVEL entries: key 64 bank + pin. -/
  level : Tab Bool
  /-- Pin owner + 1; 0 for none. -/
  owner : Tab Nat
  /-- Pins whose owner has released them and that still have a pending entry (R265). -/
  release : Tab Bool
  keys : Tab (Option KeyWin)
  /-- CUEMAX of RUNNING and DRAINING channels (R267). -/
  cueMax : Tab Nat
  warn : BitVec 14
  hwm : BitVec 14
  rej : BitVec 64
  rejCnt : BitVec 32
  maskedCnt : BitVec 32
  /-- Pulse numbering of the two Splice cycles and the PTP event timestamps taken last: key port. -/
  ptpStamp : Tab (BitVec 64)
  deriving DecidableEq, Repr

/-- Timebase and cue list after reset (R259, Table 9-4): the list is empty, no key window stands, 16 credits. -/
def Cue.reset : Cue :=
  { tb := 0, ctl := 0, adj := 0, slew := 0, slewTick := 0, stepRef := false, latch := 0, credits := 16, inbox := [],
    pend := [], level := [], owner := [], release := [], keys := [], cueMax := [], warn := 7168, hwm := 0, rej := 0,
    rejCnt := 0, maskedCnt := 0, ptpStamp := [] }

/-- A frame in a port's replay buffer (R282, R283). -/
structure Replay where
  f : Frame
  /-- First transmission and latest transmission, in ns. -/
  first : Nat
  sent : Nat
  replays : Nat
  /-- Its acknowledgement is withheld (CREW_RETRY_EXH), its buffered copy is uncorrectable (CREW_RXBUF_UE): injected. -/
  withheld : Bool
  bad : Bool
  /-- The send slot it came from, when this device injected it. -/
  slot : Option (BitVec 9)
  deriving DecidableEq, Repr

/-- A crew port (ch. 10). -/
structure CrewPort where
  en : Bool
  up : Bool
  train : Bool
  nport : BitVec 4
  naddr : BitVec 8
  navalid : Bool
  /-- The neighbour's device identifier at training (R275). -/
  nident : BitVec 128
  txSeq : BitVec 12
  rxSeq : BitVec 12
  /-- Frames accepted from inside a longer frame that is still in progress: their LSEQs follow its own (R280). -/
  ahead : Nat
  /-- A NAK has been sent in this episode of discards. -/
  naked : Bool
  replay : List Replay
  /-- When the frame that is being sent ends, in units of 10 ps, and whether it is longer than one cell (R280). -/
  txEnd : Nat
  txLong : Bool
  /-- Cells spent per buffer pool: 0 MSG0, 1 MSG1, 2 HALO, 3 reductions, 4 TIME and SEV (Table 10-6); and the cells that the
  far end has returned since training. -/
  used : Tab Nat
  freed : Tab (BitVec 32)
  /-- Cells returned to the far end since training, per pool; and MSG cells kept back while no receive slot is free (R294). -/
  back : Tab (BitVec 32)
  owed : Tab Nat
  /-- When link control cells last repeated their state, in ns (R281). -/
  ctlAt : Nat
  /-- Frames waiting to be sent, oldest first, each with the send slot it came from, as port and slot. -/
  txq : List (Frame × Option (BitVec 9))
  /-- MSG frames accepted for this device with no receive slot free (R294), and whether they hold link credit. -/
  rxWait : List (Frame × Bool)
  /-- Send slots: the status 0 free, 1 sending, 2 DONE, 3 LOST, 4 NOROUTE, and their bytes, key 1,024 slot + byte (R294). -/
  sendSt : Tab (BitVec 3)
  sendBuf : Tab Byte
  /-- Receive slots. -/
  recv : Tab (Option Frame)
  /-- The link delay measured, in ns, and when the request in flight left, plus 1 (R307). -/
  delay : Nat
  delaySent : Nat
  deriving DecidableEq, Repr

/-- A crew port after reset: EN 1, link down (Table 10-11). -/
def CrewPort.reset : CrewPort :=
  { en := true, up := false, train := false, nport := 0, naddr := 0, navalid := false, nident := 0, txSeq := 0, rxSeq := 0,
    ahead := 0, naked := false, replay := [], txEnd := 0, txLong := false, used := [], freed := [], back := [], owed := [],
    ctlAt := 0, txq := [], rxWait := [], sendSt := [], sendBuf := [], recv := [], delay := 0, delaySent := 0 }

/-- The message window of one source address (R285). -/
structure MsgWin where
  inc : BitVec 8
  high : BitVec 16
  marks : BitVec 64
  deriving DecidableEq, Repr

/-- A scan in which this device takes part (R287). -/
structure Scan where
  /-- The scanner's identifier and scan number. -/
  ident : BitVec 128
  num : BitVec 16
  /-- This device is the scanner. -/
  mine : Bool
  parent : BitVec 4
  hops : BitVec 32
  /-- Ports from which this scan's SCAN frames came. -/
  from_ : BitVec 16
  since : Nat
  deriving DecidableEq, Repr

/-- A CREW_SCAN of this device (R287): the records it collects, and the change of routes that follows (R293). -/
structure OwnScan where
  num : BitVec 16
  /-- The channel whose slate waits for the report. -/
  ch : Option (BitVec 18)
  lastIdent : Nat
  /-- Records collected (64 bytes each). -/
  records : List (BitVec 512)
  /-- Addresses and routes have been sent: the MGTR frames still due, by device. -/
  loading : Bool
  due : List (BitVec 128 × Nat)
  /-- When SWAP was written everywhere, in ns plus 1; 0 not yet. -/
  swapped : Nat
  deriving DecidableEq, Repr

/-- A frame that crosses the mesh from one crew port to another as PWR packets (R290, R335), and the segments that have arrived. -/
structure Transit where
  src : BitVec 4
  dst : BitVec 4
  tag : BitVec 10
  epoch : BitVec 4
  words : Nat
  slot : Option (BitVec 9)
  segs : List (Nat × BitVec 512)
  deriving DecidableEq, Repr

/-- A halo send waiting for its sequence point (R298). -/
structure HxSend where
  edge : BitVec 2
  slot : BitVec 3
  plane : BitVec 12
  /-- Entries with a serial below it come before the sequence point. -/
  serial : Nat
  /-- The plane as it stood when an entry issued after the HXSEND started. -/
  snap : Option Plane
  deriving DecidableEq, Repr

/-- Values of a reduction: OR, FAIL, COUNT. -/
structure Red where
  or : Bool
  fail : Bool
  count : BitVec 27
  deriving DecidableEq, Repr

/-- A reduction group's round on this device (R303 to R306). -/
structure Group where
  round : BitVec 16
  /-- CRARM armed it: tree (1 OR, 2 tally, 3 both), channel, and the serial from which its entry is looked for. -/
  armed : Option (BitVec 2 × BitVec 18 × Nat)
  /-- The serial of the contributing entry, once it has issued. -/
  entry : Option Nat
  /-- The latest sample value of that entry, per tree. -/
  lastOr : Bool
  lastTally : BitVec 27
  /-- The array cycle by which its latest sample in each tree is readable. -/
  readyOr : Nat
  readyTally : Nat
  /-- The own contribution, in hand. -/
  own : Option Red
  /-- RED_UP received: key the port, with its round. -/
  kids : List (BitVec 4 × BitVec 16 × Red)
  /-- RED_DN of the next round, which came before that round was armed here. -/
  early : Option (BitVec 16 × Red)
  /-- RED_UP has been sent, or RED_DN by the root. -/
  sent : Bool
  /-- The round is in progress here since, in ns plus 1; 0 none. -/
  since : Nat
  /-- The result held for CRREAD, with its round. -/
  res : Option (BitVec 16 × Red)
  /-- An injected failure of the next round (CREW_RED_FAIL). -/
  failNext : Bool
  deriving DecidableEq, Repr

/-- A group before its first round. -/
def Group.reset : Group :=
  { round := 0, armed := none, entry := none, lastOr := false, lastTally := 0, readyOr := 0, readyTally := 0, own := none,
    kids := [], early := none, sent := false,
    since := 0, res := none, failNext := false }

/-- The crew (ch. 10). -/
structure Crew where
  ports : Tab CrewPort
  /-- Counters: key 16 port + c, c = 0 LOST, 1 RETRY, 2 BAD, 3 NOROUTE, 4 TTL, 5 EPOCH, 6 DUP, 7 HX, 8 CR, 9 SEV. -/
  cnt : Tab (BitVec 32)
  bypOpen : Bool
  bypState : Bool
  addr : BitVec 32
  remote : Bool
  tmaster : Bool
  tparent : BitVec 4
  /-- The incarnation, kept in MRAM. -/
  inc : BitVec 8
  cur : BitVec 4
  stby : Bool
  oldlive : Bool
  released : Bool
  /-- The other route table (standby or old) and the current one, 256 entries each. -/
  rts : Tab (BitVec 8)
  rtc : Tab (BitVec 8)
  hxmap : BitVec 32
  grp : Tab (BitVec 32)
  /-- A write to CR_GRP that waits for its round to end: value, and when it was made (ns). -/
  grpNext : Tab (Option (BitVec 32 × Nat))
  groups : Tab Group
  /-- CREW_TSTAT: SYNC, DEPTH, OFFSET. -/
  sync : Bool
  tdepth : BitVec 4
  toffset : BitVec 16
  /-- Consecutive TIME frames within 0.25 ns, and consecutive losses. -/
  tgood : Nat
  tlost : Nat
  /-- When TIME frames and a DELAY request last went out, in ns plus 1 (R307). -/
  timeSent : Nat
  delayAt : Nat
  wins : Tab (Option MsgWin)
  /-- Frames that cross the mesh between ports, and the number of the next. -/
  transit : List Transit
  tag : BitVec 10
  scanNum : BitVec 16
  /-- The scan in which this device takes part, and its own CREW_SCAN. -/
  scan : Option Scan
  own : Option OwnScan
  sends : List HxSend
  hxNum : Tab (BitVec 16)
  /-- Parts received per slot: key 8 edge + slot, the send number and the parts. -/
  hxParts : Tab (BitVec 16 × BitVec 4)
  /-- HXDONE bits, 8 edge + slot. -/
  hxDone : BitVec 32
  deriving DecidableEq, Repr

/-- Crew state after a reset (Table 10-11); the incarnation is MRAM's. -/
def Crew.reset (inc : BitVec 8) : Crew :=
  { ports := [], cnt := [], bypOpen := false, bypState := false, addr := 0, remote := true, tmaster := false,
    tparent := 0, inc := inc, cur := 0, stby := false, oldlive := false, released := false, rts := [], rtc := [],
    hxmap := 0, grp := [], grpNext := [], groups := [], sync := false, tdepth := 0, toffset := 0, tgood := 0,
    tlost := 0, timeSent := 0, delayAt := 0, wins := [], transit := [], tag := 0, scanNum := 0, scan := none, own := none, sends := [], hxNum := [], hxParts := [], hxDone := 0 }

/-- PAIR_STAT.STATE (Table 11-4). -/
inductive PairSt where
  | solo | joining | paired | safe
  deriving DecidableEq, Repr

/-- An output held until the partner produces it too (Table 11-1). -/
inductive HeldOut where
  | cue (p : CuePost)
  | frame (port : BitVec 4) (f : Frame) (slot : Option (BitVec 9))
  | record (outs : List Out)
  | sig
  deriving DecidableEq, Repr

/-- A held output: its kind, number and digest, when it was made (ns). -/
structure Held where
  kind : BitVec 2
  num : BitVec 32
  digest : BitVec 64
  since : Nat
  out : HeldOut
  deriving DecidableEq, Repr

/-- Double mode (ch. 11). -/
structure Pair where
  ctl : BitVec 32
  tim : BitVec 32
  st : PairSt
  refuse : BitVec 4
  cause : BitVec 4
  /-- PAIR_STAT.SELF, and whether an uncorrectable detector has logged since PAIRED. -/
  self : Bool
  ueSince : Bool
  /-- PAIR_HB_O, and when PAIR_HB_I last toggled (ns plus 1; 0 never). -/
  hbOut : Bool
  hbIn : Nat
  /-- T_s, and the Director cycle count at T_s. -/
  ts : BitVec 64
  cyc0 : Nat
  since : Nat
  /-- The pair sequence number of the next PAIR frame sent. -/
  seq : BitVec 30
  /-- Ordered inputs waiting for their delivery cycle. -/
  orders : List Ordered
  /-- Outputs numbered so far per kind. -/
  nums : Tab (BitVec 32)
  held : List Held
  /-- Partner digests whose own output is not yet there: kind, number, digest. -/
  theirs : List (BitVec 2 × BitVec 32 × BitVec 64)
  /-- Own occurrences of paired inputs and the mate's notices, in order of arrival, with their time (R315). -/
  mine : List (Notice × Nat)
  notices : List (Notice × Nat)
  /-- Pair time: the latest pair-time input and its Director cycle, and the latest value read (R316). -/
  ptime : BitVec 64
  pcyc : Nat
  plast : BitVec 64
  /-- A VERDICT has been sent at (ns plus 1), with the number of the diverged item. -/
  verdict : Nat
  divNum : BitVec 24
  /-- The latest digest sent was inverted by an injection (PAIR_DIVERGE). -/
  inverted : Bool
  /-- When the lead last assigned a pair-time input, in ns plus 1. -/
  assigned : Nat
  /-- The mate's maintenance reel, kept apart from channel 0 (R319). -/
  maint : Chan
  /-- The partner's device identifier, from its HELLO, and the port words of the lead's scan record (R319, Table 10-7). -/
  partner : BitVec 128
  ports : BitVec 256
  /-- The next PAIR frame's sequence number expected (Table 11-3). -/
  rxNum : BitVec 30
  /-- The signature of retired instruction addresses and the cycle it runs from (Table 11-1, kind 3). -/
  sig : BitVec 64
  sigCyc : Nat
  deriving DecidableEq, Repr

/-- Pair registers after reset (Table 11-4). -/
def Pair.reset : Pair :=
  { ctl := 0, tim := 0x25801414, st := .solo, refuse := 0, cause := 0, self := false, ueSince := false, hbOut := false,
    hbIn := 0, ts := 0, cyc0 := 0, since := 0, seq := 0, orders := [], nums := [], held := [], theirs := [],
    mine := [], notices := [], ptime := 0, pcyc := 0, plast := 0, verdict := 0, divNum := 0, inverted := false, assigned := 0, maint := Chan.zero, partner := 0, ports := 0, rxNum := 0, sig := 0, sigCyc := 0 }

/-- A router's epoch state (R338). -/
structure Router where
  cur : Bool
  stby : Bool
  pend : Bool
  oldlive : Bool
  released : Bool
  notgt : BitVec 32
  expire : BitVec 32
  epoch : BitVec 32
  deriving DecidableEq, Repr

/-- A router after reset. -/
def Router.reset : Router :=
  { cur := false, stby := false, pend := false, oldlive := false, released := false, notgt := 0, expire := 0,
    epoch := 0 }

/-- The X-first route of R339 from router r toward router d: 0 N, 1 E, 2 S, 3 W, 4 LOCAL. -/
def xFirst (r d : Nat) : BitVec 3 :=
  if r % 6 < d % 6 then 1 else if d % 6 < r % 6 then 3
  else if r / 6 < d / 6 then 2 else if d / 6 < r / 6 then 0 else 4

/-- The X-first tables of all routers: key 36 r + d. -/
def xFirstAll : Tab (BitVec 3) :=
  (List.range 1296).filterMap (fun k => let v := xFirst (k / 36) (k % 36); if v = 0 then none else some (k, v))

/-- A packet in a VC: whether it has waited for credit, its data field is uncorrectable (MESH_DATA_UE), it expires by an
injection (MESH_ROUTE). -/
structure Flit where
  k : Packet
  waited : Bool
  bad : Bool
  inj : Bool
  deriving DecidableEq, Repr

/-- The mesh, its NIs and the dailies (ch. 12). -/
structure Mesh where
  routers : Tab Router
  /-- The other table (standby or old) and the current table: key 36 r + d. -/
  rts : Tab (BitVec 3)
  rtc : Tab (BitVec 3)
  /-- Packets in the input VCs: key 24 r + 4 port + VN; ports 0 N, 1 E, 2 S, 3 W, 4 L0, 5 L1; VNs 0 MGT, 1 RSP, 2 REQ,
  3 PW. -/
  vcs : Tab (List Flit)
  /-- Packets that each VC still holds from before a SWAP (R338). -/
  noted : Tab Nat
  /-- Packets that endpoints wait to inject: key 8 (2 r + L) + VN. -/
  ni : Tab (List Flit)
  /-- Packets in the outbound entries of the asynchronous bridges, 16 per VN (R337): the same key. -/
  bridge : Tab (List Flit)
  /-- Packets in the input VCs of the NIs, bridged or not, oldest first (R333, R337): the same key. -/
  recv : Tab (List Flit)
  /-- Response buffers in use: requests issued that await their response (R334, R341): key 1,024 (2 r + L) + TAG. -/
  issued : Tab Bool
  /-- The rotation of each router output (Table 12-4): key 32 r + 4 output + 0 MGT, 1 RSP, 2 REQ and PW; outputs 0 to 3 links, 4 L0,
  5 L1; the contender served last, plus 1. -/
  turn : Tab Nat
  /-- Router inputs stopped by MESH_HDR_UE: key 8 r + port. -/
  stopped : Tab Bool
  /-- MR_EPCNT_OFF and MR_EPCNT_MALF: key 2 r + L. -/
  epOff : Tab (BitVec 32)
  epMalf : Tab (BitVec 32)
  /-- MR_RATE, default 0x01000010, and the buckets. -/
  rate : Tab (BitVec 32)
  bucket : Tab Nat
  dlyCtl : Tab (BitVec 32)
  dlyMask : Tab (BitVec 128)
  dlyVal : Tab (BitVec 128)
  dlyCnt : Tab (BitVec 32)
  /-- Matches of each probe since reset, for PRESCALE. -/
  dlyNth : Tab Nat
  dlyBase : BitVec 64
  dlySize : BitVec 32
  dlyWptr : BitVec 32
  dlyLost : BitVec 32
  dlySeq : BitVec 32
  deriving DecidableEq, Repr

/-- The mesh after reset (R333, R339, Tables 12-5 to 12-7). -/
def Mesh.reset : Mesh :=
  { routers := [], rts := xFirstAll, rtc := xFirstAll, vcs := [], noted := [], ni := [], bridge := [], recv := [], issued := [],
    turn := [], stopped := [], epOff := [],
    epMalf := [], rate := [], bucket := [], dlyCtl := [], dlyMask := [], dlyVal := [], dlyCnt := [], dlyNth := [],
    dlyBase := 0,
    dlySize := 0, dlyWptr := 0, dlyLost := 0, dlySeq := 0 }

/-- The latest write of one port of a bank: when, its line and its lanes (R349). -/
structure PortUse where
  time : Nat
  line : Nat
  lanes : BitVec 64
  deriving DecidableEq, Repr

/-- No write. -/
def PortUse.none : PortUse := { time := 0, line := 0, lanes := 0 }

/-- The staging banks (R344 to R356) and the MRAM words. -/
structure Banks where
  /-- Bytes of the banks' live data by logical address: key 1,048,576 bank + byte. -/
  mem : Tab Byte
  /-- Uncorrectable words: key 131,072 bank + word. -/
  poison : Tab Bool
  /-- The segment map: key 256 bank + logical segment, value physical segment + 1; 0 means the identity (R356). -/
  map : Tab Nat
  /-- The spare of each bank: physical segment + 1; 0 means 256. -/
  spare : Tab Nat
  /-- Banks whose spare holds part of a copy (R356). -/
  spareDirty : Tab Bool
  /-- Retired physical segments (MRAM): key 512 bank + physical segment. -/
  retired : Tab Bool
  /-- 0 idle, 1 COPY, 2 TEST. -/
  phase : Tab (BitVec 2)
  seg : Tab (BitVec 8)
  /-- When each bank last borrowed, in ns plus 1. -/
  borrowed : Tab Nat
  ctl : BitVec 32
  abort : Tab (BitVec 32)
  pin : Tab (BitVec 32)
  coll : Tab (BitVec 32)
  /-- The latest write of each port: key 2 bank, plus 1 for port B (R349). -/
  wrote : Tab PortUse
  /-- Banks 9, 14 and 15 in whose tables, images or load buffer the host interface or the runtime has written since reset (R232). -/
  tables : Tab Bool
  /-- MRAM words by word address, for mesh requests (log entry 5). -/
  mram : Tab (BitVec 64)
  mramPoison : Tab Bool
  /-- Spare MRAM words left (detector 41). -/
  spares : Nat
  deriving DecidableEq, Repr

/-- Banks after power-on reset (R344, R356). -/
def Banks.reset : Banks :=
  { mem := [], poison := [], map := [], spare := [], spareDirty := [], retired := [], phase := [], seg := [],
    borrowed := [], ctl := 100, abort := [], pin := [], coll := [], wrote := [], tables := [], mram := [], mramPoison := [], spares := 4096 }

/-- A queue controller's configuration (Table 13-9, QUEUE). -/
structure QCfg where
  mode : BitVec 2
  owner : BitVec 6
  depthM1 : BitVec 12
  en : Bool
  /-- A QUEUE frame has named OWNER (R375). -/
  named : Bool
  deriving DecidableEq, Repr

/-- An open configuration session (R376, R379). -/
structure Sess where
  byHost : Bool
  num : BitVec 8
  next : BitVec 16
  blocks : BitVec 64
  full : Bool
  /-- The CRC words of the accepted frames, in order. -/
  crcs : List (BitVec 32)
  /-- Blocks for which a BLOCK frame was accepted. -/
  given : BitVec 64
  /-- Safe states from accepted SAFE frames: key 64 bank + pin, value the state + 1. -/
  safe : Tab Nat
  deriving DecidableEq, Repr

/-- A Director opcode request at the fabric (R369). -/
structure OpReq where
  op : BitVec 6
  a : Word
  x : Word
  y : Word
  deriving DecidableEq, Repr

/-- The Splice fabric (ch. 13). -/
structure Splice where
  /-- Configuration memory: block input selects (48 b + j), product terms (80 b + i), macrocells (16 b + m), segment
  driver enables (SEG), I/O cells (64 bank + pin), hard outputs (number: 1 + 16 block + macrocell), queues. -/
  insel : Tab (BitVec 16)
  pt : Tab (BitVec 96)
  mc : Tab (BitVec 64)
  seg : Tab (BitVec 8)
  io : Tab (BitVec 64)
  hard : Tab Nat
  qcfg : Tab QCfg
  /-- Macrocell flip-flops: bit 16 b + m; blocks held cleared; SPL_BLOCKS.RUN. -/
  ff : BitVec 1024
  heldBlk : BitVec 64
  run : BitVec 64
  /-- Macrocell outputs and hard inputs registered in the latest Splice cycle, and the hard outputs then. -/
  cells : BitVec 1024
  hin : Tab Bool
  hout : Tab Bool
  /-- Safe states: in the pin latches, and in MRAM (R368, R434). -/
  safe : Tab (BitVec 2)
  safeMram : Tab (BitVec 2)
  sess : Option Sess
  /-- Words assembled: of the host, of Envor. -/
  partHost : List (BitVec 64)
  partEnvor : List (BitVec 64)
  code : BitVec 8
  where_ : BitVec 16
  capDone : Bool
  capFf : BitVec 1024
  capPin : BitVec 384
  lateAns : BitVec 32
  /-- The opcode of a request that has been withdrawn, with no later request made nor late answer counted (R370). -/
  withdrawn : Option (BitVec 6)
  op : Option OpReq
  /-- Splice memories: key 4,096 q + word; uncorrectable words; FIFO read pointer, fill, DELAY pushes; RD and RDVALID. -/
  qmem : Tab (BitVec 36)
  qpoison : Tab Bool
  qhead : Tab Nat
  qfill : Tab Nat
  qpush : Tab Nat
  qrd : Tab (BitVec 36)
  qvalid : Tab Bool
  qovf : Tab (BitVec 32)
  qunf : Tab (BitVec 32)
  /-- Reasons for which the Splice halt line is driven: bit 0 a class F occurrence that needs a warm reset or more, 1 a
  double fault or PMEM_UE, 2 the pair's safe state (R182, R321, R454). -/
  halt : BitVec 3
  /-- Splice events raised toward the fabric and not yet seen in a Splice cycle (R159), CoaXPress triggers received. -/
  sevIn : BitVec 8
  cxpIn : BitVec 32
  deriving DecidableEq, Repr

/-- No configuration (Table 13-9). -/
def QCfg.reset : QCfg := { mode := 0, owner := 0, depthM1 := 0, en := false, named := false }

/-- The fabric after reset: cleared as by a FULL BEGIN, no session (R381); the safe states are MRAM's. -/
def Splice.reset (safeMram : Tab (BitVec 2)) : Splice :=
  { insel := [], pt := [], mc := [], seg := [], io := [], hard := [], qcfg := [], ff := 0,
    heldBlk := BitVec.allOnes 64, run := 0, cells := 0, hin := [], hout := [], safe := safeMram, safeMram := safeMram,
    sess := none, partHost := [], partEnvor := [], code := 0, where_ := 0, capDone := false, capFf := 0, capPin := 0,
    lateAns := 0, withdrawn := none, op := none, qmem := [], qpoison := [], qhead := [], qfill := [], qpush := [],
    qrd := [], qvalid := [], qovf := [], qunf := [], halt := 0, sevIn := 0, cxpIn := 0 }

/-- Life-cycle states (R390). -/
inductive Lc where
  | blank | provisioned | deployed | returned | scrapped
  deriving DecidableEq, Repr

/-- An SPDM session (R400). -/
structure SpdmSess where
  reqId : BitVec 16
  /-- FINISH has been accepted. -/
  established : Bool
  /-- Key updates made. -/
  keyGen : Nat
  deriving DecidableEq, Repr

/-- A selective IDE stream (R402): its state and key sets. -/
structure IdeStream where
  /-- Key sets programmed, bit 8 set + 4 direction + sub-stream; sub-streams 0 posted, 1 non-posted, 2 completions. -/
  keyed : BitVec 16
  /-- The key set in use and whether one is, bit 4 direction + sub-stream. -/
  active : BitVec 8
  live : BitVec 8
  deriving DecidableEq, Repr

/-- A persisted vendor patch in MRAM (R408). -/
structure Stored where
  img : Image
  deriving DecidableEq, Repr

/-- The Keeper (ch. 14): its registers, its MRAM records and what the secure region holds. -/
structure Keep where
  cmdOp : BitVec 8
  kaddr : BitVec 64
  busy : Bool
  /-- OP of the command that runs while BUSY (the model's own field, log entry 34). -/
  kpOp : BitVec 8
  tampered : Bool
  vblost : Bool
  code : BitVec 8
  vbsrc : BitVec 8
  src : BitVec 8
  /-- Sources active now (R398), and the VBAT latch (R397); the secure region was lost with VBAT. -/
  active : BitVec 8
  vbLatch : BitVec 8
  vbGone : Bool
  /-- The three life-cycle copies (MRAM): the state and whether the copy is valid. -/
  lc0 : Lc × Bool
  lc1 : Lc × Bool
  lc2 : Lc × Bool
  /-- The token counter, the owner key hash, the PUF helper data and device certificate present (MRAM). -/
  counter : BitVec 32
  ownerKey : Option (BitVec 384)
  provisioned : Bool
  cert : List Byte
  /-- The domain table: key domain, the owner's key hash (MRAM). -/
  domOwner : Tab (Option (BitVec 384))
  /-- Rollback floors: key 64 KIND + DOMAIN (MRAM). -/
  floors : Tab (BitVec 32)
  /-- Maintenance token in force: RIGHTS, COUNTER, and the timebase value of its end. -/
  mtoken : Option (BitVec 8 × BitVec 32 × Nat)
  /-- Key registers hold their keys (Table 14-1). -/
  keys : Bool
  /-- DK_d slots of the secure region. -/
  dk : Tab (BitVec 256)
  /-- The result log: records by POS modulo 7,168, POS, per-domain SEQ and last MAC (R411). -/
  log : Tab (BitVec 512)
  pos : BitVec 64
  seqs : Tab (BitVec 32)
  macs : Tab (BitVec 192)
  /-- Records of each domain since its last signature pair (R412). -/
  since : Tab Nat
  /-- Measurements 1 to 10 (Table 14-7). -/
  meas : Tab (BitVec 384)
  /-- Persisted patches (MRAM), and the number stored. -/
  patches : List Stored
  /-- SPDM: negotiation progress 0 none, 1 version, 2 capabilities, 3 algorithms; sessions; IDE streams. -/
  spdm : BitVec 2
  sess : Tab (Option SpdmSess)
  ide : Tab IdeStream
  deriving DecidableEq, Repr

/-- No IDE stream. -/
def IdeStream.off : IdeStream := { keyed := 0, active := 0, live := 0 }

/-- The Keeper of a part as it leaves manufacturing: BLANK, nothing stored (log entry 5). -/
def Keep.reset : Keep :=
  { cmdOp := 0, kaddr := 0, busy := false, kpOp := 0, tampered := false, vblost := false, code := 0, vbsrc := 0, src := 0,
    active := 0, vbLatch := 0, vbGone := false, lc0 := (.blank, true), lc1 := (.blank, true), lc2 := (.blank, true),
    counter := 0, ownerKey := none, provisioned := false, cert := [], domOwner := [], floors := [], mtoken := none,
    keys := false, dk := [], log := [], pos := 0, seqs := [], macs := [], since := [], meas := [], patches := [],
    spdm := 0, sess := [], ide := [] }

/-- The gaffer (ch. 15), modes as in Table 15-2: 0 Sprint, 1 Balanced, 2 Quiet, 3 Endure. -/
structure Gaf where
  env : BitVec 2
  modeReq : BitVec 2
  limit : BitVec 2
  mode : BitVec 2
  /-- The mode that the rules allow for this member, and in Double mode the partner's (R421). -/
  own : BitVec 2
  partner : BitVec 2
  thold : Bool
  /-- A raise in progress: the mode it leads to (R419). -/
  raising : Option (BitVec 2)
  /-- When the raise began, in ns; its settled report is withheld by an injection (VREG_FAULT). -/
  raisedAt : Nat
  withheld : Bool
  therm : Bool
  /-- GF_PWR. -/
  total : BitVec 16
  array : BitVec 16
  /-- The samples of the latest 10 us, newest first: (total, array). -/
  window : List (BitVec 16 × BitVec 16)
  /-- Consecutive samples at which the next faster mode qualified (R422). -/
  qualify : Nat
  /-- No raise before this time, in ns (VREG_FAULT). -/
  notBefore : Nat
  temps : Tab (BitVec 16)
  tmax : BitVec 16
  tmaxSensor : BitVec 5
  twarn : BitVec 8
  /-- TWARN has been crossed upward and not left (R426). -/
  warned : Bool
  domReq : BitVec 30
  /-- GF_DOMSTAT: two bits per domain. -/
  domStat : BitVec 60
  domRef : BitVec 30
  deriving DecidableEq, Repr

/-- The gaffer after reset: Endure under E30, every domain ON (Table 15-5). -/
def Gaf.reset : Gaf :=
  { env := 0, modeReq := 3, limit := 0, mode := 3, own := 3, partner := 0, thold := false, raising := none,
    raisedAt := 0, withheld := false, therm := false,
    total := 0, array := 0, window := [], qualify := 0, notBefore := 0, temps := [], tmax := 0x8000, tmaxSensor := 0,
    twarn := 110, warned := false, domReq := BitVec.allOnes 30, domStat := 0xAAAAAAAAAAAAAAA#60, domRef := 0 }

/-- Reset, boot and JTAG (ch. 16 and R492). -/
structure Rst where
  /-- DEV_RDY (Table 16-3). -/
  rdy : BitVec 15
  /-- DEV_RSTCAUSE. -/
  cause : BitVec 4
  bootCode : BitVec 4
  patchRej : BitVec 8
  kcode : BitVec 8
  bootAddr : BitVec 64
  /-- A RETRY has been accepted and its image is being fetched (R440). -/
  retry : Bool
  /-- Words of the boot image in program memory, from word 0 (the model's own field, log entry 24). -/
  bootTop : Nat
  /-- A Director reset is to be reported by 0x0008 once the runtime is ready (R254, R442). -/
  report : Bool
  /-- Array memory initialisation and bank zeroing in progress (R33, R344, R396). -/
  initArray : Bool
  initBanks : Bool
  /-- The JTAG instruction register (IDCODE after Test-Logic-Reset) and the boundary-scan register. -/
  jir : BitVec 8
  cells : BitVec 1162
  /-- Which link PLLs are locked: key 16 pll + group, value true when NOT locked (R417). -/
  pllLost : Tab Bool
  deriving DecidableEq, Repr

/-- Reset state right after a power-on reset, before any function is ready (Tables 16-3 to 16-6). -/
def Rst.reset (cause : BitVec 4) : Rst :=
  { rdy := 0, cause := cause, bootCode := 0, patchRej := 0, kcode := 0, bootAddr := 0, retry := false, bootTop := 0, report := false,
    initArray := true, initBanks := true, jir := 1, cells := 0, pllLost := [] }

/-- An error log record before it is placed (Table 17-3 without POS). -/
structure ErrRec where
  time : BitVec 64
  det : BitVec 8
  flags : BitVec 8
  supp : BitVec 16
  chan : BitVec 32
  info : BitVec 64
  /-- Whether event 0x0002 follows the record when it is written (R446). -/
  event : Bool
  deriving DecidableEq, Repr

/-- Errors (ch. 17). -/
structure Err where
  sum : BitVec 48
  cnt : Tab (BitVec 32)
  /-- ERR_CTL[n]: bit 1 HOSTEV, bit 0 LOGEN. -/
  ctl : Tab (BitVec 2)
  /-- POS of the next record: MRAM. -/
  wpos : BitVec 64
  lost : BitVec 32
  inj : BitVec 64
  /-- The injection armed: ERR_INJ as it stood (R450). -/
  armed : Option (BitVec 64)
  fired : Bool
  code : BitVec 8
  /-- Occurrences of each detector since its previous record. -/
  supp : Tab (BitVec 16)
  /-- When each detector's latest record was made, in ns, plus 1; 0 for none (R448). -/
  last : Tab Nat
  /-- Records waiting for MRAM, oldest first (at most 16). -/
  queue : List ErrRec
  /-- The ring of 4,096 records in MRAM: key POS modulo 4,096 (R448). -/
  log : Tab (BitVec 256)
  deriving DecidableEq, Repr

/-- The class of each detector, Table 17-2: 0 C, 1 U, 2 F, 3 N. -/
def detClass (n : Nat) : BitVec 2 :=
  if n ∈ [9, 10, 21, 43, 44] then 2
  else if n ∈ [0, 6, 8, 12, 14, 20, 27, 31, 39, 42] then 0
  else if n ∈ [2, 11, 17, 19, 24, 30, 32, 33, 34, 36, 37, 38, 47] then 3
  else 1

/-- ERR_CTL[n] at reset: 3 for class U and F, 1 otherwise (Table 18-6). -/
def ctlReset (n : Nat) : BitVec 2 := if detClass n = 1 ∨ detClass n = 2 then 3 else 1

/-- Error state after power-on reset, before any MRAM content (log entry 5: a fresh part's log is empty). -/
def Err.reset : Err :=
  { sum := 0, cnt := [], ctl := (List.range 48).map (fun n => (n, ctlReset n)), wpos := 0, lost := 0, inj := 0,
    armed := none, fired := false, code := 0, supp := [], last := [], queue := [], log := [] }

/-- The state of the device, and the commands that wait. -/
structure State where
  arr : Arr
  seq : Seq
  dir : Dir
  sys : Dsys
  ing : Ing
  host : HostIf
  cue : Cue
  crew : Crew
  pair : Pair
  mesh : Mesh
  banks : Banks
  spl : Splice
  keep : Keep
  gaf : Gaf
  rst : Rst
  err : Err
  /-- Time since the model began, in ns: advances 5 per timebase tick (log entry 7). -/
  now : Nat
  /-- What the device has sent outside, oldest first (log entry 6). -/
  out : List Out
  /-- How many free values have been taken: the model's own field (log entry 2). -/
  free : Nat
  /-- The commands that wait, first in, first out. -/
  pending : List Instr
  deriving DecidableEq, Repr

/-- The device right after a power-on reset by PORESET_N of a part as manufactured: every register at its reset value,
no function ready, the Director held (R12, R429, Tables 16-3 and 16-4). -/
def State.reset : State :=
  { arr := Arr.reset, seq := Seq.reset, dir := Dir.reset, sys := Dsys.reset 0, ing := Ing.reset, host := HostIf.reset,
    cue := Cue.reset, crew := Crew.reset 1, pair := Pair.reset, mesh := Mesh.reset, banks := Banks.reset,
    spl := Splice.reset [], keep := Keep.reset, gaf := Gaf.reset, rst := Rst.reset 4, err := Err.reset,
    now := 0, out := [], free := 0, pending := [] }

end Sys2Proof.Machine
end

