-- ==== Sys2Proof/Machine/Ops.lean ====
section
/-!
DEFINITION. The named operations over the state that every family shares: block updates, free values, outputs, event
lines, event records, little-endian bytes, fields of words, and the CRCs.
-/

namespace Sys2Proof.Machine

/-- The outcome of a command: this model always answers a next state. -/
abbrev Answer := Host.Outcome State Fault Refusal

/-! ## Words, fields and bytes -/

/-- The field of width w that begins at bit lo. -/
def fld {n : Nat} (x : BitVec n) (lo w : Nat) : BitVec w := x.extractLsb' lo w

/-- x with the field of width w at bit lo replaced by v. -/
def putFld {n : Nat} (x : BitVec n) (lo : Nat) {w : Nat} (v : BitVec w) : BitVec n :=
  (x &&& ~~~((BitVec.allOnes w).setWidth n <<< lo)) ||| (v.setWidth n <<< lo)

/-- x with bit i set to b. -/
def setBit {n : Nat} (x : BitVec n) (i : Nat) (b : Bool) : BitVec n := putFld x i (bit1 b)

/-- Bytes [lo, lo + n) of a little-endian field of bytes, as a number. -/
def bytesNat : List Byte → Nat
  | [] => 0
  | b :: bs => b.toNat + 256 * bytesNat bs

/-- The n little-endian bytes of v (R8). -/
def natBytes : Nat → Nat → List Byte
  | 0, _ => []
  | n + 1, v => BitVec.ofNat 8 v :: natBytes n (v / 256)

/-- x + 1, saturating (R9 counters "saturates"). -/
def satInc {n : Nat} (x : BitVec n) : BitVec n := if x = BitVec.allOnes n then x else x + 1

/-- The number of ones of x among its lowest k bits. -/
def onesBelow (v : Nat) : Nat → Nat
  | 0 => 0
  | k + 1 => (if v.testBit k then 1 else 0) + onesBelow v k

/-- The number of ones of x. -/
def ones {n : Nat} (x : BitVec n) : Nat := onesBelow x.toNat n

/-- The number of the lowest bit of v that is set, among bits k .. k + fuel - 1. -/
def lowestFrom (v : Nat) (k : Nat) : Nat → Option Nat
  | 0 => none
  | n + 1 => if v.testBit k then some k else lowestFrom v (k + 1) n

/-- The lowest set bit of x. -/
def lowest {n : Nat} (x : BitVec n) : Option Nat := lowestFrom x.toNat 0 n

/-! ## CRCs -/

/-- One step of a CRC that takes its bits most significant first: poly of width w. -/
def crcStep {w : Nat} (poly : BitVec w) (r : BitVec w) (b : Bool) : BitVec w :=
  if (r.msb != b) then (r <<< 1) ^^^ poly else r <<< 1

/-- The bits of a byte, most significant first. -/
def byteBits (b : Byte) : List Bool := (List.range 8).map (fun i => b.getLsbD (7 - i))

/-- The bits of a byte, least significant first. -/
def byteBitsLow (b : Byte) : List Bool := (List.range 8).map (fun i => b.getLsbD i)

/-- A CRC over bytes, each byte most significant bit first. -/
def crcBytes {w : Nat} (poly init : BitVec w) (bs : List Byte) : BitVec w :=
  bs.foldl (fun r b => (byteBits b).foldl (crcStep poly) r) init

/-- The CRC-32 of IEEE 802.3 (R376, R315): reflected, all ones before and after. -/
def crc32 (bs : List Byte) : BitVec 32 :=
  ~~~ (BitVec.reverse (bs.foldl (fun r b => (byteBitsLow b).foldl (crcStep 0x04C11DB7#32) r) (BitVec.allOnes 32)))

/-! ## Updates of one block -/

/-- Update the array. -/
def State.upArr (f : Arr → Arr) (s : State) : State := { s with arr := f s.arr }
/-- Update the micro-sequencer. -/
def State.upSeq (f : Seq → Seq) (s : State) : State := { s with seq := f s.seq }
/-- Update the Director's registers. -/
def State.upDir (f : Dir → Dir) (s : State) : State := { s with dir := f s.dir }
/-- Update the Director's system registers. -/
def State.upSys (f : Dsys → Dsys) (s : State) : State := { s with sys := f s.sys }
/-- Update sensor ingest. -/
def State.upIng (f : Ing → Ing) (s : State) : State := { s with ing := f s.ing }
/-- Update the host interface. -/
def State.upHost (f : HostIf → HostIf) (s : State) : State := { s with host := f s.host }
/-- Update the timebase and cue list. -/
def State.upCue (f : Cue → Cue) (s : State) : State := { s with cue := f s.cue }
/-- Update the crew. -/
def State.upCrew (f : Crew → Crew) (s : State) : State := { s with crew := f s.crew }
/-- Update the pair. -/
def State.upPair (f : Pair → Pair) (s : State) : State := { s with pair := f s.pair }
/-- Update the mesh. -/
def State.upMesh (f : Mesh → Mesh) (s : State) : State := { s with mesh := f s.mesh }
/-- Update the staging banks and MRAM words. -/
def State.upBanks (f : Banks → Banks) (s : State) : State := { s with banks := f s.banks }
/-- Update the Splice fabric. -/
def State.upSpl (f : Splice → Splice) (s : State) : State := { s with spl := f s.spl }
/-- Update the Keeper. -/
def State.upKeep (f : Keep → Keep) (s : State) : State := { s with keep := f s.keep }
/-- Update the gaffer. -/
def State.upGaf (f : Gaf → Gaf) (s : State) : State := { s with gaf := f s.gaf }
/-- Update reset and boot. -/
def State.upRst (f : Rst → Rst) (s : State) : State := { s with rst := f s.rst }
/-- Update the error registers. -/
def State.upErr (f : Err → Err) (s : State) : State := { s with err := f s.err }

/-! ## Free values, outputs, event lines -/

/-- The free value that the state offers next (log entry 2). -/
def State.freeVal (w : Nat) (s : State) : BitVec w := Config.freeBits w s.free

/-- The state after its next free value has been taken. -/
def State.took (s : State) : State := { s with free := s.free + 1 }

/-- The device sends o (log entry 6). -/
def State.emit (o : Out) (s : State) : State := { s with out := s.out ++ [o] }

/-- MSI-X messages of a vector of a function are sent: enabled, and neither the function nor the vector masked (R250). -/
def HostIf.msixOpen (fn : BitVec 6) (vec : BitVec 8) (h : HostIf) : Bool :=
  Tab.get 0 h.msixCtl fn.toNat == 2 && !(Tab.get MsixVec.reset h.msix (256 * fn.toNat + vec.toNat)).mask

/-- On the host link now, or in order once the link returns (detector 33). -/
def State.post (o : Out) (s : State) : State :=
  if s.host.link then s.emit o else s.upHost (fun h => { h with outq := h.outq ++ [o] })

/-- A posted write or message on the host link; a message that is masked becomes pending (R250). -/
def State.toHost (o : Out) (s : State) : State :=
  match o with
  | .msix fn vec =>
    if s.host.msixOpen fn vec then s.post o
    else s.upHost (fun h => { h with msixPend := Tab.set false h.msixPend (256 * fn.toNat + vec.toNat) true })
  | _ => s.post o

/-- Whether event line n can be raised (Table 1-4: lines 44 to 47 are never raised). -/
def lineRaisable (n : Nat) : Bool := n < 64 && !(44 ≤ n && n ≤ 47)

/-- Raise event line n: the Director records it in its pending set (R19, R20).  A Director held in reset keeps the reset
value of its pending set (log entry 8). -/
def State.raise (n : Nat) (s : State) : State :=
  if lineRaisable n && decide (s.dir.run ≠ .held) then s.upDir (fun d => { d with evp := setBit d.evp n true }) else s

/-- The timebase in ns (R255). -/
def State.tbNow (s : State) : BitVec 64 := fld s.cue.tb 32 64

/-- Whether DEV_RDY bit b is set (R435). -/
def State.ready (b : Nat) (s : State) : Bool := s.rst.rdy.getLsbD b

/-! ## Event records (R249) -/

/-- Queue an event record for channel 0; ahead of the queue for fatal signalling (R454). -/
def State.postEvent (code : BitVec 16) (data : BitVec 32) (ahead : Bool) (s : State) : State :=
  if 64 ≤ s.host.evq.length then
    s.upHost (fun h => { h with evOvf := satInc h.evOvf, evLost := satInc h.evLost })
  else
    let r : EvRec := { time := s.tbNow, data := data, code := code }
    s.upHost (fun h => { h with evq := if ahead then r :: h.evq else h.evq ++ [r] })

/-! ## Domains, modes -/

/-- GF_DOMSTAT of domain b: 0 OFF, 1 OPENING, 2 ON, 3 CLOSING (Table 15-5). -/
def State.dom (b : Nat) (s : State) : BitVec 2 := fld s.gaf.domStat (2 * b) 2

end Sys2Proof.Machine
end

