-- ==== Sys2Proof/Machine/Errors.lean ====
section
/-!
DEFINITION. Chapter 17: what an occurrence of a detector records (R446 to R448), fatal signalling (R454), and the
injection of errors (R450 to R453) as the sites of Table 17-2 ask for it.
-/

namespace Sys2Proof.Machine

/-- Whether MRAM takes writes: DEV_RDY.MRAM (R448). -/
def State.mramReady (s : State) : Bool := s.ready 2

/-- Whether a record waiting at the head of the queue is held until its reset: MESH_HDR_UE (R454). -/
def ErrRec.held (r : ErrRec) : Bool := r.det == 21#8

/-- The 32 bytes of a record at position pos (Table 17-3), as a number. -/
def ErrRec.word (r : ErrRec) (pos : BitVec 64) : BitVec 256 :=
  r.info ++ r.chan ++ r.supp ++ r.flags ++ r.det ++ r.time ++ pos

/-- Event data of 0x0002: [31:26] the detector, [25:0] POS modulo 2^26 (R446). -/
def evData (det : BitVec 8) (pos : BitVec 26) : BitVec 32 := fld det 0 6 ++ pos

/-- Write the record to the ring (R448) and post its event when it calls for one (R446). -/
def State.placeRec (r : ErrRec) (s : State) : State :=
  let pos := s.err.wpos
  let s := s.upErr (fun e => { e with log := Tab.set 0 e.log (pos.toNat % 4096) (r.word pos), wpos := pos + 1 })
  if r.event then s.postEvent 2 (evData r.det (pos.setWidth 26)) false else s

/-- The index of the newest record of class C, U or N in the queue. -/
def newestNotF : List ErrRec → Option Nat
  | [] => none
  | r :: rs =>
    match newestNotF rs with
    | some k => some (k + 1)
    | none => if fld r.flags 1 2 = 2 then none else some 0

/-- A record begins the throttle of its detector, and its SUPP starts again (R448, Table 17-3). -/
def State.throttled (det : Nat) (s : State) : State :=
  s.upErr (fun e => { e with supp := Tab.set 0 e.supp det 0, last := Tab.set 0 e.last det (s.now + 1) })

/-- SUPP of the next record of det grows by n (Table 17-3). -/
def Err.suppress (det n : Nat) (e : Err) : Err :=
  { e with supp := Tab.upd 0 e.supp det (fun x => BitVec.ofNat 16 (min 65535 (x.toNat + n))) }

/-- A record is lost to the full queue: ERR_LOST counts it, and so does SUPP of its detector's next record, with what
it carried itself (R448, Table 17-3; log entry 53). -/
def Err.lose (r : ErrRec) (e : Err) : Err :=
  { e.suppress r.det.toNat (r.supp.toNat + 1) with lost := satInc e.lost }

/-- The record waits, or is lost to the full queue (R448).  Answers the state, and the POS its event carries. -/
def State.queueRec (fatal : Bool) (r : ErrRec) (s : State) : State × BitVec 26 :=
  let q := s.err.queue
  let det := r.det.toNat
  let lost := (s.upErr (fun e => ({ e with supp := Tab.set 0 e.supp det 0 } : Err).lose r), BitVec.allOnes 26)
  if q.length < 16 then
    ((s.throttled det).upErr (fun e => { e with queue := q ++ [r] }), (s.err.wpos + BitVec.ofNat 64 q.length).setWidth 26)
  else if !fatal then lost
  else
    match newestNotF q with
    | some k =>
      ((s.throttled det).upErr (fun e =>
        let e := { e with queue := q.eraseIdx k ++ [r] }
        match q[k]? with
        | some x => e.lose x
        | none => e), (s.err.wpos + 15).setWidth 26)
    | none => lost

/-- The Splice halt line is driven for reason k (R454, R182, R321). -/
def State.driveHalt (k : Nat) (s : State) : State := s.upSpl (fun x => { x with halt := setBit x.halt k true })

/-- The halt reason of a class F detector: a Director reset ends it for 9 and 10, a warm reset or more for the others
(Table 17-6). -/
def haltReason (det : Nat) : Nat := if det = 9 ∨ det = 10 then 1 else 0

/-- Whether a record of detector det is written now: class F always; else LOGEN, and no record of it within the last
10 ms (R448). -/
def State.records (det : Nat) (s : State) : Bool :=
  decide (detClass det = 2) ||
    ((Tab.get 0 s.err.ctl det).getLsbD 0 &&
      (let l := Tab.get 0 s.err.last det; decide (l = 0) || decide (10000000 ≤ s.now + 1 - l)))

/-- An uncorrectable detector (class U or F) has logged since PAIRED: SELF (R320, Table 17-1). -/
def State.noteUe (det : Nat) (s : State) : State :=
  if s.pair.st = .paired ∧ (detClass det = 1 ∨ detClass det = 2) then s.upPair (fun p => { p with ueSince := true })
  else s

/-- n occurrences of detector det in one cycle (R446, R447): ERR_SUM, ERR_CNT, the record and its event; the record
names the location given, and SUPP counts the other n - 1. -/
def State.occurN (n : Nat) (det : Nat) (chan : BitVec 32) (info : BitVec 64) (inj : Bool) (s : State) : State :=
  let fatal := decide (detClass det = 2)
  let time := s.tbNow
  let s := s.upErr (fun e =>
    { e with sum := setBit e.sum det true, cnt := Tab.upd 0 e.cnt det satInc })
  if s.records det then
    let supp := Tab.get 0 s.err.supp det
    let r : ErrRec :=
      { time := time, det := BitVec.ofNat 8 det,
        flags := (detClass det).setWidth 8 <<< 1 ||| (if inj then 1 else 0),
        supp := BitVec.ofNat 16 (min 65535 (supp.toNat + (n - 1))), chan := chan, info := info,
        event := !fatal && (Tab.get 0 s.err.ctl det).getLsbD 1 }
    let s := s.noteUe det
    if fatal then
      let direct := s.mramReady && s.err.queue.isEmpty && !r.held
      let pos := s.err.wpos
      let sp := if direct then ((s.throttled det).placeRec r, pos.setWidth 26) else s.queueRec true r
      let s := sp.1.postEvent 2 (evData r.det sp.2) true
      (s.toHost .aerInternal).driveHalt (haltReason det)
    else if s.mramReady && s.err.queue.isEmpty then (s.throttled det).placeRec r
    else (s.queueRec false r).1
  else s.upErr (Err.suppress det n)

/-- One occurrence (R446). -/
def State.occur (det : Nat) (chan : BitVec 32) (info : BitVec 64) (inj : Bool) (s : State) : State :=
  s.occurN 1 det chan info inj

/-- CHAN of a record: the channel's index and its generation (Table 17-3). -/
def State.chanId (ch : BitVec 18) (s : State) : BitVec 32 :=
  (Tab.get Chan.free s.host.chans ch.toNat).gen ++ ch

/-- Write the queued records in order, as far as MRAM takes them (R448); a MESH_HDR_UE record waits for its reset, and
those behind it keep their order. -/
def State.flushRecs : Nat → State → State
  | 0, s => s
  | n + 1, s =>
    match s.err.queue with
    | [] => s
    | r :: rs =>
      if r.held && !s.mesh.stopped.isEmpty then s
      else State.flushRecs n ((s.upErr (fun e => { e with queue := rs })).placeRec r)

/-! ## Injection -/

/-- The armed injection's fields. -/
def injDet (w : BitVec 64) : Nat := (fld w 58 6).toNat
/-- UNIT. -/
def injUnit (w : BitVec 64) : Nat := (fld w 48 8).toNat
/-- ADDR. -/
def injAddr (w : BitVec 64) : Nat := (fld w 0 48).toNat

/-- The injection armed for detector det, when its UNIT and ADDR fit the operation (R450, Table 17-2). -/
def State.armedFor (det : Nat) (fits : Nat → Nat → Bool) (s : State) : Bool :=
  match s.err.armed with
  | some w => injDet w == det && fits (injUnit w) (injAddr w)
  | none => false

/-- The injection fires: FIRED is set, and it stays armed only with PERSIST (R450). -/
def State.fired (s : State) : State :=
  s.upErr (fun e =>
    { e with fired := true, armed := match e.armed with | some w => if w.getLsbD 57 then some w else none | none => none })

/-- The state that the majority of the valid copies gives (R390). -/
def Keep.lc (k : Keep) : Lc :=
  let copies := ([k.lc0, k.lc1, k.lc2].filter (fun c => c.2)).map (·.1)
  (copies.find? (fun c => decide (2 ≤ (copies.filter (fun d => decide (d = c))).length))).getD .scrapped

/-- A maintenance token with RIGHTS bit b is in force. -/
def Keep.right (k : Keep) (b : Nat) : Bool :=
  match k.mtoken with
  | some (r, _, _) => r.getLsbD b
  | none => false

/-- Whether an injection may be armed (R451). -/
def State.mayInject (s : State) : Bool :=
  decide (s.keep.lc = .provisioned) || (decide (s.keep.lc = .deployed) && s.keep.right 0)

/-- The armed injection is disarmed when the permission that accepted it has gone (R451). -/
def State.recheckInj (s : State) : State :=
  if s.mayInject then s else s.upErr (fun e => { e with armed := none })

end Sys2Proof.Machine
end

