-- ==== Sys2Proof/Machine/Operands.lean ====
section
/-!
DEFINITION. The Director's operands: window registers (R121), direct and indexed addresses with their modifications
(R128 to R130), immediates and displacements (R135, R138, R140, R141), and data memory with its regions and check bits
(R133, R185, detectors 6 and 7).
-/

namespace Sys2Proof.Machine

/-! ## Window registers -/

/-- The physical register of Gi in window w (R121). -/
def physReg (w : Nat) (i : Nat) : Nat := (6 * w + i) % 96

/-- Gi of the current window. -/
def Dir.g (d : Dir) (i : BitVec 3) : Word := Tab.get 0 d.wreg (physReg d.cwp.toNat i.toNat)

/-- Write Gi of the current window. -/
def Dir.setG (d : Dir) (i : BitVec 3) (v : Word) : Dir :=
  { d with wreg := Tab.set 0 d.wreg (physReg d.cwp.toNat i.toNat) v }

/-- LK and the save set of window w, REG 8 to 20 (Table 6-12). -/
def Dir.saved (d : Dir) (w : Nat) (reg : Nat) : Word := Tab.get 0 d.wsave (32 * w + reg)

/-- Write a register of the save set. -/
def Dir.setSaved (d : Dir) (w reg : Nat) (v : Word) : Dir := { d with wsave := Tab.set 0 d.wsave (32 * w + reg) v }

/-- Fn. -/
def Dir.fr (d : Dir) (i : BitVec 3) : BitVec 32 := Tab.get 0 d.f i.toNat

/-- Write Fn. -/
def Dir.setFr (d : Dir) (i : BitVec 3) (v : BitVec 32) : Dir := { d with f := Tab.set 0 d.f i.toNat v }

/-- AAn. -/
def Dir.aaN (d : Dir) (n : Nat) : Word := Tab.get 0 d.aa n

/-! ## Immediates and displacements -/

/-- imm10 sign-extended, or literal : imm10 (R135). -/
def imm10 (lit : Option (BitVec 14)) (i : BitVec 10) : Word :=
  match lit with
  | some l => l ++ i
  | none => i.signExtend 24

/-- imm7 or literal : imm7, sign- or zero-extended (R138). -/
def imm7 (lit : Option (BitVec 14)) (signed : Bool) (i : BitVec 7) : Word :=
  match lit with
  | some l => let x : BitVec 21 := l ++ i; if signed then x.signExtend 24 else x.setWidth 24
  | none => if signed then i.signExtend 24 else i.setWidth 24

/-- disp6 or literal : disp6, as a word-address offset (R140). -/
def disp6 (lit : Option (BitVec 14)) (i : BitVec 6) : BitVec 18 :=
  match lit with
  | some l => ((l ++ i : BitVec 20)).setWidth 18
  | none => i.signExtend 18

/-- disp8 or literal : disp8 (R141). -/
def disp8 (lit : Option (BitVec 14)) (i : BitVec 8) : BitVec 18 :=
  match lit with
  | some l => ((l ++ i : BitVec 22)).setWidth 18
  | none => i.signExtend 18

/-! ## Data addresses -/

/-- The direct address: DP x 1,024 + d, or literal[7:0] : d; none when a literal bit [13:8] is set (R128). -/
def directAddr (d : Dir) (lit : Option (BitVec 14)) (x : BitVec 10) : Option (BitVec 18) :=
  match lit with
  | some l => if fld l 8 6 = 0 then some (fld l 0 8 ++ x) else none
  | none => some (d.dp ++ x)

/-- The smallest k with 2^k >= L. -/
def log2Up (l : Nat) : Nat := if l ≤ 1 then 0 else (l - 1).log2 + 1

/-- Reverse the order of the k low bits of n. -/
def revBits : Nat → Nat → Nat
  | 0, _ => 0
  | k + 1, n => (n % 2) * 2 ^ k + revBits k (n / 2)

/-- How an index register is modified. -/
inductive Mod where
  | keep | inc | dec | incM | decM | revM | addY
  deriving DecidableEq, Repr

/-- The modification of R130, for index I with length L. -/
def modIndex (m : Mod) (i : Word) (l : Nat) (y : Word) : Word :=
  match m with
  | .keep => i
  | .inc => i + 1
  | .dec => i - 1
  | .addY => i + y
  | .incM =>
    if l = 0 then i + 1
    else
      let k := log2Up l
      let off := i.toNat % 2 ^ k
      BitVec.ofNat 24 (i.toNat - off + (if off + 1 < l then off + 1 else 0))
  | .decM =>
    if l = 0 then i - 1
    else
      let k := log2Up l
      let off := i.toNat % 2 ^ k
      BitVec.ofNat 24 (i.toNat - off + (if 0 < off ∧ off < l then off - 1 else l - 1))
  | .revM =>
    if l = 0 then i + 1
    else
      let k := log2Up l
      let off := i.toNat % 2 ^ k
      BitVec.ofNat 24 (i.toNat - off + revBits k ((revBits k off + 1) % 2 ^ k))

/-- The address mode of Table 5-6: whether the index is Y, and the modification; none for 0xC to 0xF. -/
def amode (am : BitVec 4) : Option (Bool × Mod) :=
  match am.toNat with
  | 0 => some (false, .keep)
  | 1 => some (false, .inc)
  | 2 => some (false, .dec)
  | 3 => some (false, .incM)
  | 4 => some (false, .decM)
  | 5 => some (false, .revM)
  | 6 => some (true, .keep)
  | 7 => some (true, .inc)
  | 8 => some (true, .dec)
  | 9 => some (true, .incM)
  | 10 => some (true, .decM)
  | 11 => some (false, .addY)
  | _ => none

/-- The address of an indexed access: bits [17:0] of the index register before its modification (R129). -/
def indexAddr (d : Dir) (y : Bool) : BitVec 18 := fld (if y then d.y else d.x) 0 18

/-- The modification after the access, on all 24 bits. -/
def modify (y : Bool) (m : Mod) (d : Dir) : Dir :=
  if y then { d with y := modIndex m d.y d.my.toNat d.y } else { d with x := modIndex m d.x d.mx.toNat d.y }

/-! ## Data memory -/

/-- Region r of domain dom grants the access (Table 6-13). -/
def Dsys.grants (y : Dsys) (dom r : Nat) (write : Bool) (addr : BitVec 18) : Bool :=
  let lo := Tab.get 0 y.rglo (8 * dom + r)
  let hi := Tab.get 0 y.rghi (8 * dom + r)
  let blk := (fld addr 8 10).toNat
  lo.getLsbD (if write then 22 else 23) && decide ((fld lo 0 10).toNat ≤ blk) && decide (blk ≤ hi.toNat)

/-- Whether the code in force may make the access (R185, R186). -/
def State.mayAccess (write : Bool) (addr : BitVec 18) (s : State) : Bool :=
  s.dir.priv || (List.range 8).any (fun r => s.sys.grants (fld s.sys.chid 18 6).toNat r write addr)

/-- The outcome of a data memory access: the word and the state, or the vector and TDATA of its trap. -/
inductive Acc where
  | ok (v : Word) (s : State)
  | trap (vec : BitVec 7) (tdata : Word) (s : State)
  deriving DecidableEq, Repr

/-- TDATA of REGION_FAULT (Table 6-10). -/
def regionData (write : Bool) (addr : BitVec 18) : Word := bit1 write ++ (0#5) ++ addr

/-- Write a data word with fresh check bits (captures, line records, stores). -/
def State.putWord (addr : BitVec 18) (v : Word) (s : State) : State :=
  s.upSys (fun y => { y with dmem := Tab.set 0 y.dmem addr.toNat v, dpoison := Tab.set false y.dpoison addr.toNat false })

/-- A data word as stored. -/
def State.word (addr : BitVec 18) (s : State) : Word := Tab.get 0 s.sys.dmem addr.toNat

/-- A Director data memory read: region, then check bits (R185, detectors 6 and 7, DATA_UE). -/
def State.load (addr : BitVec 18) (s : State) : Acc :=
  if !s.mayAccess false addr then .trap 66 (regionData false addr) s
  else
    let inj := s.armedFor 7 (fun _ a => a == addr.toNat)
    let s := if inj then (s.upSys (fun y => { y with dpoison := Tab.set false y.dpoison addr.toNat true })).fired else s
    if Tab.get false s.sys.dpoison addr.toNat then
      .trap 75 (addr.setWidth 24) (s.occur 7 0 ((s.dir.pc ++ addr : BitVec 36).setWidth 64) inj)
    else if s.armedFor 6 (fun _ a => a == addr.toNat) then
      .ok (s.word addr) ((s.fired).occur 6 0 (addr.setWidth 64) true)
    else .ok (s.word addr) s

/-- A Director data memory write (R133, R185). -/
def State.store (addr : BitVec 18) (v : Word) (s : State) : Acc :=
  if !s.mayAccess true addr then .trap 66 (regionData true addr) s else .ok v (s.putWord addr v)

end Sys2Proof.Machine
end

