-- ==== Sys2Proof/Machine/Ctx.lean ====
section
/-!
DEFINITION. The context store as words with check bits (detectors 12 and 13) and its save-frame port (R188, R189).
-/

namespace Sys2Proof.Machine

/-- Channel ch. -/
def State.chan (ch : BitVec 18) (s : State) : Chan := Tab.get Chan.free s.host.chans ch.toNat

/-- Update channel ch. -/
def State.upChan (ch : BitVec 18) (f : Chan → Chan) (s : State) : State :=
  s.upHost (fun h => { h with chans := Tab.upd Chan.free h.chans ch.toNat f })

/-- Path i of a channel is activated at time now: refused and counted in LATE when it comes less than MINGAP after the
activation before it (R270). -/
def Chan.activate (i mingap now : Nat) (c : Chan) : Bool × Chan :=
  let last := Tab.get 0 c.acts i
  if last ≠ 0 ∧ now < last - 1 + mingap then (false, { c with late := satInc c.late })
  else (true, { c with acts := Tab.set 0 c.acts i (now + 1) })

/-- The paths of a channel that an event line activates: Splice events on lines 32 to 39, crew events on 16 to 31. -/
def Recipe.triggered (line : Nat) (r : Recipe) : List (Nat × Path) :=
  (r.paths.zipIdx.filter (fun p => (p.1.trig == 1 && 32 + p.1.k == line) || (p.1.trig == 2 && 16 + p.1.k == line))).map
    (fun p => (p.2, p.1))

/-- Envor takes an event line: the paths of RUNNING channels that it activates (R268, R270). -/
def State.activateLine (line : Nat) (s : State) : State :=
  s.host.chans.foldl (fun s e => match e.2.st, e.2.recipe with
    | .running, some r => (r.triggered line).foldl (fun s p =>
        s.upChan (BitVec.ofNat 18 e.1) (fun c => (c.activate p.1 p.2.mingap s.now).2)) s
    | _, _ => s) s

/-- A read of context words lo .. lo + n - 1 of channel ch: which of its words are uncorrectable, and the detectors;
INFO is the byte offset. -/
def State.ctxRead (ch : BitVec 18) (lo n : Nat) (s : State) : BitVec 8 × State :=
  let fits (_u a : Nat) : Bool := a == ch.toNat
  let at_ : BitVec 64 := BitVec.ofNat 64 (8 * lo)
  let s := if s.armedFor 12 fits then s.fired.occur 12 (s.chanId ch) at_ true else s
  let inj := s.armedFor 13 fits
  let s := if inj then (s.upChan ch (fun c => { c with ue := setBit c.ue lo true })).fired else s
  let ue := (s.chan ch).ue
  let bad := (List.range n).filter (fun k => ue.getLsbD (lo + k))
  match bad with
  | [] => (ue, s)
  | k :: _ => (ue, s.occurN bad.length 13 (s.chanId ch) (BitVec.ofNat 64 (8 * (lo + k))) inj)

/-- FSAVE: F0 to F7 and FPCR into bytes 24 to 58; whole words with fresh check bits (R189). -/
def State.opFsave (s : State) : State :=
  let d := s.dir
  s.upChan s.sys.sfch (fun c =>
    { c with frame := putFld ((List.range 8).foldl (fun x n => putFld x (32 * n) (d.fr (BitVec.ofNat 3 n))) c.frame) 256 d.fpcr,
             ue := putFld c.ue 3 (0#5) })

/-- ASAVE: AFSTAT into bytes 59 to 61, 0 into 62 and 63. -/
def State.opAsave (s : State) : State :=
  let w : Word := (0#11) ++ s.sys.afEn ++ (0#3) ++ s.sys.afFlags
  s.upChan s.sys.sfch (fun c =>
    { c with frame := putFld (putFld c.frame 280 w) 304 (0#16), ue := putFld c.ue 7 (0#1) })

/-- FLOAD: F0 to F7 and FPCR from the frame; a register that an uncorrectable word holds is loaded with 0; FDIRTY. -/
def State.opFload (s : State) : State :=
  let r := s.ctxRead s.sys.sfch 3 5
  let c := r.2.chan s.sys.sfch
  let v (n : Nat) : BitVec 32 := if r.1.getLsbD (3 + n / 2) then 0 else fld c.frame (32 * n) 32
  let w : Word := if r.1.getLsbD 7 then 0 else fld c.frame 256 24
  (r.2.upDir (fun d =>
    { (List.range 8).foldl (fun d n => d.setFr (BitVec.ofNat 3 n) (v n)) d with fpcr := w &&& 0x071F1F })).upSys
    (fun y => { y with fdirty := true })

/-- What a write of AFLOAD does (R196). -/
def Dsys.afload (w : Word) (y : Dsys) : Dsys := { y with afEn := fld w 8 5, afFlags := fld w 0 5, adirty := true }

/-- ALOAD: AFSTAT from bytes 59 to 61, as a write of AFLOAD. -/
def State.opAload (s : State) : State :=
  let r := s.ctxRead s.sys.sfch 7 1
  let w : Word := if r.1.getLsbD 7 then 0 else fld (r.2.chan s.sys.sfch).frame 280 24
  r.2.upSys (fun y => y.afload w)

/-- A write of SFOP: the operations whose bits are set, in the order FSAVE, ASAVE, FLOAD, ALOAD (R189). -/
def State.sfop (bits : BitVec 4) (s : State) : State :=
  let s := if bits.getLsbD 0 then s.opFsave else s
  let s := if bits.getLsbD 2 then s.opAsave else s
  let s := if bits.getLsbD 1 then s.opFload else s
  if bits.getLsbD 3 then s.opAload else s

/-- Its Director cycles (Table 6-17). -/
def sfopCycles (bits : BitVec 4) : Nat :=
  max 1 ((if bits.getLsbD 0 then 12 else 0) + (if bits.getLsbD 2 then 2 else 0) + (if bits.getLsbD 1 then 12 else 0) +
    (if bits.getLsbD 3 then 2 else 0))

end Sys2Proof.Machine
end

