-- ==== Sys2Proof/Machine/Fabric.lean ====
section
/-!
DEFINITION. The Splice fabric's blocks, segments and hard ports (R357 to R368): which sources a segment has, what a
macrocell, a segment, a hard output and a pin carry, and which encodings are reserved.
-/

namespace Sys2Proof.Machine

/-! ## Segments (R361 to R363) -/

/-- The length of a segment of a track. -/
def trackLen (t : Nat) : Nat := if t < 32 then 1 else if t < 48 then 2 else if t < 56 then 4 else 8

/-- KIND of a SEG: 0 horizontal, 1 vertical, 2 I/O track, 3 reserved. -/
def segKind (g : BitVec 16) : Nat := (fld g 14 2).toNat
/-- CHAN. -/
def segChan (g : BitVec 16) : Nat := (fld g 10 4).toNat
/-- TRACK of a channel segment. -/
def segTrack (g : BitVec 16) : Nat := (fld g 4 6).toNat
/-- POS. -/
def segPos (g : BitVec 16) : Nat := (fld g 1 3).toNat
/-- BANK of an I/O track. -/
def ioBank (g : BitVec 16) : Nat := (fld g 11 3).toNat
/-- TRACK of an I/O track: 0 to 63 output, 64 to 127 output enable. -/
def ioTrack (g : BitVec 16) : Nat := (fld g 4 7).toNat

/-- SEG of a channel segment. -/
def mkSeg (vertical : Bool) (chan track pos : Nat) : BitVec 16 :=
  BitVec.ofNat 16 ((if vertical then 16384 else 0) + 1024 * chan + 16 * track + 2 * pos)

/-- SEG of an I/O track. -/
def mkIo (bank track : Nat) : BitVec 16 := BitVec.ofNat 16 (32768 + 2048 * bank + 16 * track)

/-- Whether SEG names a segment (Table 13-3). -/
def segValid (g : BitVec 16) : Bool :=
  if segKind g = 2 then decide (ioBank g < 6) && fld g 0 4 == 0
  else decide (segKind g < 2) && decide (segChan g < 9) && !g.getLsbD 0 && decide (segPos g % trackLen (segTrack g) = 0)

/-- What drives a segment or feeds a block input. -/
inductive Node where
  | seg (g : BitVec 16)
  | cell (c : Nat)
  deriving DecidableEq, Repr

/-- Block B(b, s) of an I/O bank (R362). -/
def ioBlock (b s : Nat) : Nat :=
  match b with
  | 0 => s
  | 1 => 8 * s + 7
  | 2 => 56 + s
  | 3 => 8 * s
  | 4 => 24 + s
  | _ => 32 + s

/-- Source s of a segment; none where it does not exist (R362). -/
def segSource (g : BitVec 16) (s : Nat) : Option Node :=
  if segKind g = 2 then
    let p := ioTrack g % 64
    some (.cell (16 * ioBlock (ioBank g) s + (if ioTrack g < 64 then p % 16 else (p + 8) % 16)))
  else
    let vert := decide (segKind g = 1)
    let c := segChan g
    let t := segTrack g
    let p := segPos g
    let l := trackLen t
    let lower := if vert then (if 0 < c then some (8 * p + c - 1) else none)
      else (if 0 < c then some (8 * (c - 1) + p) else none)
    let higher := if vert then (if c < 8 then some (8 * p + c) else none)
      else (if c < 8 then some (8 * c + p) else none)
    match s with
    | 0 => if l ≤ p then some (.seg (mkSeg vert c t (p - l))) else none
    | 1 => if l ≤ p then some (.seg (mkSeg vert c (t ^^^ 1) (p - l))) else none
    | 2 => if c % l = 0 ∧ 0 < c then some (.seg (mkSeg (!vert) p t (c - l))) else none
    | 3 => if c % l = 0 ∧ c < 8 then some (.seg (mkSeg (!vert) p t c)) else none
    | 4 => lower.map (fun b => .cell (16 * b + t % 16))
    | 5 => lower.map (fun b => .cell (16 * b + (t + 8) % 16))
    | 6 => higher.map (fun b => .cell (16 * b + t % 16))
    | 7 => higher.map (fun b => .cell (16 * b + (t + 8) % 16))
    | _ => none

/-- The segment that routing select [14:7] of block b reads (R364). -/
def inputSeg (b : Nat) (side track : Nat) : BitVec 16 :=
  let r := b / 8
  let c := b % 8
  let l := trackLen track
  match side with
  | 0 => mkSeg false r track (c / l * l)
  | 1 => mkSeg true (c + 1) track (r / l * l)
  | 2 => mkSeg false (r + 1) track (c / l * l)
  | _ => mkSeg true c track (r / l * l)

/-- The block that owns a channel segment (R375). -/
def segOwner (g : BitVec 16) : Nat :=
  let c := segChan g
  let p := segPos g
  if segKind g = 1 then 8 * p + min c 7 else 8 * min c 7 + p

/-! ## Macrocells (Table 13-1, R359) -/

/-- MODE. -/
def mcMode (w : BitVec 64) : Nat := (fld w 62 2).toNat
/-- PTSEL. -/
def mcPtsel (w : BitVec 64) : BitVec 5 := fld w 57 5
/-- INV. -/
def mcInv (w : BitVec 64) : Bool := w.getLsbD 56
/-- CEEN. -/
def mcCeen (w : BitVec 64) : Bool := w.getLsbD 55
/-- RSTEN. -/
def mcRsten (w : BitVec 64) : Bool := w.getLsbD 54
/-- MUXL. -/
def mcMux (w : BitVec 64) : Nat := (fld w 51 3).toNat

/-- Whether a macrocell word of macrocell m is without reserved encodings. -/
def mcValid (m : Nat) (w : BitVec 64) : Bool :=
  decide (mcMode w ≠ 3) && fld w 0 51 == 0 && !(mcCeen w && w.getLsbD 61) && !(mcRsten w && w.getLsbD 60) &&
    decide (mcMux w ≤ 4) && decide (m % 2 ^ mcMux w = 2 ^ mcMux w - 1)

/-- A block input whose value is known, from a function giving it. -/
def termOf (sel : BitVec 96) (input : Nat → Bool) : Bool :=
  (List.range 48).all (fun j =>
    (!sel.getLsbD (2 * j) || input j) && (!sel.getLsbD (2 * j + 1) || !input j))

/-- Value of a segment or of a macrocell's output, following at most `fuel` drivers; a combinational loop has no stated
value and gives a free one (log entry 12).  A segment that a held block owns reads 0 (R379). -/
def Splice.node (x : Splice) : Nat → Node → Bool
  | 0, _ => (Config.freeBits 1 0).getLsbD 0
  | fuel + 1, .seg g =>
    if segKind g < 2 ∧ x.heldBlk.getLsbD (segOwner g) then false
    else match lowest (Tab.get 0 x.seg g.toNat) with
    | none => false
    | some s =>
      match segSource g s with
      | none => false
      | some n => Splice.node x fuel n
  | fuel + 1, .cell c =>
    let w := Tab.get 0 x.mc c
    if mcMode w ≠ 0 then x.ff.getLsbD c
    else
      let b := c / 16
      let input (j : Nat) : Bool :=
        let v := Tab.get 0 x.insel (48 * b + j)
        if v.msb then Tab.get false x.hin (fld v 0 15).toNat
        else Splice.node x fuel (.seg (inputSeg b (fld v 13 2).toNat (fld v 7 6).toNat))
      let sel := if mcMux w = 0 then 0
        else (List.range (mcMux w)).foldl (fun n k => n + (if input (44 + k) then 2 ^ k else 0)) 0
      let c' := if mcMux w = 0 then c else c - 2 ^ mcMux w + 1 + sel
      let w' := Tab.get 0 x.mc c'
      let some_ := (List.range 5).any (fun k =>
        (mcPtsel w').getLsbD k && termOf (Tab.get 0 x.pt (80 * b + 5 * (c' % 16) + k)) input)
      some_ != mcInv w'

/-- How many drivers a signal may pass before the model calls it a loop: every segment and macrocell once. -/
def nodeFuel : Nat := 8000

/-- Block input j of block b. -/
def Splice.input (x : Splice) (b j : Nat) : Bool :=
  let v := Tab.get 0 x.insel (48 * b + j)
  if v.msb then Tab.get false x.hin (fld v 0 15).toNat
  else x.node nodeFuel (.seg (inputSeg b (fld v 13 2).toNat (fld v 7 6).toNat))

/-- Product term i of block b. -/
def Splice.term (x : Splice) (b i : Nat) : Bool := termOf (Tab.get 0 x.pt (80 * b + i)) (x.input b)

/-- The OR-term of macrocell c, through its mux. -/
def Splice.orTerm (x : Splice) (c : Nat) : Bool :=
  let w := Tab.get 0 x.mc c
  let b := c / 16
  let sel := (List.range (mcMux w)).foldl (fun n k => n + (if x.input b (44 + k) then 2 ^ k else 0)) 0
  let c' := if mcMux w = 0 then c else c - 2 ^ mcMux w + 1 + sel
  let w' := Tab.get 0 x.mc c'
  ((List.range 5).any (fun k => (mcPtsel w').getLsbD k && x.term b (5 * (c' % 16) + k))) != mcInv w'

/-- The flip-flop of macrocell c after a Splice cycle (Table 13-1). -/
def Splice.nextFf (x : Splice) (c : Nat) : Bool :=
  let w := Tab.get 0 x.mc c
  let b := c / 16
  let m := c % 16
  let old := x.ff.getLsbD c
  if mcMode w = 0 || x.heldBlk.getLsbD b then false
  else if mcRsten w && x.term b (5 * m + 3) then false
  else if mcCeen w && !x.term b (5 * m + 4) then old
  else if mcMode w = 2 then old != x.orTerm c
  else x.orTerm c

/-- Output of macrocell c. -/
def Splice.cell (x : Splice) (c : Nat) : Bool := x.node nodeFuel (.cell c)

/-! ## Hard ports (Tables 13-4 and 13-5) -/

/-- Whether Table 13-4 assigns a hard input number. -/
def hardInValid (n : Nat) : Bool :=
  n < 0x30A || (0x310 ≤ n && n < 0x337) || (0x340 ≤ n && n < 0x388) || (0x400 ≤ n && n < 0x800 && decide (n % 64 < 39))

/-- Whether Table 13-5 assigns a hard output number. -/
def hardOutValid (n : Nat) : Bool :=
  n < 8 || (0x10 ≤ n && n < 0x61) || n == 0x70 || (0x100 ≤ n && n < 0x500 && decide (n % 64 < 51))

/-- Value of hard output n: 0 without a driver, and while its block is held (R365). -/
def Splice.hardVal (x : Splice) (n : Nat) : Bool :=
  match Tab.get 0 x.hard n with
  | 0 => false
  | c + 1 => !x.heldBlk.getLsbD (c / 16) && x.cell c

/-- Hard outputs n .. n + k - 1 as a number. -/
def Splice.hardWord (x : Splice) (n k : Nat) : Nat :=
  (List.range k).foldl (fun v i => v + (if x.hardVal (n + i) then 2 ^ i else 0)) 0

/-! ## Pins (R366 to R368) -/

/-- I/O cell word of a pin. -/
def Splice.ioWord (x : Splice) (bank pin : Nat) : BitVec 64 := Tab.get 0 x.io (64 * bank + pin)

/-- A pin holds its safe state: USED = 0, or its block is held by a session (R366, R379, R381). -/
def Splice.pinSafe (x : Splice) (bank pin : Nat) : Bool :=
  let w := x.ioWord bank pin
  !w.msb || x.heldBlk.getLsbD (fld w 57 6).toNat

/-- What an I/O cell sets on the ball of a pin when the cue list drives c: its value, 1 in an open drain being the release; none where
it does not drive (R366, R367). -/
def Splice.drives (x : Splice) (key : Nat) (c : Bool) : Option Bool :=
  let bank := key / 64
  let pin := key % 64
  let w := x.ioWord bank pin
  if x.pinSafe bank pin then (if Tab.get 0 x.safe key = 3 then some false else none)
  else
    let route := x.node nodeFuel (.seg (mkIo bank pin))
    let v := match (fld w 55 2).toNat with
      | 0 => route
      | 1 => c
      | 2 => c && route
      | _ => c || route
    match (fld w 53 2).toNat with
    | 0 => none
    | 2 => if x.node nodeFuel (.seg (mkIo bank (64 + pin))) then some v else none
    | _ => some v

/-- The level that a pin drives at its ball, none where it does not drive: an open drain drives low or nothing. -/
def Splice.ball (x : Splice) (key : Nat) (c : Bool) : Option Bool :=
  match x.drives key c with
  | some true => if !x.pinSafe (key / 64) (key % 64) && fld (x.ioWord (key / 64) (key % 64)) 53 2 == (3 : BitVec 2) then none else some true
  | o => o

/-- The value that a cue value c gives at the ball of a pin; none where the cue list does not reach it (R366, R367). -/
def Splice.cueAtBall (x : Splice) (bank pin : Nat) (c : Bool) : Option Bool :=
  if fld (x.ioWord bank pin) 55 2 = 0 || x.pinSafe bank pin then none else x.drives (64 * bank + pin) c

end Sys2Proof.Machine
end

