-- ==== Sys2Proof/Machine/KeepLog.lean ====
section
/-!
DEFINITION. The result log (R411, R412, Table 14-11): records of channels bound with MAC, their chain per domain, and
the signature pairs.
-/

namespace Sys2Proof.Machine

/-- Places of the ring (R389). -/
def ringSize : Nat := 7168

/-- Write 64 bytes at POS. -/
def Keep.putRecord (k : Keep) (r : BitVec 512) : Keep :=
  { k with log := Tab.set 0 k.log (k.pos.toNat % ringSize) r, pos := k.pos + 1 }

/-- The record with POS p that the ring still holds. -/
def Keep.recordAt (k : Keep) (p : Nat) : BitVec 512 := Tab.get 0 k.log (p % ringSize)

/-- The oldest POS held. -/
def Keep.oldest (k : Keep) : Nat := k.pos.toNat - ringSize

/-- Bytes 0 to 7 of a record. -/
def recordHead (seq : BitVec 32) (dom : BitVec 6) (kind : BitVec 8) : BitVec 64 :=
  (0#16) ++ kind ++ dom.setWidth 8 ++ seq

/-- What AK is derived from: the key registers, and measurements 1, 2 and 6 (Table 14-1). -/
def Keep.akBytes (k : Keep) : List Byte :=
  (bit1 k.keys ++ (0#7) : Byte) :: (natBytes 48 (Config.provisioned 384 3).toNat ++ natBytes 48 (Tab.get 0 k.meas 2).toNat ++
    natBytes 48 (Tab.get 0 k.meas 6).toNat)

/-- A signature by AK over bytes (R386). -/
def Keep.signAk (k : Keep) (bs : List Byte) : BitVec 768 := Config.crypto 768 386 (k.akBytes ++ bs)

/-- A signature pair over the latest record of the domain's chain, r and then s (R412). -/
def Keep.signPair (k : Keep) (dom : BitVec 6) : Keep :=
  let seq := Tab.get 0 k.seqs dom.toNat - 1
  let mac := Tab.get 0 k.macs dom.toNat
  let sig := k.signAk (natBytes 24 mac.toNat ++ natBytes 4 seq.toNat)
  let half (kind : BitVec 8) (part : Nat) : BitVec 512 := (0#64) ++ (fld sig (384 * part) 384 : BitVec 384) ++ recordHead seq dom kind
  let k := (k.putRecord (half 6 0)).putRecord (half 7 1)
  { k with since := Tab.set 0 k.since dom.toNat 0 }

/-- Append a record of a domain's chain, and a signature pair after every 256 when sign is set. -/
def Keep.append (k : Keep) (dom : BitVec 6) (kind : BitVec 8) (chan : BitVec 32) (obj : Word) (time : BitVec 64)
    (payload : BitVec 128) (sign : Bool) : Keep :=
  let seq := Tab.get 0 k.seqs dom.toNat
  let body : BitVec 320 := payload ++ time ++ obj.setWidth 32 ++ chan ++ recordHead seq dom kind
  let before : BitVec 192 := if seq = 0 then 0 else Tab.get 0 k.macs dom.toNat
  let mac : BitVec 192 :=
    Config.crypto 192 411 (natBytes 32 (Tab.get 0 k.dk dom.toNat).toNat ++ natBytes 40 body.toNat ++ natBytes 24 before.toNat)
  let n := Tab.get 0 k.since dom.toNat + 1
  let k := k.putRecord (mac ++ body)
  let k := { k with seqs := Tab.set 0 k.seqs dom.toNat (seq + 1), macs := Tab.set 0 k.macs dom.toNat mac,
                    since := Tab.set 0 k.since dom.toNat n }
  if sign && decide (256 ≤ n) then k.signPair dom else k

/-- A channel with MAC = 1 logs. -/
def State.logResult (ch : BitVec 18) (kind : BitVec 8) (obj : Word) (time : BitVec 64) (payload : BitVec 128) (s : State) :
    State :=
  let c := s.chan ch
  if c.out.mac then s.upKeep (fun k => k.append c.dom kind (s.chanId ch) obj time payload c.out.sign) else s

end Sys2Proof.Machine
end

