-- ==== Sys2Proof/Machine/Packet.lean ====
section
/-!
DEFINITION. Mesh packets (R325, R326): the fields of the header, a packet as a sender makes it, its way to the
sender's NI, and the endpoints with the NIs in front of them (R17, R333, R337).
-/

namespace Sys2Proof

/-! ## Fields of a packet (Table 12-1) -/

/-- TYPE. -/
def Packet.type (k : Packet) : Nat := (k.hdr.extractLsb' 124 4).toNat
/-- EPOCH. -/
def Packet.epoch (k : Packet) : Bool := k.hdr.getLsbD 123
/-- SR. -/
def Packet.sr (k : Packet) : Bool := k.hdr.getLsbD 122
/-- DROUTER. -/
def Packet.dst (k : Packet) : Nat := (k.hdr.extractLsb' 116 6).toNat
/-- DPORT. -/
def Packet.dport (k : Packet) : Nat := (k.hdr.extractLsb' 115 1).toNat
/-- SROUTER. -/
def Packet.src (k : Packet) : Nat := (k.hdr.extractLsb' 109 6).toNat
/-- SPORT. -/
def Packet.sport (k : Packet) : Nat := (k.hdr.extractLsb' 108 1).toNat
/-- HOPS. -/
def Packet.hops (k : Packet) : Nat := (k.hdr.extractLsb' 93 5).toNat
/-- ROT. -/
def Packet.rot (k : Packet) : Nat := (k.hdr.extractLsb' 87 6).toNat
/-- LEN. -/
def Packet.len (k : Packet) : Nat := (k.hdr.extractLsb' 80 7).toNat
/-- OFF. -/
def Packet.off (k : Packet) : Nat := (k.hdr.extractLsb' 74 6).toNat
/-- ADDR. -/
def Packet.addr (k : Packet) : Nat := (k.hdr.extractLsb' 32 32).toNat
/-- XT. -/
def Packet.xt (k : Packet) : BitVec 32 := k.hdr.extractLsb' 0 32

/-- The packet is a request: RD, WR, ADD, SWAP. -/
def Packet.isRequest (k : Packet) : Bool := decide (k.type < 4)

/-- The virtual network of a type: 0 MGT, 1 RSP, 2 REQ, 3 PW (Table 12-2). -/
def packetVn (type : Nat) : Nat := if type < 4 then 2 else if type = 4 then 3 else if type < 7 then 1 else 0

end Sys2Proof

namespace Sys2Proof

open Sys2Proof.Machine

/-- TAG. -/
def Packet.tag (k : Packet) : BitVec 10 := k.hdr.extractLsb' 98 10

/-- A packet of a type to local port l of router r: n bytes from byte lane off on, at an address (Table 12-1). -/
def Packet.make (type r l tag n off seg addr : Nat) (data : BitVec 512) : Packet :=
  let h : BitVec 128 := putFld (putFld (putFld (0#128) 124 (BitVec.ofNat 4 type)) 116 (BitVec.ofNat 6 r)) 115 (BitVec.ofNat 1 l)
  let h := putFld (putFld (putFld h 98 (BitVec.ofNat 10 tag)) 80 (BitVec.ofNat 7 n)) 74 (BitVec.ofNat 6 off)
  { hdr := putFld (putFld h 70 (BitVec.ofNat 4 seg)) 32 (BitVec.ofNat 32 addr), data := data }

end Sys2Proof

namespace Sys2Proof.Machine

/-! ## Endpoints (Table 1-3) -/

/-- What sits at a router's local port. -/
inductive Endpoint where
  | crew (p : Nat)
  | corner (u : Nat)
  | bank (b : Nat)
  | host
  | director
  | context
  | keeper
  | mram
  | splice
  deriving DecidableEq, Repr

/-- The endpoint at local port l of router r. -/
def endpointAt (r l : Nat) : Option Endpoint :=
  let row := r / 6
  let col := r % 6
  if 36 ≤ r then none
  else if row = 0 then some (.crew (2 * col + l))
  else if row < 5 then
    if col = 0 then some (.corner (2 * (row - 1) + l))
    else if col = 5 then some (.corner (8 + 2 * (row - 1) + l))
    else if l = 0 then some (.bank (4 * (row - 1) + (col - 1))) else none
  else
    match col, l with
    | 0, _ => some (.crew (12 + l))
    | 1, _ => some (.crew (14 + l))
    | 2, 0 => some .host
    | 3, 0 => some .director
    | 3, _ => some .context
    | 4, 0 => some .keeper
    | 4, _ => some .mram
    | 5, 0 => some .splice
    | _, _ => none

/-- The gateable domain of an endpoint (Table 15-4). -/
def Endpoint.domain : Endpoint → Option Nat
  | .crew p => some (17 + p / 4)
  | .corner u => some (1 + u / 4)
  | .bank b => if b < 9 then some (21 + b) else none
  | _ => none

/-- Its ready bit (Tables 16-3, R496). -/
def Endpoint.ready : Endpoint → Nat
  | .crew _ => 6
  | .corner _ => 10
  | .bank _ => 7
  | .host => 9
  | .director => 12
  | .context => 8
  | .keeper => 3
  | .mram => 2
  | .splice => 5

/-- The endpoint's NI answers DOMAIN_OFF (R340, R436). -/
def State.endOff (e : Endpoint) (s : State) : Bool :=
  !s.ready e.ready || (match e.domain with | some d => s.dom d != 2 | none => false)

/-- The endpoints whose NIs hold an asynchronous bridge: the host interface and the crew ports (R337). -/
def Endpoint.bridged : Endpoint → Bool
  | .host => true
  | .crew _ => true
  | _ => false

/-- Depth of a router's input VC, and of an NI's without a bridge (Table 12-4). -/
def vcDepth (vn : Nat) : Nat := if vn = 0 then 4 else 8

/-- Depth of an input VC of the NI of router r, port l: a bridge has 16 entries per VN (R333, R337). -/
def niDepth (r l vn : Nat) : Nat :=
  match endpointAt r l with
  | some e => if e.bridged then 16 else vcDepth vn
  | none => 0

/-- The key of a VN of the NI of router r, port l. -/
def niKey (r l vn : Nat) : Nat := 8 * (2 * r + l) + vn

/-- The packets in an input VC of an NI, oldest first. -/
def Mesh.niVc (m : Mesh) (r l vn : Nat) : List Flit := Tab.get [] m.recv (niKey r l vn)

/-- The key of the response buffer of a tag (R334). -/
def issueKey (r l : Nat) (tag : BitVec 10) : Nat := 1024 * (2 * r + l) + tag.toNat

/-- The endpoint at router r, port l, has nothing pending: no accepted transaction, no answer on its way out, and no issued request
that awaits its response (R341). -/
def Mesh.quiet (m : Mesh) (r l : Nat) : Bool :=
  (List.range 4).all (fun vn =>
      (m.niVc r l vn).isEmpty && (Tab.get [] m.ni (niKey r l vn)).isEmpty && (Tab.get [] m.bridge (niKey r l vn)).isEmpty) &&
    m.issued.all (fun e => !e.2 || e.1 / 1024 != 2 * r + l)

/-- Every endpoint of gateable domain d is quiet. -/
def Mesh.domainQuiet (m : Mesh) (d : Nat) : Bool :=
  (List.range 36).all (fun r => (List.range 2).all (fun l =>
    match endpointAt r l with
    | some e => e.domain != some d || m.quiet r l
    | none => true))

/-- A packet as its sender made it. -/
def Flit.of (k : Packet) : Flit := { k := k, waited := false, bad := false, inj := false }

/-- A packet waits at the NI of router r, port l, to be injected. -/
def State.present (r l : Nat) (k : Packet) (s : State) : State :=
  s.upMesh (fun m => { m with ni := Tab.upd [] m.ni (niKey r l (packetVn k.type)) (· ++ [Flit.of k]) })

/-- The device identifier (R387): this part's own (log entry 5). -/
def deviceIdent : BitVec 128 := Config.provisioned 128 0

/-- What the device gives as its identifier: SCRAPPED has destroyed it, and what stands in its place is left open (R387; log entry 5). -/
def State.ident (s : State) : BitVec 128 := if s.keep.lc = .scrapped then Config.provisioned 128 7 else deviceIdent

/-- Router and local port of crew port p (Table 1-3). -/
def crewSite (p : Nat) : Nat × Nat := if p < 12 then (p / 2, p % 2) else (24 + p / 2, p % 2)

end Sys2Proof.Machine
end

