-- ==== Sys2Proof/Machine/CrewLink.lean ====
section
/-!
DEFINITION. Crew links (R273 to R284, R290 to R295): the fields of a frame, transmission under credit and the replay
buffer, retry, the receive checks, and ports that come up and go down.
-/

namespace Sys2Proof

open Machine

/-! ## Frames (Table 10-4) -/

/-- TYPE. -/
def Frame.type (f : Frame) : BitVec 4 := fld f.hdr 124 4
/-- EPOCH. -/
def Frame.epoch (f : Frame) : BitVec 4 := fld f.hdr 120 4
/-- DST. -/
def Frame.dst (f : Frame) : BitVec 8 := fld f.hdr 112 8
/-- SRC. -/
def Frame.src (f : Frame) : BitVec 8 := fld f.hdr 104 8
/-- TTL. -/
def Frame.ttl (f : Frame) : BitVec 8 := fld f.hdr 96 8
/-- LSEQ. -/
def Frame.lseq (f : Frame) : BitVec 12 := fld f.hdr 84 12
/-- CLASS: 0 MSG0, 1 MSG1, 2 HALO, 3 CTL. -/
def Frame.cls (f : Frame) : BitVec 2 := fld f.hdr 78 2
/-- PLEN4. -/
def Frame.plen4 (f : Frame) : BitVec 8 := fld f.hdr 68 8
/-- CHANNEL. -/
def Frame.chan (f : Frame) : BitVec 18 := fld f.hdr 50 18
/-- MSGNO. -/
def Frame.msgno (f : Frame) : BitVec 16 := fld f.hdr 34 16
/-- TSF. -/
def Frame.tsf (f : Frame) : BitVec 34 := fld f.hdr 0 34

/-- Cells of a frame (R279). -/
def Frame.cells (f : Frame) : Nat := (20 + 4 * f.plen4.toNat + 31) / 32

/-- Payload word k (4 bytes). -/
def Frame.word (f : Frame) (k : Nat) : BitVec 32 := f.payload.getD k 0

/-- A reserved TYPE; 0xB is a type of port 15 in Double mode alone, so `pair` tells whether the port is that (Table 10-5). -/
def Frame.oddType (pair : Bool) (f : Frame) : Bool := f.type == 0 || decide (12 ≤ f.type.toNat) || (f.type == 0xB && !pair)

/-- What the link layer rejects of a frame whose CRC holds (R281): reserved TYPE or PLEN4, a must-be-0 field. -/
def Frame.malformed (pair : Bool) (f : Frame) : Bool :=
  f.oddType pair || decide (128 < f.plen4.toNat) || fld f.hdr 80 4 != 0 || fld f.hdr 76 2 != 0

/-- Frames that may be sent inside a longer one: RED_UP, RED_DN and TIME (R280). -/
def Frame.inserts (f : Frame) : Bool := decide (3 ≤ f.type.toNat) && decide (f.type.toNat ≤ 5)

/-- The buffer pool of a frame (Table 10-6): its class, CTL being 16 cells for reductions (3) and 16 for TIME and SEV (4). -/
def Frame.pool (f : Frame) : Nat := if f.cls = 3 then (if f.type = 3 ∨ f.type = 4 then 3 else 4) else f.cls.toNat

/-! ## Cells (R274, R278, R279) -/

/-- Cell kinds (Table 10-3). -/
inductive CellKind where
  | continuation | start | control | idle | alignment | damaged
  deriving DecidableEq, Repr

/-- The kind of a cell, by the sync headers of lanes 0 to 3; a cell without any continuation header is told by its bytes (Table 10-3). -/
def Cell.kind (c : Cell) : CellKind :=
  if c.sync = 0b01010101 then .continuation
  else if c.sync = 0b01010110 then .start
  else if c.sync = 0b01011010 then .control
  else if c.sync = 0b10101010 then
    if fld c.bytes 0 8 = (0 : BitVec 8) then .idle
    else if fld c.bytes 0 8 = (0x4C : BitVec 8) ∧
        ∀ n ∈ List.range 4, fld c.bytes (64 * n + 8) 8 = BitVec.ofNat 8 n then .alignment
    else .damaged
  else .damaged

/-- The bytes that the CRC of a frame covers: its header, byte 0 first, and its payload. -/
def Frame.bytes (f : Frame) : List Byte := natBytes 16 f.hdr.toNat ++ f.payload.flatMap (fun w => natBytes 4 w.toNat)

/-- A frame as its bytes spell it: the header and the units that PLEN4 counts, with the CRC that follows them (R279). -/
def Frame.read (bs : List Byte) : Frame :=
  let f : Frame := { hdr := BitVec.ofNat 128 (bytesNat (bs.take 16)), payload := [], crcOk := true }
  let n := f.plen4.toNat
  { f with
    payload := (List.range n).map (fun i => BitVec.ofNat 32 (bytesNat ((bs.drop (16 + 4 * i)).take 4))),
    crcOk := crc32 (bs.take (16 + 4 * n)) == BitVec.ofNat 32 (bytesNat ((bs.drop (16 + 4 * n)).take 4)) }

/-- The frame that cells carry: a start cell and continuations, as many as PLEN4 gives; control, idle and alignment cells between
them are no part of it (R278, R279). -/
def Wire.frame (w : Wire) : Frame :=
  let own := w.cells.filter (fun c => c.kind == .start || c.kind == .continuation || c.kind == .damaged)
  let f := Frame.read (own.flatMap (fun c => natBytes 32 c.bytes.toNat))
  { f with crcOk := f.crcOk && own.map Cell.kind == .start :: List.replicate (f.cells - 1) .continuation }

/-- Bytes in cells of 32, the last one padded with zeros, the first one with the sync headers given (R279). -/
def cellsOf (sync : BitVec 8) : Nat → List Byte → List Cell
  | 0, _ => []
  | n + 1, bs => { sync := sync, bytes := BitVec.ofNat 256 (bytesNat (bs.take 32)) } :: cellsOf 0b01010101 n (bs.drop 32)

/-- A frame with its CRC and its padding, in cells (R279). -/
def Frame.wire (f : Frame) (inside : Bool) : Wire :=
  { cells := cellsOf 0b01010110 f.cells (f.bytes ++ natBytes 4 (crc32 f.bytes).toNat), inside := inside }

end Sys2Proof

namespace Sys2Proof.Machine

/-- A frame of this device: the header fields of its type, SRC, EPOCH and TTL 255. -/
def State.mkFrame (type : BitVec 4) (cls : BitVec 2) (dst : BitVec 8) (tsf : BitVec 34) (payload : List (BitVec 32))
    (s : State) : Frame :=
  { hdr := type ++ s.crew.cur ++ dst ++ fld s.crew.addr 0 8 ++ 0xFF#8 ++ (0#12) ++ (0#4) ++ cls ++ (0#2) ++
      BitVec.ofNat 8 payload.length ++ (0#18) ++ (0#16) ++ tsf,
    payload := payload, crcOk := true }

/-! ## Ports -/

/-- Port p. -/
def State.port (p : BitVec 4) (s : State) : CrewPort := Tab.get CrewPort.reset s.crew.ports p.toNat

/-- Update port p. -/
def State.upPort (p : BitVec 4) (f : CrewPort → CrewPort) (s : State) : State :=
  s.upCrew (fun c => { c with ports := Tab.upd CrewPort.reset c.ports p.toNat f })

/-- Advance counter c of port p by n: 0 LOST, 1 RETRY, 2 BAD, 3 NOROUTE, 4 TTL, 5 EPOCH, 6 DUP, 7 HX, 8 CR, 9 SEV. -/
def State.crewCount (p : BitVec 4) (c n : Nat) (s : State) : State :=
  s.upCrew (fun w => { w with cnt := Tab.upd 0 w.cnt (16 * p.toNat + c) (fun x =>
    BitVec.ofNat 32 (min 4294967295 (x.toNat + n))) })

/-- The member joins or is paired: port 15 is its pair port (R312, R324). -/
def State.double (s : State) : Bool := decide (s.pair.st = .joining) || decide (s.pair.st = .paired)

/-- Whether the device carries frames of a type on port p: the mate of a pair and a member in the safe state carry none on
ports 0 to 14, and port 15 of a pair carries PAIR frames (R319, R321, R324) and the TIME frames by which the mate's
timebase is slaved (R312). -/
def State.carriesType (p type : BitVec 4) (s : State) : Bool :=
  match s.pair.st with
  | .solo => true
  | .joining => p != 15 || type == 0xB || type == 5
  | .paired => if p = 15 then type == 0xB || type == 5 else !s.pair.ctl.getLsbD 30
  | .safe => p == 15

/-- Whether crew traffic, other than what the pair port carries, uses port p. -/
def State.carries (p : BitVec 4) (s : State) : Bool := s.carriesType p 1

/-- A port that is up and carries frames. -/
def State.portUp (p : BitVec 4) (s : State) : Bool := (s.port p).up && s.carries p

/-- Cells of the far end's receive buffer for a pool (Table 10-6); on the pair port all of them serve PAIR frames (R324). -/
def State.poolCells (p : BitVec 4) (k : Nat) (s : State) : Nat :=
  if p = 15 ∧ s.double ∧ k = 0 then 1056
  else match k with
    | 2 => 512
    | 3 => 16
    | 4 => 16
    | _ => 256

/-- Report the end of a frame of a send slot (port and slot): 2 DONE, 3 LOST, 4 NOROUTE (R294). -/
def State.report (st : BitVec 3) (s : State) (slot : Option (BitVec 9)) : State :=
  match slot with
  | some k => s.upPort (fld k 5 4) (fun q => { q with sendSt := Tab.set 0 q.sendSt (fld k 0 5).toNat st })
  | none => s

/-- The first waiting frame that may go: one that no earlier frame of its pool waits before and that finds credit and replay
space; inside a frame in progress, a RED_UP, RED_DN or TIME frame alone (R280, R282, Table 10-6). -/
def CrewPort.sendable (q : CrewPort) (cap : Nat → Nat) (inside : Bool) :
    List (Frame × Option (BitVec 9)) → List Nat → Nat → Option Nat
  | [], _, _ => none
  | (f, _) :: rest, blocked, k =>
    let fits := decide (Tab.get 0 q.used f.pool + f.cells ≤ cap f.pool) &&
      decide ((q.replay.map (fun r => r.f.cells)).sum + f.cells ≤ 1024)
    if inside && !f.inserts then q.sendable cap inside rest blocked (k + 1)
    else if !blocked.contains f.pool && fits then some k
    else q.sendable cap inside rest (f.pool :: blocked) (k + 1)

/-- A PAIR frame takes the next pair sequence number as it is sent (Table 11-3). -/
def State.numberPair (f : Frame) (s : State) : Frame × State :=
  if f.type = 0xB then
    ({ f with hdr := putFld f.hdr 0 s.pair.seq }, s.upPair (fun p => { p with seq := p.seq + 1 }))
  else (f, s)

/-- Send one frame of port p, if one can go (R279, R280, R282, Table 10-6).  A cell lasts 2.56 ns. -/
def State.sendOne (p : BitVec 4) (s : State) : State :=
  let q := s.port p
  let inside := decide (100 * s.now < q.txEnd)
  if !q.up || (inside && !q.txLong) then s
  else
    match q.sendable (fun k => s.poolCells p k) inside q.txq [] 0 with
    | none => s
    | some k =>
      match q.txq[k]? with
      | none => s
      | some (f, slot) =>
        let n := s.numberPair { f with hdr := putFld f.hdr 84 q.txSeq }
        let f := n.1
        let s := n.2
        let hit (u _a : Nat) : Bool := u == p.toNat
        let held := s.armedFor 34 hit
        let s := if held then s.fired else s
        let bad := s.armedFor 35 hit
        let s := if bad then s.fired else s
        let r : Replay := { f := f, first := s.now, sent := s.now, replays := 0, withheld := held, bad := bad, slot := slot }
        (s.upPort p (fun q =>
          { q with txq := q.txq.eraseIdx k, txSeq := q.txSeq + 1, replay := q.replay ++ [r],
                   txEnd := max q.txEnd (100 * s.now) + 256 * f.cells, txLong := inside || decide (1 < f.cells),
                   used := Tab.upd 0 q.used f.pool (· + f.cells) })).emit (.crew p (f.wire inside))

/-- Send what can be sent on port p. -/
def State.pump (p : BitVec 4) (s : State) : State := (List.range 64).foldl (fun s _ => s.sendOne p) s

/-- Hand a frame to port p for sending. -/
def State.pushFrame (p : BitVec 4) (f : Frame) (slot : Option (BitVec 9)) (s : State) : State :=
  (s.upPort p (fun q => { q with txq := q.txq ++ [(f, slot)] })).pump p

/-- Hand a PAIR frame to port 15: an ORDER frame goes ahead of the other subtypes (R324). -/
def State.pushPair (f : Frame) (s : State) : State :=
  let order (x : Frame × Option (BitVec 9)) : Bool := x.1.type == 0xB && fld x.1.tsf 30 4 == (1 : BitVec 4)
  (s.upPort 15 (fun q =>
    { q with txq := if order (f, none) then q.txq.takeWhile order ++ [(f, none)] ++ q.txq.dropWhile order
                    else q.txq ++ [(f, none)] })).pump 15

/-- A PAIR frame of a subtype with its payload (Table 11-3): CLASS 0, on port 15 (R324).  A member whose pair port is down
sends none. -/
def State.sendPair (sub : BitVec 4) (payload : List (BitVec 32)) (s : State) : State :=
  if (s.port 15).up then s.pushPair (s.mkFrame 0xB 0 0 (sub ++ 0#30) payload) else s

/-- SEV frames that wait on a port (R309). -/
def CrewPort.sevs (q : CrewPort) : Nat := (q.txq.filter (fun x => x.1.type == 6)).length

/-- Inject a frame of this device on port p: a SEV is dropped and counted when the port is down or 8 wait (R309); any
other frame of a port that is down is unroutable (R291). -/
def State.inject (p : BitVec 4) (f : Frame) (slot : Option (BitVec 9)) (s : State) : State :=
  let up := (s.port p).up && s.carriesType p f.type
  if f.type = 6 ∧ (!up ∨ 8 ≤ (s.port p).sevs) then s.crewCount p 9 1
  else if up then s.pushFrame p f slot
  else (s.crewCount p 3 1).report 4 slot

/-- The two bytes of a port in a scan record (Table 10-7). -/
def CrewPort.scanWord (q : CrewPort) : BitVec 16 := bit1 q.up ++ (0#3) ++ q.nport ++ q.naddr

/-- The port words of a scan record, as this device's ports stand. -/
def State.portWords (s : State) : BitVec 256 :=
  (List.range 16).foldl (fun v n => putFld v (16 * n) (s.port (BitVec.ofNat 4 n)).scanWord) 0

/-- Event record 0x0005 (R295). -/
def State.crewEvent (p : BitVec 4) (swap : Bool) (s : State) : State :=
  let d : BitVec 32 := (0#8) ++ (s.port p).naddr ++ (0#4) ++ s.crew.cur ++ (0#2) ++ bit1 swap ++ bit1 (s.port p).up ++ p
  s.postEvent 5 d false

/-! ## Training, up, down (R275, R276, R291, R300) -/

/-- Whether port p can train: EN, the crew ready bit, its link PLL locked (R417), and for ports 0 and 1 the bypass open (R275, R276). -/
def State.mayTrain (p : BitVec 4) (s : State) : Bool :=
  (s.port p).en && s.ready 6 && !Tab.get false s.rst.pllLost (32 + p.toNat / 4) && (decide (2 ≤ p.toNat) || s.crew.bypState)

/-- A port that is down and can train starts to: it sends the device identifier, crew address and port number (R275). -/
def State.train (p : BitVec 4) (s : State) : State :=
  let q := s.port p
  if q.up || q.train || !s.mayTrain p then s
  else (s.upPort p (fun q => { q with train := true })).emit (.crewTrain p s.ident (fld s.crew.addr 0 8) s.crew.addr.msb)

/-- Every port that can train and does not starts to. -/
def State.trainAll (s : State) : State := (List.range 16).foldl (fun s n => s.train (BitVec.ofNat 4 n)) s

/-- Empty the halo slots of the enabled edges of port p; moves read 0 until a new send completes (R300). -/
def State.clearEdges (p : BitVec 4) (s : State) : State :=
  (List.range 4).foldl (fun s e =>
    if s.crew.hxmap.getLsbD (8 * e + 7) && fld s.crew.hxmap (8 * e) 4 == p then
      ((List.range 8).foldl (fun s k => (s.upArr (fun a =>
        { a with halo := Tab.upd Halo.empty a.halo (8 * e + k) (fun h => { h with data := 0, dead := true }) })).upCrew
          (fun c => { c with hxParts := Tab.set (0, 0) c.hxParts (8 * e + k) (0, 0) })) s).upCrew
        (fun c => { c with hxDone := putFld c.hxDone (8 * e) (0#8) })
    else s) s

/-- A port goes down: waiting frames are counted as unroutable (R291), edges are emptied (R300), event 0x0005 (R295); it
trains again when it can.  Buffers and credits start afresh. -/
def State.portDown (p : BitVec 4) (s : State) : State :=
  let q := s.port p
  let slots := (q.txq.map (·.2)) ++ (q.replay.map (·.slot))
  let s := s.crewCount p 3 (q.txq.length + q.replay.length)
  let s := slots.foldl (State.report 4) s
  let s := s.upPort p (fun q =>
    { q with up := false, train := false, txq := [], replay := [], used := [], freed := [], back := [], owed := [], txSeq := 0,
             rxSeq := 0, ahead := 0, naked := false, txEnd := 0, rxWait := q.rxWait.map (fun x => (x.1, false)) })
  ((s.clearEdges p).crewEvent p false).train p

/-! ## Routes of messages (R290 to R293) -/

/-- The route table of an epoch: the current one, the old one while it lives, or the standby one. -/
def Crew.tableOf (c : Crew) (e : BitVec 4) : Option (Tab (BitVec 8)) :=
  if e = c.cur then some c.rtc
  else if c.oldlive && e == c.cur - 1 then some c.rts
  else if !c.oldlive && e == c.cur + 1 then some c.rts
  else none

/-- Bytes in segments of 64, each with its index. -/
def segsOf : Nat → Nat → List Byte → List (Nat × List Byte)
  | 0, _, _ => []
  | n + 1, k, bs => if bs.isEmpty then [] else (k, bs.take 64) :: segsOf n (k + 1) (bs.drop 64)

/-- A frame takes the way from port p to port q: at once when they are one port, else across the mesh as PWR packets numbered by SEG,
from endpoint to endpoint (R290, R335).  Their ADDR and TAG are this model's choice (log entry 60). -/
def State.cross (p q : BitVec 4) (f : Frame) (slot : Option (BitVec 9)) (s : State) : State :=
  if p = q then s.pushFrame q f slot
  else
    let tag := s.crew.tag
    let here := crewSite p.toNat
    let there := crewSite q.toNat
    let x : Transit := { src := p, dst := q, tag := tag, epoch := f.epoch, words := f.payload.length, slot := slot, segs := [] }
    let s := s.upCrew (fun c => { c with tag := c.tag + 1, transit := c.transit ++ [x] })
    (segsOf 9 0 f.bytes).foldl (fun s g =>
      s.present here.1 here.2 (Packet.make 4 there.1 there.2 tag.toNat g.2.length 0 g.1 (0x10000 + 64 * g.1)
        (BitVec.ofNat 512 (bytesNat g.2)))) s

/-- A MSG frame for another device leaves by the table of its epoch (R290 to R292); p is the port it arrived on or was
injected at, which counts what goes wrong. -/
def State.forward (p : BitVec 4) (f : Frame) (slot : Option (BitVec 9)) (s : State) : State :=
  if f.ttl = 0 then (s.crewCount p 4 1).report 4 slot
  else
    match s.crew.tableOf f.epoch with
    | none => (s.crewCount p 5 1).report 4 slot
    | some t =>
      let e := Tab.get 0 t f.dst.toNat
      let out := fld e 0 4
      if !e.msb || !s.portUp out then (s.crewCount p 3 1).report 4 slot
      else
        let cls : BitVec 2 := if e.getLsbD 6 || f.cls == 1 then 1 else 0
        s.cross p out { f with hdr := putFld (putFld f.hdr 96 (f.ttl - 1)) 78 cls } slot

/-- A segment of a crossing frame reaches its port; the last one completes it, and it is queued there, or discarded and counted when the
port is down by then (R291).  A segment with an uncorrectable data field loses its frame. -/
def State.takeSegment (src dst : BitVec 4) (tag : BitVec 10) (seg : Nat) (data : BitVec 512) (bad : Bool) (s : State) : State :=
  let is (x : Transit) : Bool := x.src == src && x.dst == dst && x.tag == tag
  match s.crew.transit.find? is with
  | none => s
  | some x =>
    let segs := x.segs.filter (fun g => g.1 != seg) ++ [(seg, data)]
    let need := (16 + 4 * x.words + 63) / 64
    let drop (s : State) : State := s.upCrew (fun c => { c with transit := c.transit.filter (fun y => !is y) })
    if bad then (drop s).report 3 x.slot
    else if segs.length < need then
      s.upCrew (fun c => { c with transit := c.transit.map (fun y => if is y then { y with segs := segs } else y) })
    else
      let bytes := (List.range need).flatMap (fun i =>
        match segs.find? (fun g => g.1 == i) with
        | some g => natBytes 64 g.2.toNat
        | none => [])
      let f : Frame := { Frame.read bytes with crcOk := true }
      let s := drop s
      if s.portUp dst then s.pushFrame dst f x.slot else (s.crewCount dst 3 1).report 4 x.slot

/-- A frame of this device takes its way: a MSG by its route, any other on port p. -/
def State.launch (p : BitVec 4) (f : Frame) (slot : Option (BitVec 9)) (s : State) : State :=
  if f.type = 1 then s.forward p f slot else s.inject p f slot

/-! ## Retry (R282, R283) -/

/-- The retry of port p is exhausted: the frames of its replay buffer are lost, and it retrains (R283). -/
def State.exhaust (p : BitVec 4) (lseq : BitVec 12) (inj : Bool) (s : State) : State :=
  let q := s.port p
  let s := s.occur 34 0 ((lseq ++ p : BitVec 16).setWidth 64) inj
  let s := s.crewCount p 0 q.replay.length
  let s := (q.replay.map (·.slot)).foldl (State.report 3) (s.upPort p (fun q => { q with replay := [] }))
  s.portDown p

/-- Replay from the k-th frame of the replay buffer, in order. -/
def State.replayFrom (p : BitVec 4) (k : Nat) (s : State) : State :=
  let q := s.port p
  match q.replay[k]? with
  | none => s
  | some r =>
    if r.bad then
      (s.occur 35 0 ((1#1 ++ r.f.cls ++ p : BitVec 7).setWidth 64) true).exhaust p r.f.lseq false
    else if (q.replay.drop k).any (fun x => decide (4 ≤ x.replays) || decide (x.first + 20000 ≤ s.now)) then
      s.exhaust p r.f.lseq ((q.replay.drop k).any (·.withheld))
    else
      let rest := q.replay.drop k
      let s := s.crewCount p 1 rest.length
      let s := rest.foldl (fun s x => s.emit (.crew p (x.f.wire false))) s
      let sent := rest.map (fun x => { x with replays := x.replays + 1, sent := s.now })
      s.upPort p (fun q =>
        { q with replay := q.replay.take k ++ sent, txLong := false,
                 txEnd := max q.txEnd (100 * s.now) + 256 * (rest.map (fun x => x.f.cells)).sum })

/-- LINK_ACK: the frames up to LSEQ are acknowledged (R282); send slots report DONE (R294). -/
def execLinkAck (p : BitVec 4) (lseq : BitVec 12) (crcOk : Bool) (s : State) : Answer :=
  let q := s.port p
  if !crcOk || !q.up then .next s
  else
    match q.replay.findIdx? (fun r => r.f.lseq == lseq) with
    | none => .next s
    | some k =>
      let done := (q.replay.take (k + 1)).takeWhile (fun r => !r.withheld)
      let s := s.upPort p (fun q => { q with replay := q.replay.drop done.length })
      .next (((done.map (·.slot)).foldl (State.report 2) s).pump p)

/-- CREW_CREDIT_RETURN: the cells of a pool that the far end has returned since training, so that a repeated cell returns nothing
twice (R281, Table 10-6). -/
def execCrewCreditReturn (p : BitVec 4) (pool : BitVec 3) (total : BitVec 32) (crcOk : Bool) (s : State) : Answer :=
  if !crcOk || !(s.port p).up then .next s
  else
    .next ((s.upPort p (fun q =>
      { q with used := Tab.upd 0 q.used pool.toNat (· - (total - Tab.get 0 q.freed pool.toNat).toNat),
               freed := Tab.set 0 q.freed pool.toNat total })).pump p)

/-! ## Receiving -/

/-- The first discard of an episode sends one NAK with the expected LSEQ (R282). -/
def State.nak (p : BitVec 4) (s : State) : State :=
  if (s.port p).naked then s
  else (s.upPort p (fun q => { q with naked := true })).emit (.crewCell p 1 ((s.port p).rxSeq.setWidth 64))

/-- A frame fails its CRC on port p (R281, R282). -/
def State.failCrc (p : BitVec 4) (s : State) : State := (s.crewCount p 2 1).nak p

/-- The receive buffer of a frame is free again: its credit returns. -/
def State.grantCells (p : BitVec 4) (pool n : Nat) (s : State) : State :=
  let total : BitVec 32 := Tab.get 0 (s.port p).back pool + BitVec.ofNat 32 n
  (s.upPort p (fun q => { q with back := Tab.set 0 q.back pool total })).emit
    (.crewCell p 2 ((total ++ BitVec.ofNat 3 pool : BitVec 35).setWidth 64))

/-- No receive slot of the port is free (R294). -/
def CrewPort.full (q : CrewPort) : Bool := (List.range 32).all (fun k => (Tab.get none q.recv k).isSome)

/-- The credit of a frame returns; MSG credit is kept back while no receive slot of the port is free (R294). -/
def State.returnCredit (p : BitVec 4) (f : Frame) (s : State) : State :=
  if f.pool < 2 && (s.port p).full then s.upPort p (fun q => { q with owed := Tab.upd 0 q.owed f.pool (· + f.cells) })
  else s.grantCells p f.pool f.cells

/-- The link layer's verdict on a frame of port p (R280 to R282): the state, and whether the frame is accepted.  A frame from inside a
longer one is accepted ahead of it; any other start cell inside a frame makes the longer one fail its CRC. -/
def State.linkReceive (p : BitVec 4) (f : Frame) (inside : Bool) (s : State) : State × Bool :=
  if !(s.port p).up then (s, false)
  else
    let bad := s.armedFor 35 (fun u _ => u == p.toNat)
    let s := if bad then s.fired.occur 35 0 ((0#1 ++ f.cls ++ p : BitVec 7).setWidth 64) true else s
    let crc := f.crcOk && !bad
    let s := if inside && !(crc && f.inserts) then s.failCrc p else s
    let q := s.port p
    if !crc then (if inside then s else s.failCrc p, false)
    else if f.lseq = q.rxSeq then
      let s := s.upPort p (fun q => { q with rxSeq := q.rxSeq + 1 + BitVec.ofNat 12 q.ahead, ahead := 0, naked := false })
      let s := s.emit (.crewCell p 0 (((s.port p).rxSeq - 1).setWidth 64))
      if f.malformed (p == 15 && s.double) then ((s.crewCount p 2 1).returnCredit p f, false) else (s, true)
    else if inside && f.inserts && f.lseq == q.rxSeq + 1 + BitVec.ofNat 12 q.ahead then
      let s := s.upPort p (fun q => { q with ahead := q.ahead + 1 })
      if f.malformed (p == 15 && s.double) then ((s.crewCount p 2 1).returnCredit p f, false) else (s, true)
    else (s.nak p, false)

/-- Link control cells repeat the state of a port every 100 ns: the ACK, a NAK that stands, and the credits (R281). -/
def State.repeatState (p : BitVec 4) (s : State) : State :=
  let q := s.port p
  if !q.up || decide (s.now < q.ctlAt + 100) then s
  else
    let s := s.upPort p (fun q => { q with ctlAt := s.now })
    let s := if q.rxSeq = 0 then s else s.emit (.crewCell p 0 ((q.rxSeq - 1).setWidth 64))
    let s := if q.naked then s.emit (.crewCell p 1 (q.rxSeq.setWidth 64)) else s
    q.back.foldl (fun s e => s.emit (.crewCell p 2 ((e.2 ++ BitVec.ofNat 3 e.1 : BitVec 35).setWidth 64))) s

/-- What a tick does on the crew ports: state is repeated, and frames that wait for the line go out. -/
def State.crewTick (s : State) : State :=
  s.crew.ports.foldl (fun s e =>
    let s := s.repeatState (BitVec.ofNat 4 e.1)
    if e.2.txq.isEmpty then s else s.pump (BitVec.ofNat 4 e.1)) s

/-! ## The bypass (R276) -/

/-- The bypass changes state: the links of ports 0 and 1 lose lock, and train when they can (R276). -/
def State.bypass (isOpen : Bool) (s : State) : State :=
  if s.crew.bypState = isOpen then s
  else
    let s := s.upCrew (fun c => { c with bypState := isOpen })
    [0#4, 1#4].foldl (fun s p =>
      if (s.port p).up then s.portDown p
      else (s.upPort p (fun q => { q with train := false })).train p) s

/-- CREW_BYP_WRITE: OPEN is written (R276). -/
def execCrewBypWrite (value : BitVec 32) (s : State) : Answer :=
  .next (if s.ready 6 then s.upCrew (fun c => { c with bypOpen := value.getLsbD 0 }) else s)

/-- BYPASS_SETTLED: the switches follow OPEN (Table 10-2). -/
def execBypassSettled (s : State) : Answer := .next (s.bypass s.crew.bypOpen)

end Sys2Proof.Machine
end

