-- ==== Sys2Proof/Machine/PairBase.lean ====
section
/-!
DEFINITION. Double mode, its shared operations (R314 to R320): ordering an input, paired events, comparing an output
before its release, the signature of retired instructions, and the start of a divergence.
-/

namespace Sys2Proof.Machine

/-- This member is paired. -/
def State.paired (s : State) : Bool := decide (s.pair.st = .paired)

/-- This member is the lead (PAIR_CTL.ROLE). -/
def State.isLead (s : State) : Bool := !s.pair.ctl.getLsbD 30

/-- The Director cycle number, counted from T_s (R312). -/
def State.pairCycle (s : State) : Nat := s.dir.cyc - s.pair.cyc0

/-- PAIR_TIM: LAG in Director cycles, CMPTMO and LINEWAIT in ns. -/
def Pair.lag (p : Pair) : Nat := (fld p.tim 20 12).toNat
/-- CMPTMO. -/
def Pair.cmptmo (p : Pair) : Nat := 100 * (fld p.tim 8 8).toNat
/-- LINEWAIT. -/
def Pair.linewait (p : Pair) : Nat := 100 * (fld p.tim 0 8).toNat

/-! ## The mode of a member that leaves the pair -/

/-- LIMIT: the constraint that holds the array slowest (R420, R421, Table 15-5). -/
def Gaf.limited (paired : Bool) (g : Gaf) : Gaf :=
  { g with limit := if g.thold || g.mode == g.modeReq then 0 else if paired && decide (g.own < g.mode) then 2 else 1 }

/-- The divider changes: the mode in force and event 0x0003 (R419). -/
def State.divide (m : BitVec 2) (s : State) : State :=
  let s := s.upGaf (fun g => { g with mode := m })
  s.postEvent 3 ((0#26) ++ s.gaf.env ++ (0#2) ++ m) false

/-- A member that is no longer paired runs the mode that its own rules allow: at once when that is slower than the pair's,
and else from the pair's mode on, which the raising rule leads up to the requested mode (R3, R5, R422). -/
def State.soloMode (s : State) : State :=
  let g := s.gaf
  let t := if g.mode < g.own then (s.divide g.own).raise 63 else s.upGaf (fun g => { g with own := g.mode })
  t.upGaf (fun g => { (g.limited false) with partner := 0 })

/-! ## Divergence (R320) -/

/-- The end of a divergence for this member: event 0x0006 on its own channel 0 and detector 38 (R322, Table 17-2); outcome 0 safe
state, 1 survivor. -/
def State.reportPair (outcome : BitVec 2) (s : State) : State :=
  let p := s.pair
  let role : BitVec 1 := fld p.ctl 30 1
  let s := s.postEvent 6 (p.divNum ++ bit1 p.self ++ role ++ outcome ++ p.cause) false
  (s.occur 38 0 ((p.divNum ++ outcome ++ p.cause : BitVec 30).setWidth 64) p.inverted).upPair (fun p => { p with inverted := false })

/-- The safe state (R321): the Director stops as by HALT, in the midst of a hold too, the halt line is driven, nothing held
is released.  What was the mate goes back to the channel 0 of its own ADM_SQ and ADM_CQ, on which it writes its event record (R319,
R322). -/
def State.enterSafe (s : State) : State :=
  let s := s.reportPair 0
  let s := if s.paired && !s.isLead then s.upHost (fun h => { h with chans := Tab.set Chan.free h.chans 0 s.pair.maint }) else s
  let s := s.upPair (fun p =>
    { p with st := .safe, held := [], theirs := [], orders := [], mine := [], notices := [], verdict := 0 })
  ((s.upDir (fun d => { d with run := .safe, hold := .none })).driveHalt 2).soloMode

/-- Divergence with a cause of Table 11-2: releases stop, the diverged output goes, VERDICT is sent with SELF;
with RESP = SAFE this member enters the safe state at once.  A pair that is still joining diverges by SPLIT alone (R313). -/
def State.diverge (cause : BitVec 4) (num : BitVec 24) (s : State) : State :=
  if !(s.paired || (s.double && cause == 9)) || s.pair.verdict ≠ 0 then s
  else
    let me := s.pair.ueSince
    let s := s.upPair (fun p => { p with cause := cause, divNum := num, self := me, verdict := s.now + 1 })
    let s := s.sendPair 4 [cause.setWidth 32, (bit1 me).setWidth 32]
    if cause ≠ 8 ∧ cause ≠ 9 ∧ fld s.pair.ctl 28 2 ≠ (1 : BitVec 2) then s.enterSafe else s

/-- A divergence whose item has no number (R322 states none): a free value. -/
def State.divergeFree (cause : BitVec 4) (s : State) : State := s.took.diverge cause (s.freeVal 24)

/-- Whether outputs are released: not once a divergence has begun. -/
def State.releasing (s : State) : Bool := decide (s.pair.verdict = 0)

/-! ## Compared outputs (R317) -/

/-- An output takes its effect. -/
def State.releaseOut (o : HeldOut) (s : State) : State :=
  let alone := !s.paired
  match o with
  | .cue p => s.upCue (fun c => { c with inbox := c.inbox ++ [p] })
  | .frame p f slot => if alone || s.isLead then s.launch p f slot else s
  | .record outs => if alone || s.isLead then outs.foldl (fun s x => s.toHost x) s else s
  | .sig => s

/-- The cause of a mismatch of a kind (Table 11-1). -/
def mismatchCause (kind : BitVec 2) : BitVec 4 := kind.setWidth 4 + 1

/-- An output of a kind, with the bytes that its digest covers: released at once outside Double mode, else numbered,
its digest sent, and held until the partner's digest matches; once a divergence has begun it is held for a survivor (R317,
R320, R322). -/
def State.output (kind : BitVec 2) (bytes : List Byte) (o : HeldOut) (s : State) : State :=
  if !s.paired then s.releaseOut o
  else
    let n := Tab.get 0 s.pair.nums kind.toNat
    let d : BitVec 64 := Config.crypto 64 (100 + kind.toNat) bytes
    let inj := s.armedFor 38 (fun _ _ => true)
    let s := if inj then s.fired else s
    let s := s.upPair (fun p =>
      { p with nums := Tab.set 0 p.nums kind.toNat (n + 1), inverted := p.inverted || inj })
    let sent := if inj then ~~~ d else d
    let s := s.sendPair 3 [kind.setWidth 32, n, fld sent 0 32, fld sent 32 32]
    let held : Held := { kind := kind, num := n, digest := d, since := s.now, out := o }
    match if s.releasing then s.pair.theirs.find? (fun x => x.1 == kind && x.2.1 == n) else none with
    | some x =>
      let s := s.upPair (fun p => { p with theirs := p.theirs.filter (fun y => !(y.1 == kind && y.2.1 == n)) })
      if x.2.2 = d then s.releaseOut o else s.diverge (mismatchCause kind) (n.setWidth 24)
    | none => s.upPair (fun p => { p with held := p.held ++ [held] })

/-- A crew frame injected on a port by this device (R317, kind 1). -/
def State.sendFrame (p : BitVec 4) (f : Frame) (slot : Option (BitVec 9)) (s : State) : State :=
  s.output 1 (natBytes 16 f.hdr.toNat ++ f.payload.flatMap (fun w => natBytes 4 w.toNat)) (.frame p f slot)

/-- The signature of retired instructions (Table 11-1, kind 3): one more address, and its comparison at every 1,024th
Director cycle. -/
def State.signRetired (pc : BitVec 18) (s : State) : State :=
  if !s.paired || !s.pair.ctl.getLsbD 26 then s
  else
    let sg : BitVec 64 := Config.crypto 64 99 (natBytes 8 s.pair.sig.toNat ++ natBytes 3 pc.toNat)
    let s := s.upPair (fun p => { p with sig := sg })
    if s.pair.sigCyc / 1024 < s.pairCycle / 1024 then
      (s.upPair (fun p => { p with sig := 0, sigCyc := s.pairCycle })).output 3 (natBytes 8 sg.toNat) .sig
    else s

/-! ## Ordered inputs (R314) -/

/-- The input kind and the data of an ORDER record; which code stands for which input, and how its data are laid out, no rule
gives (log entry 60). -/
def ordRecord : OrdInput → Nat × List Byte
  | .slate ch x => (0, natBytes 4 ch.toNat ++ natBytes 64 x.toNat)
  | .putData ch data => (1, natBytes 4 ch.toNat ++ data)
  | .eventLine n => (2, [n.setWidth 8])
  | .lineRecord k w0 w1 w2 w3 => (3, k.setWidth 8 :: [w0, w1, w2, w3].flatMap (fun w => natBytes 3 w.toNat))
  | .maskedLine k line => (4, k.setWidth 8 :: natBytes 3 line.toNat)
  | .pairTime t => (5, natBytes 8 t.toNat)
  | .mode m => (6, [m.setWidth 8])
  | .crewFrame p f => (7, p.setWidth 8 :: f.bytes)
  | .cueVerdict r => (8, [r.setWidth 8])
  | .clap ch tail head => (9, natBytes 4 ch.toNat ++ natBytes 2 tail.toNat ++ natBytes 2 head.toNat)
  | .eventSlot => (10, [])
  | .frameEnd k line => (11, k.setWidth 8 :: natBytes 3 line.toNat)
  | .dmaError ch code => (12, natBytes 4 ch.toNat ++ [code])
  | .channel ch ctx sq cq => (15, natBytes 4 ch.toNat ++ natBytes 24 ctx.toNat ++ natBytes 8 sq.toNat ++ natBytes 8 cq.toNat)
  | .roundTimeout g v => (13, g.setWidth 8 :: natBytes 4 v.toNat)
  | .portWords w => (14, natBytes 32 w.toNat)

/-- Data in pieces of at most 248 bytes; one empty piece for no data. -/
def pieces : Nat → List Byte → List (List Byte)
  | 0, _ => []
  | n + 1, bs => bs.take 248 :: if (bs.drop 248).isEmpty then [] else pieces n (bs.drop 248)

/-- The bytes as 4-byte units, the last one padded with zeros. -/
def unitsOf (bs : List Byte) : List (BitVec 32) :=
  (List.range ((bs.length + 3) / 4)).map (fun i => BitVec.ofNat 32 (bytesNat ((bs.drop (4 * i)).take 4)))

/-- The ORDER frames of an input: each carries one record with a piece of its data (Table 11-3). -/
def State.sendOrder (o : Ordered) (s : State) : State :=
  let r := ordRecord o.input
  (pieces 8192 r.2).foldl (fun s d =>
    s.sendPair 1 (unitsOf (natBytes 6 o.cycle.toNat ++ [BitVec.ofNat 8 r.1, BitVec.ofNat 8 d.length] ++ d))) s

/-- The lead orders an input: its delivery cycle is LAG Director cycles ahead. -/
def State.orderInput (i : OrdInput) (s : State) : State :=
  let o : Ordered := { cycle := BitVec.ofNat 48 (s.pairCycle + s.pair.lag), input := i }
  (s.upPair (fun p => { p with orders := p.orders ++ [o] })).sendOrder o

/-- The mate reports an occurrence (Table 11-3). -/
def State.sendNotice (n : Notice) (s : State) : State :=
  s.sendPair 2 [n.source.setWidth 32, n.number.setWidth 32, n.crc]

/-- The lead's crew ports have changed: the port words of the pair's scan record are an ordered input, so that both members make
the same record (R317, R319). -/
def State.orderPorts (s : State) : State := if s.paired && s.isLead then s.orderInput (.portWords s.portWords) else s

/-- A crew port loses its link; on the pair port that is cause LINK (Table 11-2). -/
def State.linkFailed (p : BitVec 4) (s : State) : State :=
  let t := (s.portDown p).orderPorts
  if p = 15 then t.divergeFree 8 else t

/-- The next number of a source's occurrences. -/
def State.noticeNum (source : Nat) (s : State) : BitVec 24 := (Tab.get 0 s.pair.nums (256 + source)).setWidth 24

/-- An occurrence of a paired event line on this member: the mate reports it, the lead matches it (R315). -/
def State.pairedEvent (line : Nat) (s : State) : State :=
  let src : BitVec 7 := BitVec.ofNat 7 (64 + line)
  let n : Notice := { source := src, number := s.noticeNum (64 + line), crc := 0 }
  let s := s.upPair (fun p => { p with nums := Tab.upd 0 p.nums (256 + 64 + line) (· + 1) })
  if !s.isLead then
    (s.upPair (fun p => { p with mine := p.mine ++ [(n, s.now)] })).sendNotice n
  else
    match s.pair.notices.findIdx? (fun x => x.1.source == src) with
    | some k => (s.upPair (fun p => { p with notices := p.notices.eraseIdx k })).orderInput (.eventLine (BitVec.ofNat 6 line))
    | none => s.upPair (fun p => { p with mine := p.mine ++ [(n, s.now)] })

/-- Raise an event line as an input of the Director: at once in Solo mode; in Double mode ordered, paired, or, for 63, as
a union (R314, R315).  Lines 40 to 43 and 56 to 59 arise from lockstep execution. -/
def State.raiseIn (n : Nat) (s : State) : State :=
  if !s.paired || (40 ≤ n && n ≤ 43) || (56 ≤ n && n ≤ 59) then s.raise n
  else if (32 ≤ n && n ≤ 39) || (60 ≤ n && n ≤ 62) then s.pairedEvent n
  else if s.isLead then s.orderInput (.eventLine (BitVec.ofNat 6 n))
  else if n = 63 then s.sendNotice { source := 127, number := 0, crc := 0 }
  else s

end Sys2Proof.Machine
end

