-- ==== Sys2Proof/Machine/Time.lean ====
section
/-!
DEFINITION. The timebase (R255, R258) and the time that the Director and the cue list see, which is the pair time in
Double mode (R316), with TB_STEP, TB_SLEW and the tick.
-/

namespace Sys2Proof.Machine

/-- The pair time, extended by 5/3 ns per Director cycle and never lower than the previous read (R316). -/
def State.pairTime (s : State) : BitVec 64 :=
  let t := s.pair.ptime + BitVec.ofNat 64 ((s.dir.cyc - s.pair.pcyc) * 5 / 3)
  if t < s.pair.plast then s.pair.plast else t

/-- The time that Director reads, WTU and the cue list judgement use. -/
def State.dirTime (s : State) : BitVec 64 := if s.pair.st = .paired then s.pairTime else s.tbNow

/-- A read of that time. -/
def State.readTime (s : State) : BitVec 64 × State :=
  let t := s.dirTime
  (t, if s.pair.st = .paired then s.upPair (fun p => { p with plast := t }) else s)

/-- What a slew adds at most in its tick k, in units of 2^-32 ns: one unit more in 37 of every 125 ticks (R258); which
37 is this model's choice (log entry 11). -/
def slewUnits (k : Nat) : Nat := if k % 125 * 37 / 125 < (k % 125 + 1) * 37 / 125 then 4294968 else 4294967

/-- What the slew in progress adds in its next tick. -/
def Cue.slewStep (c : Cue) : Int :=
  let m : Int := slewUnits c.slewTick
  if m < c.slew then m else if c.slew < -m then -m else c.slew

/-- One timebase tick: 5 ns + ADJ x 2^-32 ns, and the slew (R255, R258). -/
def Cue.tick (c : Cue) : Cue :=
  { c with tb := c.tb + BitVec.ofInt 96 (5 * 4294967296 + c.adj.toInt + c.slewStep),
           slew := c.slew - c.slewStep, slewTick := c.slewTick + 1 }

/-- Whether a step of the timebase is refused (R258). -/
def State.stepRefused (s : State) : Bool :=
  s.host.chans.any (fun e => e.2.st == .running || e.2.st == .draining) || !s.cue.pend.isEmpty

/-- A write of TB_STEP: the value, its fraction 0, or STEPREF (R258). -/
def State.writeTbStep (value : BitVec 64) (s : State) : State :=
  if !s.ready 4 then s
  else s.upCue (fun c => if s.stepRefused then { c with stepRef := true } else { c with tb := value.setWidth 96 <<< 32 })

/-- TB_STEP_WRITE. -/
def execTbStepWrite (value : BitVec 64) (s : State) : Answer := .next (s.writeTbStep value)

/-- A write of TB_SLEW: a signed offset of ns; it replaces what is not yet applied (R258). -/
def State.writeTbSlew (value : BitVec 32) (s : State) : State :=
  if s.ready 4 then s.upCue (fun c => { c with slew := value.toInt * 4294967296, slewTick := 0 }) else s

/-- TB_SLEW_WRITE. -/
def execTbSlewWrite (value : BitVec 32) (s : State) : Answer := .next (s.writeTbSlew value)

/-- SLEW_COMPLETE: the tick that applies what remains of the slew; SLEWING then reads 0 (R258). -/
def execSlewComplete (s : State) : Answer :=
  if s.cue.slew ≠ 0 ∧ s.cue.slewStep = s.cue.slew then
    .next { (s.upCue Cue.tick) with now := s.now + 5 }
  else .next s

end Sys2Proof.Machine
end

