-- ==== Sys2Proof/Machine/Cue.lean ====
section
/-!
DEFINITION. The cue list (R260 to R267): the judgement of an entry, the key windows, and the edges.
-/

namespace Sys2Proof.Machine

/-! ## The judgement (R261, R262) -/

/-- NPM1 + 1: how many pins the entry covers. -/
def CuePost.npins (e : CuePost) : Nat := (fld e.x 18 3).toNat + 1
/-- LEVEL. -/
def CuePost.isLevel (e : CuePost) : Bool := fld e.x 22 2 == 1
/-- The keys 64 bank + pin of its pins. -/
def CuePost.pins (e : CuePost) : List Nat :=
  (List.range e.npins).map (fun i => 64 * (fld e.x 15 3).toNat + (fld e.x 9 6).toNat + i)

/-- Reason 0x1 (Table 9-2, Table 9-3). -/
def CuePost.badArg (e : CuePost) : Bool :=
  let act := (fld e.x 22 2).toNat
  decide (2 ≤ act) || (act == 0 && e.x.getLsbD 21) || decide (6 ≤ (fld e.x 15 3).toNat) || fld e.x 0 9 != 0 ||
    (if act = 1 then e.y != 0 else decide (e.y.toNat < 10)) || decide (64 < (fld e.x 9 6).toNat + e.npins)

/-- Pins of a pending entry. -/
def CueEnt.pins (e : CueEnt) : List Nat :=
  (List.range (e.npm1.toNat + 1)).map (fun i => 64 * e.bank.toNat + e.pin.toNat + i)

/-- Times of the edges of a pending entry: both of a PULSE, one of a LEVEL. -/
def CueEnt.edges (e : CueEnt) : List Nat :=
  if e.isLevel then [e.time.toNat] else [e.time.toNat, e.time.toNat + e.width.toNat]

/-- Times of the edges on a pin among pending entries. -/
def Cue.edgesOn (c : Cue) (key : Nat) : List Nat :=
  c.pend.flatMap (fun e => if e.pins.contains key then e.edges else [])

/-- Some half-open interval of 200 ns holds more than 4 of the times (reason 0x8). -/
def crowded (ts : List Nat) : Bool :=
  ts.any (fun t => decide (4 < (ts.filter (fun u => decide (t ≤ u) && decide (u < t + 200))).length))

/-- The key window of a channel; a channel with a cue binding has one (R262). -/
def Cue.window (c : Cue) (ch : BitVec 18) : KeyWin :=
  (Tab.get none c.keys ch.toNat).getD { high := 0xFFFFFF, marks := 0 }

/-- The verdict of the key window: none, or reason 0x5 STALE or 0x6 DUP (R262). -/
def KeyWin.verdict (k : KeyWin) (obj : Word) : Option (BitVec 4) :=
  let d := (obj - k.high).toNat
  if 1 ≤ d ∧ d ≤ 8388608 then none
  else if d = 0 ∨ 16777153 ≤ d then (if k.marks.getLsbD ((k.high - obj).toNat) then some 6 else none)
  else some 5

/-- The key window after an accepted object (R262). -/
def KeyWin.take (k : KeyWin) (obj : Word) : KeyWin :=
  let d := (obj - k.high).toNat
  if 1 ≤ d ∧ d ≤ 8388608 then { high := obj, marks := (k.marks <<< d) ||| 1 }
  else { k with marks := setBit k.marks ((k.high - obj).toNat) true }

/-- The first check of Table 9-3 that the entry fails at time now. -/
def Cue.judge (c : Cue) (now : BitVec 64) (e : CuePost) : Option (BitVec 4) :=
  let mine := (c.pend.filter (fun p => p.ch == e.ch)).length
  let edges := if e.isLevel then [e.time.toNat] else [e.time.toNat, e.time.toNat + e.y.toNat]
  if e.badArg then some 1
  else if !e.pins.all (fun k => Tab.get 0 c.owner k == e.ch.toNat + 1) then some 2
  else if e.time.toNat < now.toNat + 200 then some 3
  else if now.toNat + 4294967296 < e.time.toNat then some 4
  else
    match (c.window e.ch).verdict e.a with
    | some r => some r
    | none =>
      if Tab.get 0 c.cueMax e.ch.toNat ≤ mine || decide (8192 ≤ c.pend.length) then some 7
      else if e.pins.any (fun k => crowded (c.edgesOn k ++ edges)) then some 8
      else none

/-- The lowest place that no pending entry holds. -/
def Cue.freePlace (c : Cue) : BitVec 13 :=
  BitVec.ofNat 13 (((List.range 8193).find? (fun n => !c.pend.any (fun e => e.place.toNat == n))).getD 0)

/-- An accepted entry is placed, its object marked. -/
def Cue.accept (c : Cue) (e : CuePost) (ue : Bool) : Cue :=
  let ent : CueEnt :=
    { time := e.time, obj := e.a, isLevel := e.isLevel, value := e.x.getLsbD 21, npm1 := fld e.x 18 3,
      bank := fld e.x 15 3, pin := fld e.x 9 6, width := e.y, ch := e.ch, rose := false, masked := false,
      place := c.freePlace, ue := ue }
  let n := c.pend.length + 1
  { c with pend := c.pend ++ [ent], keys := Tab.set none c.keys e.ch.toNat (some ((c.window e.ch).take e.a)),
           hwm := if c.hwm.toNat < n then BitVec.ofNat 14 n else c.hwm }

/-- The cue list applies a verdict: the entry's credit returns (R28, R261). -/
def State.applyVerdict (e : CuePost) (reason : Option (BitVec 4)) (s : State) : State :=
  let s := s.upCue (fun c => { c with credits := min 16 (c.credits + 1) })
  match reason with
  | some r =>
    let s := s.upCue (fun c => { c with rej := r ++ e.ch ++ (0#18) ++ e.a, rejCnt := satInc c.rejCnt })
    (s.logResult e.ch 3 e.a e.time (r.setWidth 128)).raiseIn 60
  | none =>
    let inj := s.armedFor 25 (fun _ _ => true)
    let s := if inj then s.fired else s
    let before := s.cue.pend.length
    let s := s.upCue (fun c => c.accept e inj)
    let s := s.logResult e.ch 1 e.a e.time ((e.y ++ e.x : BitVec 48).setWidth 128)
    let warn := s.cue.warn.toNat
    if before < warn ∧ warn ≤ before + 1 then s.raiseIn 61 else s

/-- CUE_ENTRY: the oldest entry received is judged; the mate of a pair waits for the lead's verdict (R261, Table 11-1). -/
def execCueEntry (s : State) : Answer :=
  match s.cue.inbox with
  | [] => .next s
  | e :: rest =>
    if s.paired && !s.isLead then .next s
    else
      let t := s.readTime
      let r := s.cue.judge t.1 e
      let s := t.2.upCue (fun c => { c with inbox := rest })
      let s := if s.paired then s.sendOrder { cycle := BitVec.ofNat 48 (s.pairCycle + s.pair.lag), input := .cueVerdict (r.getD 0) } else s
      .next (s.applyVerdict e r)

/-! ## The edges (R263 to R266) -/

/-- The value that the cue list drives for a pin: its level, or 1 while a pulse on it lasts (R264, CUE[n]). -/
def Cue.value (c : Cue) (key : Nat) : Bool :=
  Tab.get false c.level key || c.pend.any (fun e => e.rose && e.pins.contains key)

/-- The next edge of an entry: its time and its order at one instant: LEVEL, rising, falling. -/
def CueEnt.next (e : CueEnt) : Nat × Nat :=
  if e.isLevel then (e.time.toNat, 0) else if e.rose then (e.time.toNat + e.width.toNat, 2) else (e.time.toNat, 1)

/-- The entry whose edge falls due first, by time now.  DESIGN CHOICE (log entry 59): of two LEVEL entries on one pin at the
same TIME, for which the rules give no order, the one accepted later takes effect later, so that its VALUE stands. -/
def Cue.dueFirst (c : Cue) (now : Nat) : Option CueEnt :=
  c.pend.foldl (fun best e =>
    if e.next.1 ≤ now then
      match best with
      | none => some e
      | some b => if e.next.1 < b.next.1 ∨ (e.next.1 = b.next.1 ∧ e.next.2 < b.next.2) then some e else some b
    else best) none

/-- Pins whose owner has released them go free once no entry on them is pending (R265). -/
def Cue.dropPins (c : Cue) (keys : List Nat) : Cue :=
  keys.foldl (fun c k =>
    if Tab.get false c.release k && !c.pend.any (fun e => e.pins.contains k) then
      { c with owner := Tab.set 0 c.owner k 0, release := Tab.set false c.release k false }
    else c) c

/-- An edge at each pin's ball whose driven value changes, unless the boundary-scan register drives the pins (R492). -/
def State.emitEdges (old : Cue) (keys : List Nat) (time : Nat) (s : State) : State :=
  if s.rst.jir = 0 ∨ s.rst.jir = 3 then s
  else keys.foldl (fun s k =>
    let a := s.spl.cueAtBall (k / 64) (k % 64) (old.value k)
    let b := s.spl.cueAtBall (k / 64) (k % 64) (s.cue.value k)
    match b with
    | some v => if a = b then s
      else s.emit (.edge (BitVec.ofNat 3 (k / 64)) (BitVec.ofNat 6 (k % 64)) v (BitVec.ofNat 96 time <<< 32))
    | none => s) s

/-- CUE_EDGE_DUE: the edge that falls due first, by the device's own timebase; an uncorrectable entry is spent instead
(CUE_STORE_UE). -/
def execCueEdgeDue (s : State) : Answer :=
  match s.cue.dueFirst s.tbNow.toNat with
  | none => .next s
  | some e =>
    let old := s.cue
    let others := old.pend.filter (fun x => x.place != e.place)
    if e.ue then
      let s := s.upCue (fun c => { c with pend := others, maskedCnt := satInc c.maskedCnt })
      let s := (s.upCue (fun c => c.dropPins e.pins)).logResult e.ch 3 e.obj e.time 15
      .next (s.occur 25 (s.chanId e.ch) ((e.place ++ e.obj : BitVec 37).setWidth 64) true)
    else
      let masked := e.pins.any (fun k => s.spl.pinSafe (k / 64) (k % 64))
      let count := masked && !e.masked
      let e' := { e with rose := true, masked := e.masked || masked }
      let s := s.upCue (fun c =>
        { c with pend := if e.next.2 = 1 then old.pend.map (fun x => if x.place = e.place then e' else x) else others,
                 level := if e.isLevel then e.pins.foldl (fun t k => Tab.set false t k e.value) c.level else c.level,
                 maskedCnt := if count then satInc c.maskedCnt else c.maskedCnt })
      let s := s.emitEdges old e.pins e.next.1
      let s := if count then s.logResult e.ch 3 e.obj e.time 15
        else if !masked && e.next.2 ≠ 2 then s.logResult e.ch 2 e.obj e.time 0 else s
      .next (s.upCue (fun c => c.dropPins e.pins))

end Sys2Proof.Machine
end

