-- ==== Sys2Proof/Machine/Banks.lean ====
section
/-!
DEFINITION. The staging banks as storage: lines, check patterns, the patrol's segment map and abandoned tests, and port B
(R232, R344 to R346, R349, R350, R352 to R356).
-/

namespace Sys2Proof.Machine

/-! ## The tables that banks 9 to 15 hold (R232, R236) -/

/-- The submission reel's descriptor (Table 8-7). -/
def Chan.subReel (c : Chan) : BitVec 64 := c.fetch ++ c.tail ++ c.depth ++ (0#1) ++ c.sbase

/-- The completion reel's descriptor (Table 8-7). -/
def Chan.compReel (c : Chan) : BitVec 64 := c.write ++ c.head ++ bit1 c.phase ++ c.vec ++ c.cbase

/-- A channel with its reel descriptors as given. -/
def Chan.withReels (c : Chan) (sq cq : BitVec 64) : Chan :=
  { c with fetch := fld sq 52 12, tail := fld sq 40 12, depth := fld sq 36 4, sbase := fld sq 0 35, write := fld cq 52 12,
           head := fld cq 40 12, phase := cq.getLsbD 39, vec := fld cq 31 8, cbase := fld cq 0 31 }

/-- Bytes a .. a + n - 1 of bank b, as a number. -/
def Banks.bytesAt (k : Banks) (b a n : Nat) : Nat := bytesNat (Tab.getList 0 k.mem (1048576 * b + a) n)

/-- Line l of bank b (64 bytes). -/
def Banks.line (k : Banks) (b l : Nat) : BitVec 512 := BitVec.ofNat 512 (k.bytesAt b (64 * l) 64)

/-- Whether a lane mask covers word w of its line wholly. -/
def wholeWord (lanes : BitVec 64) (w : Nat) : Bool := decide (fld lanes (8 * w) 8 = 0xFF)

/-- Write the lanes of line l of bank b from v: lane i is byte i of v; a whole word takes fresh check bits (R345). -/
def Banks.putLanes (k : Banks) (b l : Nat) (lanes : BitVec 64) (v : BitVec 512) : Banks :=
  { k with
    mem := (List.range 64).foldl (fun t i =>
      if lanes.getLsbD i then Tab.set 0 t (1048576 * b + 64 * l + i) (fld v (8 * i) 8) else t) k.mem,
    poison := (List.range 8).foldl (fun t w =>
      if wholeWord lanes w then Tab.set false t (131072 * b + 8 * l + w) false else t) k.poison }

/-- INFO of the bank detectors: bank 4, word address 17. -/
def bankInfo (b word : Nat) : BitVec 64 := BitVec.ofNat 64 (b + 16 * word)

/-- A line with the lanes of a write replaced. -/
def mixLanes (old new : BitVec 512) (lanes : BitVec 64) : BitVec 512 :=
  (List.range 64).foldl (fun v i => if lanes.getLsbD i then putFld v (8 * i) (fld new (8 * i) 8 : BitVec 8) else v) old

/-- The first of the four channels whose reel descriptors line l of bank b, 10 to 13, holds: 16 bytes a channel, submission first
(Tables 8-5 and 8-7; their order is DESIGN CHOICE, log entry 49). -/
def reelChan (b l : Nat) : Nat := 4 * (16384 * (b - 10) + l)

/-- That line. -/
def State.reelLine (b l : Nat) (s : State) : BitVec 512 :=
  (List.range 4).foldl (fun v i =>
    let c := Tab.get Chan.free s.host.chans (reelChan b l + i)
    putFld (putFld v (128 * i) c.subReel) (128 * i + 64) c.compReel) 0

/-- Line l of bank b as stored: reel descriptors in banks 10 to 13; in banks 9, 14 and the upper half of 15, once the host interface
or the runtime has written there, what they keep, whose layout the spec leaves to them: a free value (R232; log entry 49). -/
def State.bankLine (b l : Nat) (s : State) : BitVec 512 × State :=
  if 10 ≤ b ∧ b < 14 then (s.reelLine b l, s)
  else if Tab.get false s.banks.tables b ∧ (b ≠ 15 ∨ 8192 ≤ l) then (s.freeVal 512, s.took)
  else (s.banks.line b l, s)

/-- The host interface or the runtime writes its tables in bank b. -/
def State.noteTable (b : Nat) (s : State) : State := s.upBanks (fun k => { k with tables := Tab.set false k.tables b true })

/-- Lanes of line l of bank b are written, and with them the reel descriptors that the line holds. -/
def State.putLine (b l : Nat) (lanes : BitVec 64) (v : BitVec 512) (s : State) : State :=
  if 10 ≤ b ∧ b < 14 then
    let w := mixLanes (s.reelLine b l) v lanes
    let s := s.upBanks (fun k => { k with poison := (k.putLanes b l lanes v).poison })
    s.upHost (fun h => { h with chans := (List.range 4).foldl (fun t i =>
      Tab.upd Chan.free t (reelChan b l + i) (fun c => c.withReels (fld w (128 * i) 64) (fld w (128 * i + 64) 64))) h.chans })
  else s.upBanks (fun k => k.putLanes b l lanes v)

/-- Two bits of a word flip, which two being left open (log entry 2); the word is left poisoned (detector 15). -/
def State.flipWord (b word : Nat) (s : State) : State :=
  let i := (s.freeVal 6).toNat
  let j := (i + 1 + (s.took.freeVal 6).toNat % 63) % 64
  let x := s.took.took.bankLine b (word / 8)
  let at_ := 64 * (word % 8)
  let v := x.1 ^^^ (1#512 <<< (at_ + i)) ^^^ (1#512 <<< (at_ + j))
  (x.2.putLine b (word / 8) (0xFF#64 <<< (8 * (word % 8))) v).upBanks (fun k =>
    { k with poison := Tab.set false k.poison (131072 * b + word) true })

/-! ## The patrol (R352 to R356) -/

/-- A bank has no spare: one of its physical segments is retired (R355). -/
def Banks.noSpare (k : Banks) (b : Nat) : Bool := k.retired.any (fun e => e.1 / 512 == b && e.2)

/-- The physical segment of a logical one. -/
def Banks.phys (k : Banks) (b seg : Nat) : Nat :=
  match Tab.get 0 k.map (256 * b + seg) with
  | 0 => seg
  | n + 1 => n

/-- The spare of a bank. -/
def Banks.spareOf (k : Banks) (b : Nat) : Nat :=
  match Tab.get 0 k.spare b with
  | 0 => 256
  | n + 1 => n

/-- The map makes the spare the logical segment under test; the tested physical segment becomes the spare (R352). -/
def Banks.switchMap (k : Banks) (b : Nat) : Banks :=
  let seg := (Tab.get 0 k.seg b).toNat
  let old := k.phys b seg
  let sp := k.spareOf b
  { k with map := Tab.set 0 k.map (256 * b + seg) (if sp = seg then 0 else sp + 1),
           spare := Tab.set 0 k.spare b (if old = 256 then 0 else old + 1) }

/-- The end of a borrow: the sweep moves on. -/
def Banks.endBorrow (k : Banks) (b : Nat) : Banks :=
  { k with phase := Tab.set 0 k.phase b 0, seg := Tab.upd 0 k.seg b (· + 1) }

/-- The test in bank b is abandoned: the map switches as at a pass, SB_PATROL_ABORT counts (R353). -/
def Banks.abandon (k : Banks) (b : Nat) : Banks :=
  let k := (k.switchMap b).endBorrow b
  { k with abort := Tab.upd 0 k.abort b satInc }

/-- An access that reaches a segment in TEST abandons the test (R353). -/
def Banks.touch (k : Banks) (b l : Nat) : Banks :=
  if Tab.get 0 k.phase b = 2 ∧ (Tab.get 0 k.seg b).toNat = l / 64 then k.abandon b else k

/-- Whether a logical segment is pinned (R354). -/
def Banks.pinned (k : Banks) (b seg : Nat) : Bool :=
  (List.range 8).any (fun n =>
    let p := Tab.get 0 k.pin n
    p.msb && decide ((fld p 8 4).toNat = b) && decide ((fld p 0 8).toNat = seg))

/-! ## Reads and writes of a line -/

/-- A read of line l of bank b: its data as stored, whether a word is uncorrectable, and the detectors (R345). -/
def State.bankRead (b l : Nat) (s : State) : BitVec 512 × Bool × State :=
  let s := s.upBanks (fun k => k.touch b l)
  let fits (u a : Nat) : Bool := u == b && a / 8 == l
  let at_ := match s.err.armed with | some w => injAddr w | none => 0
  let s := if s.armedFor 14 fits then s.fired.occur 14 0 (bankInfo b at_) true else s
  let ue := s.armedFor 15 fits
  let s := if ue then (s.flipWord b at_).fired else s
  let bad := (List.range 8).filter (fun w => Tab.get false s.banks.poison (131072 * b + 8 * l + w))
  let x := s.bankLine b l
  match bad with
  | [] => (x.1, false, x.2)
  | w :: _ => (x.1, true, x.2.occurN bad.length 15 0 (bankInfo b (8 * l + w)) ue)

/-- A write of lanes of line l of bank b. -/
def State.bankWrite (b l : Nat) (lanes : BitVec 64) (v : BitVec 512) (s : State) : State :=
  (s.upBanks (fun k => k.touch b l)).putLine b l lanes v

/-! ## Two ports at one word (R349, Table 12-9) -/

/-- A lane was written by both ports in one bank cycle: BANK_COLLIDE logs the lowest such word and SB_COLLCNT advances. -/
def State.collide (b l : Nat) (lanes : BitVec 64) (inj : Bool) (s : State) : State :=
  (s.occur 17 0 (bankInfo b (8 * l + (lowest lanes).getD 0 / 8)) inj).upBanks (fun k => { k with coll := Tab.upd 0 k.coll b satInc })

/-- A port of bank b (port 1 is B) writes lanes of line l.  When the other port's latest write is of the same 5 ns and shares a lane,
whether the two met in one bank cycle is left open (log entry 49): when they did, A's data stand on the shared lanes. -/
def State.portWrite (port b l : Nat) (lanes : BitVec 64) (v : BitVec 512) (s : State) : State :=
  let other := Tab.get PortUse.none s.banks.wrote (2 * b + (1 - port))
  let shared := if other.time = s.now ∧ other.line = l then other.lanes &&& lanes else 0
  let s := s.upBanks (fun k =>
    { k with wrote := Tab.set PortUse.none k.wrote (2 * b + port) { time := s.now, line := l, lanes := lanes } })
  if shared = 0 then s.bankWrite b l lanes v
  else
    let met := s.freeVal 1 = 1
    let s := s.took
    let s := if met then s.collide b l shared false else s
    s.bankWrite b l (if met ∧ port = 1 then lanes &&& ~~~ shared else lanes) v

/-- A write of port A to bank b; an armed BANK_COLLIDE signals a collision on its lanes and changes no data. -/
def State.portAWrite (b l : Nat) (lanes : BitVec 64) (v : BitVec 512) (s : State) : State :=
  let s := if s.armedFor 17 (fun u _ => u == b) then s.fired.collide b l lanes true else s
  s.portWrite 0 b l lanes v

/-- Whether a line lies in the secure region (R346). -/
def secureLine (b l : Nat) : Bool := b == 15 && l < 8192

/-- The line that a port B access meets: its own, or the one that injection 16 directs it at. -/
def State.portBLine (b l : Nat) (s : State) : Nat × Bool × State :=
  if b = 15 ∧ s.armedFor 16 (fun _ _ => true) then
    let a := match s.err.armed with | some w => injAddr w / 8 % 16384 | none => l
    (a, true, s.fired)
  else (l, false, s)

/-- Port B reads staging line n: secure lines give zeros (R346). -/
def State.portBRead (n : Nat) (s : State) : BitVec 512 × State :=
  let b := n / 16384
  let t := s.portBLine b (n % 16384)
  if secureLine b t.1 then (0, t.2.2.occur 16 0 (bankInfo b (8 * t.1)) t.2.1)
  else
    let r := t.2.2.bankRead b t.1
    (r.1, r.2.2)

/-- Port B writes staging line n whole. -/
def State.portBWrite (n : Nat) (v : BitVec 512) (s : State) : State :=
  let b := n / 16384
  let t := s.portBLine b (n % 16384)
  if secureLine b t.1 then t.2.2.occur 16 0 (bankInfo b (8 * t.1)) t.2.1
  else t.2.2.portWrite 1 b t.1 (BitVec.allOnes 64) v

end Sys2Proof.Machine
end

