-- ==== Sys2Proof/Machine/Flags.lean ====
section
/-!
DEFINITION. The Director's arithmetic and flag rules: C and V of add and subtract (R119, Table 5-2), shifts (R137),
compares (Table 5-11), multiply (R165), divide (Table 6-3), packed decimal (R168), and FLAGS as a word (Table 5-2).
-/

namespace Sys2Proof.Machine

/-- A result with its C and V. -/
structure Sum where
  val : Word
  c : Bool
  v : Bool
  deriving DecidableEq, Repr

/-- a + b + cin: C is the carry out, V signed overflow (Table 5-2). -/
def addC (a b : Word) (cin : Bool) : Sum :=
  let t := a.toNat + b.toNat + cin.toNat
  let i := a.toInt + b.toInt + cin.toNat
  { val := BitVec.ofNat 24 t, c := decide (2 ^ 24 ≤ t), v := decide (i < -8388608) || decide (8388607 < i) }

/-- a - b - bin: C is the borrow, V signed overflow. -/
def subC (a b : Word) (bin : Bool) : Sum :=
  let i := a.toInt - b.toInt - bin.toNat
  { val := a - b - BitVec.ofNat 24 bin.toNat, c := decide (a.toNat < b.toNat + bin.toNat),
    v := decide (i < -8388608) || decide (8388607 < i) }

/-- Shift counts are G[4:0] (R137). -/
def shCount (g : Word) : Nat := (fld g 0 5).toNat

/-- A logical shift by 24 or more gives 0; BitVec's shifts do so. -/
def shl24 (a g : Word) : Word := a <<< shCount g
/-- Logical right. -/
def shr24 (a g : Word) : Word := a >>> shCount g
/-- Arithmetic right; by 24 or more, 24 copies of the sign. -/
def sar24 (a g : Word) : Word := a.sshiftRight (shCount g)
/-- Rotate left, modulo 24. -/
def rol24 (a g : Word) : Word := a.rotateLeft (shCount g % 24)

/-- The leading zeros of A, 0 to 24. -/
def clz24 (a : Word) : Word := BitVec.ofNat 24 (24 - (if a = 0 then 0 else a.toNat.log2 + 1))

/-- Conditions of Table 5-11. -/
def condCode (op : Nat) (a g : Word) : Bool :=
  match op with
  | 0 => decide (a = g)
  | 1 => decide (a ≠ g)
  | 2 => a.slt g
  | 3 => a.sle g
  | 4 => g.slt a
  | 5 => g.sle a
  | 6 => a.ult g
  | 7 => a.ule g
  | 8 => g.ult a
  | 9 => g.ule a
  | 10 => decide (a &&& g ≠ 0)
  | _ => decide (a &&& g = 0)

/-- The 48-bit product, signed (MUL) or unsigned (MULU) (R165). -/
def mul48 (signed : Bool) (a b : Word) : BitVec 48 :=
  if signed then a.signExtend 48 * b.signExtend 48 else a.setWidth 48 * b.setWidth 48

/-- DIVU and DIVS: A, PH and whether DVZ is set (R167, Table 6-3). -/
def div24 (signed : Bool) (a g : Word) : Word × Word × Bool :=
  if signed then
    if g = 0 then (if a.msb then 0x800000 else 0x7FFFFF, a, true)
    else if a = 0x800000 ∧ g = 0xFFFFFF then (0x800000, 0, false)
    else (BitVec.ofInt 24 (a.toInt.tdiv g.toInt), BitVec.ofInt 24 (a.toInt.tmod g.toInt), false)
  else if g = 0 then (0xFFFFFF, a, true)
  else (a / g, a % g, false)

/-- Decimal digit i with an invalid digit taken as 9, and whether it was invalid (R168). -/
def digit (a : Word) (i : Nat) : Nat × Bool :=
  let d := (fld a (4 * i) 4).toNat
  if 9 < d then (9, true) else (d, false)

/-- The value of a packed decimal word. -/
def bcdVal (a : Word) : Nat := (List.range 6).foldl (fun t i => t + (digit a i).1 * 10 ^ i) 0

/-- Whether it holds an invalid digit. -/
def bcdBad (a : Word) : Bool := (List.range 6).any (fun i => (digit a i).2)

/-- n modulo 10^6 in packed form. -/
def bcdPack (n : Nat) : Word :=
  BitVec.ofNat 24 ((List.range 6).foldl (fun t i => t + (n / 10 ^ i % 10) * 16 ^ i) 0)

/-- DADD: A, PH, DV (R168). -/
def dadd24 (a g : Word) : Word × Word × Bool :=
  let t := bcdVal a + bcdVal g
  (bcdPack t, if 1000000 ≤ t then 1 else 0, bcdBad a || bcdBad g)

/-- DSUB: A, PH, DV. -/
def dsub24 (a g : Word) : Word × Word × Bool :=
  (bcdPack (bcdVal a + 1000000 - bcdVal g), if bcdVal a < bcdVal g then 1 else 0, bcdBad a || bcdBad g)

/-- FLAGS as a word (Table 5-2): MAINT reads the inverse of DSTATE.NORMAL (Table 6-6). -/
def flagsWord (d : Dir) (normal : Bool) : Word :=
  bit1 d.priv ++ d.cwp ++ d.ipl ++ bit1 d.ie ++ bit1 (!normal) ++ (0#10) ++ bit1 d.dvz ++ bit1 d.dv ++ bit1 d.v ++
    bit1 d.c

/-- A write of FLAGS (R119, R120): unprivileged code writes only C, V, DV and DVZ. -/
def writeFlags (w : Word) (d : Dir) : Dir :=
  let d := { d with c := w.getLsbD 0, v := w.getLsbD 1, dv := w.getLsbD 2, dvz := w.getLsbD 3 }
  if d.priv then { d with ie := w.getLsbD 15, ipl := fld w 16 3 } else d

/-- What RETI restores of SFL (R178): all but CWP and MAINT. -/
def restoreFlags (w : Word) (d : Dir) : Dir :=
  { d with c := w.getLsbD 0, v := w.getLsbD 1, dv := w.getLsbD 2, dvz := w.getLsbD 3, ie := w.getLsbD 15,
           ipl := fld w 16 3, priv := w.getLsbD 23 }

end Sys2Proof.Machine
end

