-- ==== Sys2Proof/Machine/Director.lean ====
section
/-!
DEFINITION. How the Director issues one instruction: fetch, the checks made before it executes, its completion with
the load slot, EXT and repetitions, trap and interrupt entry (R175), the double fault (R182), and RETI (R178).
An instruction command is the word that the Director fetches at its PC (log entry 9).
-/

namespace Sys2Proof.Machine

/-! ## Entry -/

/-- What causes an entry. -/
inductive Cause where
  /-- A trap of vector v with TDATA. -/
  | trap (v : BitVec 8) (tdata : Word)
  /-- An interrupt from event line n of priority p. -/
  | irq (line : BitVec 6) (p : BitVec 3)
  /-- A CALL made at CWP = 14 (R180). -/
  | call
  deriving DecidableEq, Repr

/-- The vector of a cause; 0xFE stands for a CALL in TCAUSE.ORIG. -/
def Cause.vector : Cause → BitVec 8
  | .trap v _ => v
  | .irq n _ => 128 + n.setWidth 8
  | .call => 0xFE

/-- TDATA that a trap entry leaves; 0 for a deflected CALL or interrupt (Table 6-10, vector 67). -/
def Cause.data : Cause → Word
  | .trap _ t => t
  | _ => 0

/-- Whether the Director issues instructions at all. -/
def State.issuing (s : State) : Bool := decide (s.dir.run = .running) && decide (s.dir.hold = .none)

/-- The Director stops for an uncorrectable program word or a double fault (R182): event record 0x0001, the halt line. -/
def State.stopDir (why : DirRun) (s : State) : State :=
  let s := s.postEvent 1 (s.dir.pc.setWidth 32) false
  (s.upDir (fun d => { d with run := why, hold := .none })).driveHalt 1

/-- The double fault (R182): DIRECTOR_HALT logs PC, TCAUSE and CWP. -/
def State.doubleFault (inj : Bool) (s : State) : State :=
  let info : BitVec 46 := s.dir.cwp ++ s.sys.tcause ++ s.dir.pc
  ((s.stopDir .doubleFault).upSys (fun y => { y with doubled := true })).occur 10 0 (info.setWidth 64) inj

/-- The save set of window w (R175, R179, R501, Table 6-12): what entry writes. -/
def saveSet (w : Nat) (ret : BitVec 18) (srf : Word) (normal : Bool) (y : Dsys) (rep : Option Rep) (d : Dir) : Dir :=
  let d' := d.setSaved w 8 (1#1 ++ 0#5 ++ ret)
  let d' := d'.setSaved w 9 d.a
  let d' := d'.setSaved w 10 d.x
  let d' := d'.setSaved w 11 d.y
  let d' := d'.setSaved w 12 d.ph
  let d' := d'.setSaved w 13 d.rc
  let d' := d'.setSaved w 14 (d.dp.setWidth 24)
  let d' := d'.setSaved w 15 (flagsWord d normal)
  let d' := d'.setSaved w 16 y.chid
  let d' := match rep with
    | some r => (d'.setSaved w 17 r.count).setSaved w 18 (r.held.getD (d'.saved w 18))
    | none => d'
  let d' := d'.setSaved w 19 srf
  match y.ld with
  | some (_, v) => d'.setSaved w 20 v
  | none => d'

/-- SRF of an entry: PLD, PRI, INT, HVALID, REPACT (Table 6-12). -/
def srfWord (c : Cause) (deflected : Bool) (y : Dsys) (rep : Option Rep) : Word :=
  let pld : BitVec 2 := match y.ld with | some (r, _) => r | none => 0
  let pi : BitVec 4 := match c with | .irq _ p => if deflected then 0 else p ++ 1#1 | _ => 0
  (0#16) ++ pld ++ pi ++ bit1 (match rep with | some r => r.held.isSome | none => false) ++ bit1 rep.isSome

/-- The serial of the ABAR that the Director holds for, plus 1; 0 when it holds for none (R114). -/
def Hold.abarSerial : Hold → Nat
  | .abar n => n + 1
  | _ => 0

/-- Entry (R175), with return point ret and the repetition that it interrupts. -/
def State.enter (c : Cause) (ret : BitVec 18) (rep : Option Rep) (s : State) : State :=
  let inj := (match c with | .trap _ _ => true | _ => false) && s.armedFor 10 (fun _ _ => true)
  if s.dir.cwp = 15 then s.doubleFault false
  else if inj then s.fired.doubleFault true
  else
    let defl := decide (s.dir.cwp = 14) && decide (c.vector ≠ 67)
    let isIrq := (match c with | .irq _ _ => true | _ => false) && !defl
    let v : BitVec 8 := if defl then 67 else c.vector
    let w := s.dir.cwp.toNat + 1
    let orig : BitVec 8 := if defl then c.vector else 0xFF
    let vec : BitVec 7 := if isIrq then fld s.sys.tcause 0 7 else v.setWidth 7
    let srf := srfWord c defl s.sys rep
    let pc : BitVec 18 := (s.sys.vbase ++ 0#10) + (v.setWidth 18 <<< 2)
    let wake := s.dir.hold.abarSerial
    let s := s.upDir (saveSet w ret srf s.sys.normal s.sys rep)
    let s := s.upDir (fun d =>
      { d with cwp := d.cwp + 1, priv := true, ie := d.ie && isIrq, pc := pc, hold := .none, cyc := d.cyc + 4,
               evp := match c with
                 | .irq n _ => if defl then d.evp else setBit d.evp n.toNat false
                 | _ => d.evp })
    s.upSys (fun y =>
      { y with tcause := (0#8) ++ orig ++ 0#1 ++ vec, tdata := if isIrq then y.tdata else c.data,
               iact := match c with
                 | .irq _ p => if defl then y.iact else setBit y.iact p.toNat true
                 | _ => y.iact,
               ext := none, rep := none, ld := none, abarHeld := Tab.set 0 y.abarHeld w wake,
               repnHeld := Tab.set false y.repnHeld w (match rep with | some r => r.noInt | none => false) })

/-! ## One instruction -/

/-- What decides, before an instruction executes, whether it may (R125 to R127, R153, R192), and its cycles
(Tables 5-17 and 6-1). -/
structure Info where
  /-- A must-be-0 field is not 0, or the encoding is unassigned. -/
  illegal : Bool
  /-- Marked P. -/
  priv : Bool
  /-- May be repeated (R153). -/
  rep : Bool
  /-- Extendable (Table 5-5). -/
  ext : Bool
  /-- Subject to FP_LAZY, to ARRAY_LAZY (R192). -/
  fp : Bool
  ar : Bool
  cycles : Nat
  deriving DecidableEq, Repr

/-- A plain instruction that is repeatable and takes n cycles. -/
def Info.plain (n : Nat) : Info :=
  { illegal := false, priv := false, rep := true, ext := false, fp := false, ar := false, cycles := n }

/-- What an instruction's own effect comes to. -/
inductive Res where
  /-- It completes; the next word follows. -/
  | done (s : State)
  /-- It completes in one more cycle and transfers control. -/
  | jump (s : State) (pc : BitVec 18)
  /-- A precise trap. -/
  | trap (s : State) (vec : BitVec 8) (tdata : Word)
  /-- A trap whose return point is the next word (TRAP n). -/
  | trapNext (s : State) (vec : BitVec 8) (tdata : Word)
  /-- A CALL deflected or refused by the window ring (R180, R181). -/
  | deflect (s : State)
  /-- It holds. -/
  | hold (h : Hold) (s : State)
  /-- It has set the PC and the repetition itself (RETI). -/
  | control (s : State)
  deriving DecidableEq, Repr

/-- Write a register that a load names: 1 A, 2 X, 3 Y (R132, R501). -/
def Dir.setLoaded (d : Dir) (p : BitVec 2 × Word) : Dir :=
  if p.1 = 1 then { d with a := p.2 } else if p.1 = 2 then { d with x := p.2 }
  else if p.1 = 3 then { d with y := p.2 } else d

/-- The register that a load names. -/
def Dir.loadedReg (d : Dir) (n : BitVec 2) : Word := if n = 1 then d.a else if n = 2 then d.x else d.y

/-- The address of the instruction that issues: the prefix of a repetition, the EXT word of a pair, or the word. -/
def State.instrPc (s : State) : BitVec 18 :=
  match s.sys.rep with
  | some r => r.pc
  | none => if s.sys.ext.isSome then s.dir.pc - 2 else s.dir.pc

/-- The literal of the instruction that issues: its EXT pair's, or the one read for the repetition. -/
def State.literal (s : State) : Option (BitVec 14) :=
  match s.sys.ext with
  | some l => some l
  | none => match s.sys.rep with
    | some r => r.lit
    | none => none

/-- The end of an instruction: the load before it is written (R132), a repetition counts down (R152) and ends with
the held RC (R154), and the PC moves to next. -/
def State.retire (old : Option (BitVec 2 × Word)) (cycles : Nat) (next : BitVec 18) (s : State) : State :=
  let s := match old with
    | some p => s.upDir (fun d => d.setLoaded p)
    | none => s
  let s := (s.upDir (fun d => { d with cyc := d.cyc + cycles })).signRetired s.instrPc
  match s.sys.rep with
  | some r =>
    if 1 < r.count.toNat then
      s.upSys (fun y => { y with ext := none, rep := some { r with count := r.count - 1, lit := s.literal, slot := none, fresh := false } })
    else
      (s.upDir (fun d => { d with pc := next, rc := r.held.getD d.rc })).upSys
        (fun y => { y with ext := none, rep := none })
  | none => (s.upDir (fun d => { d with pc := next })).upSys (fun y => { y with ext := none })

/-- A precise trap of the instruction that issues: the return point of Table 6-10, R179 inside a repetition. -/
def State.trapHere (vec : BitVec 8) (tdata : Word) (s : State) : State :=
  s.enter (.trap vec tdata) s.instrPc s.sys.rep

/-- Whether FOWN or AOWN names the channel in force (R192). -/
def ownedBy (own : BitVec 19) (chid : Word) : Bool := own.getLsbD 18 && decide (fld own 0 18 = fld chid 0 18)

/-- The fetch of the word at the PC: detectors 8 and 9.  Answers none when the Director stops (PMEM_UE). -/
def State.fetch (s : State) : State × Bool :=
  let a := s.dir.pc
  let inj := s.armedFor 9 (fun _ x => x == a.toNat)
  let s := if inj then (s.upSys (fun y => { y with ppoison := Tab.set false y.ppoison a.toNat true })).fired else s
  if Tab.get false s.sys.ppoison a.toNat then ((s.stopDir .pmemUe).occur 9 0 (a.setWidth 64) inj, false)
  else if s.armedFor 8 (fun _ x => x == a.toNat) then (s.fired.occur 8 0 (a.setWidth 64) true, true)
  else (s, true)

/-- Run the effect of an instruction whose checks have passed. -/
def State.perform (cycles : Nat) (body : State → Res) (s : State) : State :=
  let old := s.sys.ld
  let lit := if s.literal.isSome then 1 else 0
  match body (s.upSys (fun y => { y with ld := none })) with
  | .done t => t.retire old (cycles + lit) (t.dir.pc + 1)
  | .jump t pc => t.retire old (cycles + lit + 1) pc
  | .trap t vec tdata => (t.upSys (fun y => { y with ld := old })).trapHere vec tdata
  | .trapNext t vec tdata =>
    let t := t.upDir (fun d => { d with cyc := d.cyc + cycles })
    (t.upSys (fun y => { y with ld := old })).enter (.trap vec tdata) (t.dir.pc + 1) none
  | .deflect t => (t.upSys (fun y => { y with ld := old })).enter .call t.instrPc none
  | .hold h t => (t.upSys (fun y => { y with ld := old })).upDir (fun d => { d with hold := h })
  | .control t =>
    (match old with
     | some p => t.upDir (fun d => d.setLoaded p)
     | none => t).signRetired s.instrPc

/-- A prefix that does not execute after all (R153) leaves the load in whose slot it stands pending (R501). -/
def State.unslot (s : State) : State :=
  match s.sys.rep with
  | some r => match r.slot with
    | some (n, v, old) => (s.upDir (fun d => d.setLoaded (n, old))).upSys (fun y => { y with ld := some (n, v) })
    | none => s
  | none => s

/-- Issue one instruction (R125 to R127, R152, R153, R192).  When the Director does not issue, nothing happens (log
entry 9). -/
def State.issue (i : Info) (body : State → Res) (s : State) : State :=
  if !s.issuing then s
  else
    let (s, ok) := s.fetch
    if !ok then s
    else if s.sys.rep.isSome && !i.rep then
      -- R153: ILLEGAL at the prefix, which does not execute
      let s := s.unslot
      s.enter (.trap 64 0) s.instrPc none
    else if decide (i.cycles ≠ 0) && (match s.sys.rep with | some r => r.fresh && r.noInt && decide (256 < r.count.toNat) | none => false) then
      -- R155: REP_RANGE at the prefix; ILLEGAL, of the lower vector, comes before it (R174), so it waits for the word after the
      -- prefix and its EXT pair, EXT being the word of no cycle of its own
      let s := s.unslot
      s.enter (.trap 72 0) s.instrPc none
    else if decide ((s.sys.rep.map Rep.count) = some 0) then
      -- a count of 0 skips the instruction
      s.retire none 0 (s.dir.pc + 1)
    else if i.illegal || (s.literal.isSome && !i.ext) then s.trapHere 64 0
    else if i.priv && !s.dir.priv then s.trapHere 65 0
    else if i.fp && !s.dir.priv && !ownedBy s.sys.fown s.sys.chid then s.trapHere 73 0
    else if i.ar && !s.dir.priv && !ownedBy s.sys.aown s.sys.chid then s.trapHere 74 0
    else s.perform i.cycles body

/-- The end of a hold: the instruction completes after more cycles, its PC moves on. -/
def State.release (cycles : Nat) (s : State) : State :=
  let old := s.sys.ld
  ((s.upSys (fun y => { y with ld := none })).upDir (fun d => { d with hold := .none })).retire old cycles (s.dir.pc + 1)

/-! ## Interrupts and RETI -/

/-- Whether line n is a request: IRQCFG.EN and pending (R177). -/
def State.requests (n : Nat) (s : State) : Bool :=
  (Tab.get 0 s.sys.irqcfg n).getLsbD 3 && s.dir.evp.getLsbD n

/-- PRI of line n. -/
def State.priOf (n : Nat) (s : State) : Nat := (fld (Tab.get 0 s.sys.irqcfg n) 0 3).toNat

/-- The request of highest PRI, among equal PRI the lowest line (R177). -/
def State.topRequest (s : State) : Option Nat :=
  (List.range 64).foldl (fun best n =>
    if s.requests n then
      match best with
      | some b => if s.priOf b < s.priOf n then some n else best
      | none => some n
    else best) none

/-- Whether this is a boundary at which R163 allows an interrupt. -/
def State.atBoundary (s : State) : Bool :=
  decide (s.dir.run = .running) && s.sys.ext.isNone && s.sys.ld.isNone &&
    (match s.sys.rep with | some r => !r.noInt | none => true) &&
    (match s.dir.hold with
     | .rdor _ => false | .rdtally _ => false | .opcode _ _ _ => false | .cuepost _ _ => false | _ => true)

/-- The request that is taken now, with its priority (R177). -/
def State.takable (s : State) : Option (BitVec 6 × BitVec 3) :=
  if s.atBoundary && s.dir.ie then
    match s.topRequest with
    | some n =>
      let p := s.priOf n
      if s.dir.ipl.toNat ≤ p ∧ s.sys.iact.toNat < 2 ^ p then some (BitVec.ofNat 6 n, BitVec.ofNat 3 p) else none
    | none => none
  else none

/-- RETI in window w (R178, R179, R501); it returns to the hold of an ABAR that the entry interrupted (R114). -/
def State.returnFrom (s : State) : State :=
  let d := s.dir
  let w := d.cwp.toNat
  let srf := d.saved w 19
  let lk := d.saved w 8
  let pld : BitVec 2 := fld srf 6 2
  let ret : BitVec 18 := fld lk 0 18
  let act := srf.getLsbD 0
  let s := s.upDir (fun d => restoreFlags (d.saved w 15)
    { d with a := d.saved w 9, x := d.saved w 10, y := d.saved w 11, ph := d.saved w 12, rc := d.saved w 13,
             dp := fld (d.saved w 14) 0 8, cwp := d.cwp - 1, pc := if act then ret + 1 else ret, cyc := d.cyc + 3,
             hold := match Tab.get 0 s.sys.abarHeld w with
               | 0 => .none
               | n + 1 => .abar n })
  s.upSys (fun y =>
    { y with chid := d.saved w 16,
             iact := if srf.getLsbD 2 then setBit y.iact (fld srf 3 3).toNat false else y.iact,
             ld := if pld = 0 then none else some (pld, d.saved w 20),
             rep := if act then some { pc := ret, count := d.saved w 17, noInt := Tab.get false y.repnHeld w,
                                       held := if srf.getLsbD 1 then some (d.saved w 18) else none, lit := none, slot := none, fresh := false }
                    else none,
             ext := none,
             abarHeld := Tab.set 0 y.abarHeld w 0, repnHeld := Tab.set false y.repnHeld w false })




/-- An instruction whose effect is on the Director's registers alone. -/
def regs (f : Dir → Dir) : State → Res := fun s => .done (s.upDir f)

end Sys2Proof.Machine
end

