-- ==== Sys2Proof/Machine/Float.lean ====
section
/-!
DEFINITION. IEEE 754-2019 binary arithmetic as chapter 4 fixes it (R102 to R110, R116), for any interchange format with
exponent field of e bits and fraction field of f bits; codes are naturals below 2^(1 + e + f).  The scalar unit uses
binary32 with FTZ = 0 (R112), the library scripts binary16, binary32 and binary64.
-/

namespace Sys2Proof.Machine

/-- The mode region of a PE (Table 4-4). -/
structure FMode where
  near : Bool
  away : Bool
  up : Bool
  down : Bool
  ftz : Bool
  deriving DecidableEq, Repr

/-- A format: the widths of its exponent and fraction fields. -/
structure Fmt where
  e : Nat
  f : Nat
  deriving DecidableEq, Repr

/-- binary16, binary32, binary64. -/
def fmt16 : Fmt := { e := 5, f := 10 }
/-- binary32. -/
def fmt32 : Fmt := { e := 8, f := 23 }
/-- binary64. -/
def fmt64 : Fmt := { e := 11, f := 52 }

/-- Flags NV, DZ, OF, UF, NX in bits 4 to 0. -/
abbrev FFlags := BitVec 5

/-- The sign bit. -/
def fSign (t : Fmt) (x : Nat) : Bool := x.testBit (t.e + t.f)
/-- The exponent field. -/
def fExp (t : Fmt) (x : Nat) : Nat := x / 2 ^ t.f % 2 ^ t.e
/-- The fraction field. -/
def fFrac (t : Fmt) (x : Nat) : Nat := x % 2 ^ t.f
/-- All ones in the exponent field. -/
def fMaxExp (t : Fmt) : Nat := 2 ^ t.e - 1
/-- A NaN. -/
def fNan (t : Fmt) (x : Nat) : Bool := fExp t x == fMaxExp t && fFrac t x != 0
/-- A signalling NaN: its quiet bit is 0. -/
def fSnan (t : Fmt) (x : Nat) : Bool := fNan t x && !x.testBit (t.f - 1)
/-- An infinity. -/
def fInf (t : Fmt) (x : Nat) : Bool := fExp t x == fMaxExp t && fFrac t x == 0
/-- A zero. -/
def fZero (t : Fmt) (x : Nat) : Bool := fExp t x == 0 && fFrac t x == 0
/-- The code with sign s and magnitude bits m. -/
def fPack (t : Fmt) (s : Bool) (m : Nat) : Nat := (if s then 2 ^ (t.e + t.f) else 0) + m
/-- The magnitude bits. -/
def fMag (t : Fmt) (x : Nat) : Nat := x % 2 ^ (t.e + t.f)
/-- Infinity's magnitude. -/
def fInfMag (t : Fmt) : Nat := fMaxExp t * 2 ^ t.f
/-- A NaN with its quiet bit set (R108). -/
def fQuiet (t : Fmt) (x : Nat) : Nat := x ||| 2 ^ (t.f - 1)
/-- The default NaN (Table 4-6). -/
def fDefault (t : Fmt) : Nat := fInfMag t + 2 ^ (t.f - 1)
/-- The significand of a finite number, hidden bit included. -/
def fSig (t : Fmt) (x : Nat) : Nat := if fExp t x = 0 then fFrac t x else 2 ^ t.f + fFrac t x
/-- The exponent of the least significant bit of its significand. -/
def fLsb (t : Fmt) (x : Nat) : Int := (max 1 (fExp t x) : Nat) - (2 ^ (t.e - 1) - 1 : Nat) - t.f
/-- The least LSB exponent of the format. -/
def fMinLsb (t : Fmt) : Int := 1 - (2 ^ (t.e - 1) - 1 : Nat) - t.f

/-- The number of bits of n. -/
def bitLen (n : Nat) : Nat := if n = 0 then 0 else n.log2 + 1

/-- The round increment of R103 from L, G, Q, S and the sign. -/
def roundInc (m : FMode) (s l g q st : Bool) : Bool :=
  (m.near && g && (q || st || l || m.away)) || (m.up && !s && (g || q || st)) || (m.down && s && (g || q || st))

/-- Round (n + a part below, if sticky) x 2^x to a multiple of 2^(x + d): the kept integer and whether it is inexact. -/
def roundAt (m : FMode) (s : Bool) (n : Nat) (sticky : Bool) (d : Nat) : Nat × Bool :=
  let kept := n / 2 ^ d
  let g := d != 0 && n.testBit (d - 1)
  let q := decide (1 < d) && n.testBit (d - 2)
  let st := sticky || decide (n % 2 ^ (d - 2) ≠ 0)
  (kept + (if roundInc m s (kept.testBit 0) g q st then 1 else 0), g || q || st)

/-- Round the exact nonzero magnitude (n + sticky part) x 2^x with sign s into the format (R103, R104, R106, R107).
A sticky part needs n to hold at least f + 4 bits. -/
def fRound (t : Fmt) (m : FMode) (s : Bool) (n : Nat) (x : Int) (sticky : Bool) : Nat × FFlags :=
  let lead := x + (bitLen n : Nat) - (t.f + 1 : Nat)
  let q := max lead (fMinLsb t)
  -- the bounded result
  let r := if x ≤ q then roundAt m s n sticky (q - x).toNat else (n * 2 ^ (x - q).toNat, false)
  let mag := (q - fMinLsb t).toNat * 2 ^ t.f + r.1
  -- the result with an unbounded exponent range (R106)
  let u := if x ≤ lead then roundAt m s n sticky (lead - x).toNat else (n * 2 ^ (x - lead).toNat, false)
  let tiny := decide (lead < fMinLsb t) && decide (u.1 < 2 ^ (t.f + (fMinLsb t - lead).toNat))
  if fInfMag t ≤ mag then
    let toInf := m.near || (m.up && !s) || (m.down && s)
    (fPack t s (if toInf then fInfMag t else fInfMag t - 1), 0b00101)
  else if tiny && m.ftz then (fPack t s 0, 0b00011)
  else (fPack t s mag, (if tiny && r.2 then 0b00010 else 0) ||| (if r.2 then 0b00001 else 0))

/-- The first NaN operand, quieted, with NV for a signalling one (R108 rules 1 and 2); none when no operand is a NaN. -/
def fNanOf (t : Fmt) (xs : List Nat) : Option (Nat × FFlags) :=
  (xs.find? (fNan t)).map (fun x => (fQuiet t x, if xs.any (fSnan t) then 0b10000 else 0))

/-- An invalid operation without a NaN operand (R108 rule 3). -/
def fInvalid (t : Fmt) : Nat × FFlags := (fDefault t, 0b10000)

/-- The sum of two exact finite numbers, sign, integer and exponent each; sign of an exact zero by R105. -/
def fSum (t : Fmt) (m : FMode) (s1 : Bool) (n1 : Nat) (x1 : Int) (s2 : Bool) (n2 : Nat) (x2 : Int) : Nat × FFlags :=
  if n1 = 0 ∧ n2 = 0 ∧ s1 = s2 then (fPack t s1 0, 0)
  else
    let x := min x1 x2
    let a : Int := (n1 : Int) * 2 ^ (x1 - x).toNat
    let b : Int := (n2 : Int) * 2 ^ (x2 - x).toNat
    let v := (if s1 then -a else a) + (if s2 then -b else b)
    if v = 0 then (fPack t m.down 0, 0) else fRound t m (decide (v < 0)) v.natAbs x false

/-- a + b with the sign of b as given. -/
def fAddSigned (t : Fmt) (m : FMode) (a b : Nat) (sb : Bool) : Nat × FFlags :=
  match fNanOf t [a, b] with
  | some r => r
  | none =>
    if fInf t a && fInf t b then (if fSign t a == sb then (a, 0) else fInvalid t)
    else if fInf t a then (a, 0)
    else if fInf t b then (fPack t sb (fInfMag t), 0)
    else fSum t m (fSign t a) (fSig t a) (fLsb t a) sb (fSig t b) (fLsb t b)

/-- FADD (Table 4-7). -/
def fAdd (t : Fmt) (m : FMode) (a b : Nat) : Nat × FFlags := fAddSigned t m a b (fSign t b)

/-- FSUB: FADD with the sign of b inverted, but for a NaN b (R110). -/
def fSub (t : Fmt) (m : FMode) (a b : Nat) : Nat × FFlags := fAddSigned t m a b (!fSign t b)

/-- FMUL (Table 4-9). -/
def fMul (t : Fmt) (m : FMode) (a b : Nat) : Nat × FFlags :=
  let s := fSign t a != fSign t b
  match fNanOf t [a, b] with
  | some r => r
  | none =>
    if (fInf t a && fZero t b) || (fZero t a && fInf t b) then fInvalid t
    else if fInf t a || fInf t b then (fPack t s (fInfMag t), 0)
    else if fZero t a || fZero t b then (fPack t s 0, 0)
    else fRound t m s (fSig t a * fSig t b) (fLsb t a + fLsb t b) false

/-- FFMA: a x b + c, one rounding (R108, R109, Table 4-10). -/
def fFma (t : Fmt) (m : FMode) (a b c : Nat) : Nat × FFlags :=
  let s := fSign t a != fSign t b
  let bad := (fInf t a && fZero t b) || (fZero t a && fInf t b)
  match fNanOf t [a, b, c] with
  | some r => (r.1, if bad then r.2 ||| 0b10000 else r.2)
  | none =>
    if bad then fInvalid t
    else if fInf t a || fInf t b then
      (if fInf t c && (fSign t c != s) then fInvalid t else (fPack t s (fInfMag t), 0))
    else if fInf t c then (c, 0)
    else fSum t m s (fSig t a * fSig t b) (fLsb t a + fLsb t b) (fSign t c) (fSig t c) (fLsb t c)

/-- FDIV (Table 4-11). -/
def fDiv (t : Fmt) (m : FMode) (a b : Nat) : Nat × FFlags :=
  let s := fSign t a != fSign t b
  match fNanOf t [a, b] with
  | some r => r
  | none =>
    if (fInf t a && fInf t b) || (fZero t a && fZero t b) then fInvalid t
    else if fInf t a then (fPack t s (fInfMag t), 0)
    else if fInf t b then (fPack t s 0, 0)
    else if fZero t b then (fPack t s (fInfMag t), 0b01000)
    else if fZero t a then (fPack t s 0, 0)
    else
      let k := t.f + 4 + bitLen (fSig t b)
      let n := fSig t a * 2 ^ k
      fRound t m s (n / fSig t b) (fLsb t a - fLsb t b - k) (decide (n % fSig t b ≠ 0))

/-- The integer square root, bit by bit from 2^k downward. -/
def isqrtFrom (n : Nat) : Nat → Nat → Nat
  | 0, r => r
  | k + 1, r => let r' := r + 2 ^ k; isqrtFrom n k (if r' * r' ≤ n then r' else r)

/-- The integer square root. -/
def isqrt (n : Nat) : Nat := isqrtFrom n (bitLen n / 2 + 1) 0

/-- FSQRT (Table 4-12). -/
def fSqrt (t : Fmt) (m : FMode) (a : Nat) : Nat × FFlags :=
  match fNanOf t [a] with
  | some r => r
  | none =>
    if fZero t a then (a, 0)
    else if fSign t a then fInvalid t
    else if fInf t a then (a, 0)
    else
      let x := fLsb t a
      let odd := decide (x % 2 ≠ 0)
      let n := fSig t a * 2 ^ (2 * (t.f + 4)) * (if odd then 2 else 1)
      let x' := (x - (if odd then 1 else 0)) / 2 - (t.f + 4 : Nat)
      let r := isqrt n
      fRound t m false r x' (decide (r * r ≠ n))

/-- A finite or infinite number's order key: comparing keys compares values. -/
def fKey (t : Fmt) (x : Nat) : Int := if fSign t x then -(fMag t x : Int) else fMag t x

/-- Compare results: 0 equal, 1 less, 2 less or equal, 3 unordered, with NV (R142); signalling compares set NV for any
NaN. -/
def fCmp (t : Fmt) (kind : Nat) (a b : Nat) : Bool × FFlags :=
  let nan := fNan t a || fNan t b
  let snan := fSnan t a || fSnan t b
  let nv := if kind = 1 ∨ kind = 2 then nan else snan
  let r := match kind with
    | 0 => !nan && decide (fKey t a = fKey t b)
    | 1 => !nan && decide (fKey t a < fKey t b)
    | 2 => !nan && decide (fKey t a ≤ fKey t b)
    | _ => nan
  (r, if nv then 0b10000 else 0)

/-- A 24-bit integer as binary32, exactly (R143). -/
def fOfInt (i : Int) : BitVec 32 :=
  if i = 0 then 0
  else BitVec.ofNat 32 (fRound fmt32 { near := true, away := false, up := false, down := false, ftz := false }
    (decide (i < 0)) i.natAbs 0 false).1

/-- A binary32 rounded to an integer, and whether it was inexact. -/
def fToInt (m : FMode) (x : Nat) : Int × Bool :=
  let n := fSig fmt32 x
  let l := fLsb fmt32 x
  let s := fSign fmt32 x
  let r := if 0 ≤ l then (n * 2 ^ l.toNat, false) else roundAt m s n false (-l).toNat
  (if s then -(r.1 : Int) else r.1, r.2)

/-- FTOI and FTOU: the 24-bit result and the flags (R143). -/
def fConvert (m : FMode) (signed : Bool) (x : Nat) : Word × FFlags :=
  let lo : Int := if signed then -8388608 else 0
  let hi : Int := if signed then 8388607 else 16777215
  if fNan fmt32 x then (BitVec.ofInt 24 hi, 0b10000)
  else if fInf fmt32 x then (BitVec.ofInt 24 (if fSign fmt32 x then lo else hi), 0b10000)
  else
    let r := fToInt m x
    if r.1 < lo then (BitVec.ofInt 24 lo, 0b10000)
    else if hi < r.1 then (BitVec.ofInt 24 hi, 0b10000)
    else (BitVec.ofInt 24 r.1, if r.2 then 0b00001 else 0)

/-- The rounding attribute of FPCR.RM (Table 6-5) as mode planes (Table 4-4). -/
def rmMode (rm : BitVec 3) : FMode :=
  match rm.toNat with
  | 0 => { near := true, away := false, up := false, down := false, ftz := false }
  | 1 => { near := true, away := true, up := false, down := false, ftz := false }
  | 2 => { near := false, away := false, up := true, down := false, ftz := false }
  | 3 => { near := false, away := false, up := false, down := true, ftz := false }
  | _ => { near := false, away := false, up := false, down := false, ftz := false }

end Sys2Proof.Machine
end

