-- ==== Sys2Proof/Machine/Pe.lean ====
section
/-!
DEFINITION. What one microword does in every PE (R34 to R42, R47 to R49, R52), over whole planes: the fields of the
microword (Table 3-1), the shift network with its boundary modes, the ALU, the carry, the loads and the align counter.
-/

namespace Sys2Proof.Machine

/-! ## Fields of a microword (Table 3-1) -/

/-- A microword. -/
abbrev MicroW := BitVec 128

/-- SEQ. -/
def MicroW.seq (w : MicroW) : Nat := (fld w 116 3).toNat
/-- COND. -/
def MicroW.cond (w : MicroW) : Nat := (fld w 114 2).toNat
/-- LCSEL. -/
def MicroW.lcsel (w : MicroW) : Nat := (fld w 112 2).toNat
/-- ISEL. -/
def MicroW.isel (w : MicroW) : Nat := (fld w 110 2).toNat
/-- TGT. -/
def MicroW.tgt (w : MicroW) : BitVec 14 := fld w 96 14
/-- CHK: a checkpoint. -/
def MicroW.chk (w : MicroW) : Bool := w.getLsbD 95
/-- CAP. -/
def MicroW.cap (w : MicroW) : Nat := (fld w 93 2).toNat
/-- RAREL, RAARG, RA. -/
def MicroW.ra (w : MicroW) : Nat × Nat × BitVec 12 := ((fld w 90 3).toNat, (fld w 87 3).toNat, fld w 75 12)
/-- RBREL, RBARG, RB. -/
def MicroW.rb (w : MicroW) : Nat × Nat × BitVec 12 := ((fld w 72 3).toNat, (fld w 69 3).toNat, fld w 57 12)
/-- WAREL, WAARG, WA. -/
def MicroW.wa (w : MicroW) : Nat × Nat × BitVec 12 := ((fld w 54 3).toNat, (fld w 51 3).toNat, fld w 39 12)
/-- WE. -/
def MicroW.we (w : MicroW) : Bool := w.getLsbD 38
/-- TT. -/
def MicroW.tt (w : MicroW) : BitVec 8 := fld w 30 8
/-- CF. -/
def MicroW.cf (w : MicroW) : Nat := (fld w 27 3).toNat
/-- CSEL. -/
def MicroW.csel (w : MicroW) : Nat := (fld w 23 4).toNat
/-- SDIR. -/
def MicroW.sdir (w : MicroW) : Nat := (fld w 21 2).toNat
/-- SDIST. -/
def MicroW.sdist (w : MicroW) : Nat := (fld w 17 4).toNat
/-- BND. -/
def MicroW.bnd (w : MicroW) : Nat := (fld w 15 2).toNat
/-- KADR. -/
def MicroW.kadr (w : MicroW) : Nat := (fld w 13 2).toNat
/-- KOP. -/
def MicroW.kop (w : MicroW) : Nat := (fld w 10 3).toNat
/-- LD.LT, LM, LF, LG, LQ, LS: bits 9 to 4. -/
def MicroW.lt (w : MicroW) : Bool := w.getLsbD 9
/-- LM. -/
def MicroW.lm (w : MicroW) : Bool := w.getLsbD 8
/-- LF. -/
def MicroW.lf (w : MicroW) : Bool := w.getLsbD 7
/-- LG. -/
def MicroW.lg (w : MicroW) : Bool := w.getLsbD 6
/-- LQ. -/
def MicroW.lq (w : MicroW) : Bool := w.getLsbD 5
/-- LS. -/
def MicroW.ls (w : MicroW) : Bool := w.getLsbD 4
/-- MSK. -/
def MicroW.msk (w : MicroW) : Nat := (fld w 2 2).toNat
/-- TREE. -/
def MicroW.tree (w : MicroW) : Nat := (fld w 0 2).toNat

/-! ## What a microword reads (R498) -/

/-- res is used. -/
def MicroW.usesRes (w : MicroW) : Bool := w.we || fld w 4 6 != 0 || w.cf == 3 || w.kop == 2 || w.kop == 5 || w.kop == 6
/-- CF is ADD or SUB. -/
def MicroW.adds (w : MicroW) : Bool := w.cf == 1 || w.cf == 2
/-- Input a is read. -/
def MicroW.readsA (w : MicroW) : Bool := (w.usesRes && fld w.tt 4 4 != fld w.tt 0 4) || w.adds || w.kop == 4
/-- Input b is read. -/
def MicroW.readsB (w : MicroW) : Bool := (w.usesRes && ((w.tt >>> 2) &&& 0x33) != (w.tt &&& 0x33)) || w.adds
/-- Input c is read. -/
def MicroW.readsC (w : MicroW) : Bool := (w.usesRes && ((w.tt >>> 1) &&& 0x55) != (w.tt &&& 0x55)) || w.adds

/-! ## Planes -/

/-- Every PE. -/
def allPes : Plane := BitVec.allOnes 262144

/-- b in every PE. -/
def flat (b : Bool) : Plane := if b then allPes else 0

/-- Row y of a plane. -/
def rowOf (p : Plane) (y : Nat) : BitVec 512 := p.extractLsb' (512 * y) 512

/-- A row at row y, 0 elsewhere. -/
def atRow (r : BitVec 512) (y : Nat) : Plane := r.setWidth 262144 <<< (512 * y)

/-- One bit at column 0 of every row. -/
def column0 : Plane := BitVec.ofNat 262144 ((2 ^ 262144 - 1) / (2 ^ 512 - 1))

/-- The PEs of columns 0 to d - 1. -/
def columnsBelow (d : Nat) : Plane := BitVec.ofNat 262144 ((2 ^ d - 1) * ((2 ^ 262144 - 1) / (2 ^ 512 - 1)))

/-- The PEs of the strip of an edge (R297). -/
def stripPes (e : Nat) : Plane :=
  match e with
  | 0 => BitVec.ofNat 262144 (2 ^ 16384 - 1)
  | 1 => columnsBelow 32 <<< 480
  | 2 => BitVec.ofNat 262144 (2 ^ 16384 - 1) <<< 245760
  | _ => columnsBelow 32

/-- Column x of a plane, moved to column 0. -/
def columnOf (p : Plane) (x : Nat) : Plane := (p >>> x) &&& column0

/-- A vector along y placed in column x: bit y goes to PE (x, y). -/
def spread (v : BitVec 512) (x : Nat) : Plane :=
  (List.range 512).foldl (fun t y => if v.getLsbD y then t ||| (1#262144 <<< (512 * y + x)) else t) 0

/-- The plane whose bit i is p i. -/
def planeOf (p : Nat → Bool) : Plane :=
  BitVec.ofNat 262144 ((List.range 262144).foldl (fun t i => if p i then t + 2 ^ i else t) 0)

/-- a where sel, b elsewhere. -/
def pick (sel a b : Plane) : Plane := (a &&& sel) ||| (b &&& ~~~ sel)

/-! ## The shift network (R47, R48) -/

/-- The distance that SDIST codes (Table 2-2). -/
def distOf (sdist : Nat) : Nat := if sdist = 0 then 0 else 2 ^ (sdist - 1)

/-- The edge beyond which a move's sources lie: N moves look south (2), E west (3), S north (0), W east (1). -/
def edgeOf (sdir : Nat) : Nat := (sdir + 2) % 4

/-- The rows that a vertical move brings in from beyond the edge, for rows counted from the edge inward: row i of the
result's edge rows, i from 0 at distance position i + 1 for south, d - i for north. -/
def fillRows (bnd d : Nat) (north : Bool) (p : Plane) (h : Option Halo) : Plane :=
  (List.range d).foldl (fun t i =>
    -- output row, the mirror source row, and the position beyond the edge
    let y := if north then i else 512 - d + i
    let m := if north then d - 1 - i else 511 - i
    let pos := if north then d - i else i + 1
    match bnd with
    | 2 => t ||| atRow (rowOf p m) y
    | 3 => t ||| (match h with
      | some x => atRow (x.data.extractLsb' (512 * (pos - 1)) 512) y
      | none => 0)
    | _ => t) 0

/-- The columns that a horizontal move brings in. -/
def fillCols (bnd d : Nat) (west : Bool) (p : Plane) (h : Option Halo) : Plane :=
  (List.range d).foldl (fun t i =>
    let x := if west then i else 512 - d + i
    let m := if west then d - 1 - i else 511 - i
    let pos := if west then d - i else i + 1
    match bnd with
    | 2 => t ||| (columnOf p m <<< x)
    | 3 => t ||| (match h with
      | some z => spread (z.data.extractLsb' (512 * (pos - 1)) 512) x
      | none => 0)
    | _ => t) 0

/-- The value of port A's plane after the move (Table 2-4, R48); h is the halo slot of the edge, if one serves. -/
def moved (sdir d bnd : Nat) (h : Option Halo) (p : Plane) : Plane :=
  if d = 0 then p
  else
    match sdir with
    | 0 => (p >>> (512 * d)) ||| (if bnd = 1 then p <<< (262144 - 512 * d) else fillRows bnd d false p h)
    | 2 => (p <<< (512 * d)) ||| (if bnd = 1 then p >>> (262144 - 512 * d) else fillRows bnd d true p h)
    | 1 =>
      let low := columnsBelow d
      ((p <<< d) &&& ~~~ low) ||| (if bnd = 1 then (p >>> (512 - d)) &&& low else fillCols bnd d true p h)
    | _ =>
      let high := columnsBelow d <<< (512 - d)
      ((p >>> d) &&& ~~~ high) ||| (if bnd = 1 then (p <<< (512 - d)) &&& high else fillCols bnd d false p h)

/-! ## The ALU -/

/-- The PEs whose K equals k. -/
def Arr.kIs (a : Arr) (k : Nat) : Plane :=
  let m (p : Plane) (i : Nat) := if k.testBit i then p else ~~~ p
  m a.k0 0 &&& m a.k1 1 &&& m a.k2 2 &&& m a.k3 3 &&& m a.k4 4 &&& m a.k5 5

/-- KZ. -/
def Arr.kz (a : Arr) : Plane := a.kIs 0

/-- The c input (Table 2-2). -/
def Arr.cIn (a : Arr) (csel : Nat) : Plane :=
  match csel with
  | 0 => a.c
  | 1 => a.t
  | 2 => a.m
  | 3 => a.f
  | 4 => a.g
  | 5 => a.q
  | 6 => a.s
  | 7 => a.kz
  | 8 => a.k0
  | 10 => allPes
  | _ => 0

/-- res := TT[4a + 2b + c]. -/
def truth (tt : BitVec 8) (a b c : Plane) : Plane :=
  (List.range 8).foldl (fun t i =>
    if tt.getLsbD i then
      t ||| ((if i.testBit 2 then a else ~~~ a) &&& (if i.testBit 1 then b else ~~~ b) &&&
        (if i.testBit 0 then c else ~~~ c))
    else t) 0

/-- majority(a, b, c). -/
def majority (a b c : Plane) : Plane := (a &&& b) ||| (a &&& c) ||| (b &&& c)

/-- The carry function (Table 2-2). -/
def carry (cf : Nat) (old a b c res : Plane) : Plane :=
  match cf with
  | 1 => majority a b c
  | 2 => majority a (~~~ b) c
  | 3 => res
  | 4 => 0
  | 5 => allPes
  | _ => old

/-- K - 1 in the PEs of sel. -/
def Arr.kDec (a : Arr) (sel : Plane) : Arr :=
  let b0 := sel
  let b1 := b0 &&& ~~~ a.k0
  let b2 := b1 &&& ~~~ a.k1
  let b3 := b2 &&& ~~~ a.k2
  let b4 := b3 &&& ~~~ a.k3
  let b5 := b4 &&& ~~~ a.k4
  { a with k0 := a.k0 ^^^ b0, k1 := a.k1 ^^^ b1, k2 := a.k2 ^^^ b2, k3 := a.k3 ^^^ b3, k4 := a.k4 ^^^ b4,
           k5 := a.k5 ^^^ b5 }

/-- K + 1 in the PEs of sel. -/
def Arr.kInc (a : Arr) (sel : Plane) : Arr :=
  let b0 := sel
  let b1 := b0 &&& a.k0
  let b2 := b1 &&& a.k1
  let b3 := b2 &&& a.k2
  let b4 := b3 &&& a.k3
  let b5 := b4 &&& a.k4
  { a with k0 := a.k0 ^^^ b0, k1 := a.k1 ^^^ b1, k2 := a.k2 ^^^ b2, k3 := a.k3 ^^^ b3, k4 := a.k4 ^^^ b4,
           k5 := a.k5 ^^^ b5 }

/-- The align operation in the active PEs (Table 2-3); old is the array at the start of the cycle. -/
def align (kop : Nat) (act aIn res : Plane) (old r : Arr) : Arr :=
  match kop with
  | 1 =>
    let n := ~~~ act
    { r with k0 := r.k0 &&& n, k1 := r.k1 &&& n, k2 := r.k2 &&& n, k3 := r.k3 &&& n, k4 := r.k4 &&& n, k5 := r.k5 &&& n }
  | 2 =>
    { r with k0 := pick act old.k1 r.k0, k1 := pick act old.k2 r.k1, k2 := pick act old.k3 r.k2,
             k3 := pick act old.k4 r.k3, k4 := pick act old.k5 r.k4, k5 := pick act res r.k5 }
  | 3 => r.kDec (act &&& ~~~ old.kz)
  | 4 =>
    let sel := act &&& ~~~ old.kz
    { r with s := pick sel (old.s ||| old.q) r.s, q := pick sel old.g r.q, g := pick sel aIn r.g }.kDec sel
  | 5 => r.kInc (act &&& ~~~ res &&& ~~~ old.kIs 63)
  | 6 =>
    let sel := act &&& res
    { r with k0 := r.k0 ||| sel, k1 := r.k1 ||| sel, k2 := r.k2 ||| sel, k3 := r.k3 ||| sel, k4 := r.k4 ||| sel,
             k5 := r.k5 ||| sel }
  | _ => r

/-- The active PEs (R34). -/
def activePes (msk : Nat) (m : Plane) : Plane :=
  match msk with
  | 1 => m
  | 2 => ~~~ m
  | _ => allPes

/-- One microword in every PE, given the inputs a and b (R34, R35): the registers and planes after it, the write's plane
being wp, and the sample F AND active. -/
def evalPe (w : MicroW) (a b : Plane) (wp : Nat) (x : Arr) : Arr × Plane :=
  let act := activePes w.msk x.m
  let c := x.cIn w.csel
  let res := truth w.tt a b c
  let ld (on : Bool) (old : Plane) := if on then pick act res old else old
  let r : Arr :=
    { x with
      m := if w.lm then res else x.m,
      mem := if w.we then Tab.set 0 x.mem wp (pick act res (Tab.get 0 x.mem wp)) else x.mem,
      c := pick act (carry w.cf x.c a b c res) x.c,
      t := ld w.lt x.t, f := ld w.lf x.f, g := ld w.lg x.g, q := ld w.lq x.q, s := ld w.ls x.s }
  let r := align w.kop act a res x r
  (r, r.f &&& act)

end Sys2Proof.Machine
end

