-- ==== Sys2Proof/Machine/ArrayMem.lean ====
section
/-!
DEFINITION. The planes of the array as storage: check patterns on reads and writes (R44 to R46, detectors 0 and 1),
relocated addresses (R64, R65), and the word that a running entry issues.
-/

namespace Sys2Proof.Machine

/-- Plane p of local memory. -/
def Arr.plane (a : Arr) (p : Nat) : Plane := Tab.get 0 a.mem p

/-- Key of a segment's check pattern: plane, PE row, tile column. -/
def segKey (p row col : Nat) : Nat := 8192 * p + 16 * row + col

/-- The PEs of a segment. -/
def segPes (row col : Nat) : Plane := (0xFFFFFFFF#262144) <<< (512 * row + 32 * col)

/-- Tile and PE row within it, from PE row and tile column (R31). -/
def segTile (row col : Nat) : Nat := 16 * (row / 32) + col

/-- INFO of detectors 0 and 1: tile 8, PE row 5, plane 12 (Table 17-2). -/
def segInfo (p row col : Nat) : BitVec 64 :=
  BitVec.ofNat 64 (segTile row col + 256 * (row % 32) + 8192 * p)

/-- The poisoned segments of plane p that sel reaches, as (row, column). -/
def Arr.badSegs (a : Arr) (p : Nat) (sel : Plane) : List (Nat × Nat) :=
  (a.poison.filter (fun e => e.1 / 8192 == p && e.2)).filterMap (fun e =>
    let row := e.1 % 8192 / 16
    let col := e.1 % 16
    if segPes row col &&& sel = 0 then none else some (row, col))

/-- The segment that an injection names: tile, row within the tile, plane (Table 17-2). -/
def injSeg (u a : Nat) : Nat × Nat × Nat :=
  (32 * (u / 16) + a / 4096 % 32, u % 16, a % 4096)

/-- Whether the injection's segment lies in a read of plane p by the PEs of sel. -/
def segFits (p : Nat) (sel : Plane) (u a : Nat) : Bool :=
  let g := injSeg u a
  g.2.2 == p && decide (segPes g.1 g.2.1 &&& sel ≠ 0)

/-- Two data bits of the injected segment flip, which two being left open (log entry 2), and the segment is left
poisoned. -/
def State.flipTwo (s : State) : State :=
  match s.err.armed with
  | none => s
  | some w =>
    let g := injSeg (injUnit w) (injAddr w)
    let i := (s.freeVal 5).toNat
    let j := (i + 1 + (s.took.freeVal 5).toNat % 31) % 32
    let base := 512 * g.1 + 32 * g.2.1
    (s.took.took).upArr (fun a =>
      { a with mem := Tab.upd 0 a.mem g.2.2 (fun p => p ^^^ ((1#262144 <<< (base + i)) ||| (1#262144 <<< (base + j)))),
               poison := Tab.set false a.poison (segKey g.2.2 g.1 g.2.1) true })

/-- An array cycle reads the planes of `reads`, each by some PEs: the detectors ARRAY_ECC_CE and ARRAY_ECC_UE, an
occurrence each for all locations of the cycle (R44, R46, R447). -/
def State.arrayReads (chan : BitVec 32) (reads : List (Nat × Plane)) (s : State) : State :=
  let hit (u a : Nat) : Bool := reads.any (fun r => segFits r.1 r.2 u a)
  let ce := s.armedFor 0 hit
  let info := match s.err.armed with
    | some w => let g := injSeg (injUnit w) (injAddr w); segInfo g.2.2 g.1 g.2.1
    | none => 0
  let s := if ce then s.fired.occur 0 chan info true else s
  let ue := s.armedFor 1 hit
  let s := if ue then s.flipTwo.fired else s
  let bad := (reads.flatMap (fun r => (s.arr.badSegs r.1 r.2).map (fun g => (segTile g.1 g.2, g.1, g.2, r.1)))).eraseDups
  let key (g : Nat × Nat × Nat × Nat) : Nat := 2097152 * g.1 + 4096 * g.2.1 + g.2.2.2
  match bad with
  | [] => s
  | b :: bs =>
    let least := bs.foldl (fun m g => if key g < key m then g else m) b
    s.occurN bad.length 1 chan (segInfo least.2.2.2 least.2.1 least.2.2.1) ue

/-- A write of plane p by the PEs of sel: a segment all of whose PEs write takes fresh check bits; in others the merge
read meets the segment (R45, R46).  Answers the poison table. -/
def healed (p : Nat) (sel : Plane) (t : Tab Bool) : Tab Bool :=
  t.filter (fun e => !(e.1 / 8192 == p && decide (segPes (e.1 % 8192 / 16) (e.1 % 16) &&& ~~~ sel = 0)))

/-- Whether some PE does not write, so that merge reads occur. -/
def mergeReads (p : Nat) (sel : Plane) : List (Nat × Plane) := if sel = allPes then [] else [(p, ~~~ sel)]

/-- Write a whole plane with fresh check bits. -/
def Arr.putPlane (a : Arr) (p : Nat) (v : Plane) : Arr :=
  { a with mem := Tab.set 0 a.mem p v, poison := healed p allPes a.poison }

/-- Write v into plane p in the PEs of sel. -/
def Arr.mergePlane (a : Arr) (p : Nat) (sel v : Plane) : Arr :=
  { a with mem := Tab.set 0 a.mem p (pick sel v (a.plane p)), poison := healed p sel a.poison }

/-! ## Relocation (R63 to R65) -/

/-- PBASE of a relocation word. -/
def pbase (w : Word) : Nat := (fld w 0 10).toNat
/-- PCNT. -/
def pcnt (w : Word) : Nat := (fld w 10 11).toNat

/-- PBASE of sub-bank s captured with the entry. -/
def Entry.base (e : Entry) (s : Nat) : Nat := pbase (Tab.get 0 e.pr s)
/-- PCNT of sub-bank s captured with the entry. -/
def Entry.cnt (e : Entry) (s : Nat) : Nat := pcnt (Tab.get 0 e.pr s)
/-- AAn captured with the entry. -/
def Entry.arg (e : Entry) (n : Nat) : Nat := (Tab.get 0 e.aa n).toNat

/-- The plane that an address field names (Table 3-4); ix is the index named by ISEL. -/
def relocate (e : Entry) (ix : Nat) (f : Nat × Nat × BitVec 12) : Nat :=
  let s := (fld f.2.2 10 2).toNat
  let a := (fld f.2.2 0 10).toNat
  let off : Int := match f.1 with
    | 0 => a
    | 1 => e.base s + a
    | 2 => e.base s + a + ix
    | 3 => (e.base s + a : Nat) - (ix : Int)
    | 4 => e.base s + e.arg f.2.1 + a
    | 5 => e.base s + e.arg f.2.1 + a + ix
    | _ => (e.base s + e.arg f.2.1 + a : Nat) - (ix : Int)
  1024 * s + (off % 1024).toNat

/-- Whether plane n of sub-bank s lies in the entry's allocation, the reserved planes left out for a resumable call
(R65). -/
def Entry.owns (e : Entry) (resumable : Bool) (s n : Nat) : Bool :=
  let cnt := e.cnt s - (if resumable && s == 0 then 16 else 0)
  decide (e.base s ≤ n) && decide (n < e.base s + cnt)

/-- The reads of port B, each with the PEs that make it (R40, R65). -/
def portB (w : MicroW) (e : Entry) (resumable : Bool) (ix : Nat) (a : Arr) : List (Nat × Plane) :=
  let p := relocate e ix w.rb
  if w.kadr = 0 then [(p, allPes)]
  else
    (List.range 64).filterMap (fun k =>
      let sel := a.kIs k
      let n := (if w.kadr = 1 then p % 1024 + k else p % 1024 + 1024 - k) % 1024
      if sel = 0 || (decide (w.rb.1 ≠ 0) && !e.owns resumable (p / 1024) n) then none
      else some (1024 * (p / 1024) + n, sel))

/-- The value of a list of reads: each PE's own read. -/
def gather (a : Arr) (rs : List (Nat × Plane)) : Plane :=
  rs.foldl (fun t r => t ||| (a.plane r.1 &&& r.2)) 0

/-! ## Crew edges (R49) -/

/-- CREW_HXMAP.EN of an edge. -/
def State.edgeOn (e : Nat) (s : State) : Bool := s.crew.hxmap.getLsbD (8 * e + 7)

/-- The slot of the edge that is bound to the plane, if any. -/
def Arr.boundSlot (a : Arr) (e p : Nat) : Option Halo :=
  (List.range 8).findSome? (fun k =>
    let h := Tab.get Halo.empty a.halo (8 * e + k)
    if h.bound = some (BitVec.ofNat 12 p) then some h else none)

/-- The halo that a crew-mode move of plane p beyond edge e reads, and the state after HALO_MISS, if it misses. -/
def State.haloFor (chan : BitVec 32) (e p : Nat) (s : State) : Option Halo × State :=
  if !s.edgeOn e then (none, s)
  else
    let info : BitVec 64 := BitVec.ofNat 64 (p + 4096 * e)
    if s.armedFor 2 (fun u _ => u == e) then (none, s.fired.occur 2 chan info true)
    else
      match s.arr.boundSlot e p with
      | some h => (some (if h.dead then { h with data := 0 } else h), s)
      | none => (none, s.occur 2 chan info false)

end Sys2Proof.Machine
end

