-- ==== Sys2Proof/Machine/Micro.lean ====
section
/-!
DEFINITION. The micro-sequencer issuing microwords: results of the trees (R51 to R54, R69, R70), sequencing (R61, R67,
R68), the entries that are no scripts (R77, R113, R148), padding (R71), and the commands SHADOW_WRITE,
OR_RESULT_READY and TALLY_RESULT_READY.
-/

namespace Sys2Proof.Machine

/-! ## Counting -/

/-- The number of ones of a plane: sums of neighbouring fields, doubling their width (R52). -/
def popPlane (p : Plane) : Nat :=
  (List.range 18).foldl (fun v k =>
    let h := 2 ^ k
    let m := (2 ^ 262144 - 1) / (2 ^ h + 1)
    (v &&& m) + ((v >>> h) &&& m)) p.toNat

/-! ## The script table -/

/-- Entry idx of the script table. -/
def Seq.entry (q : Seq) (idx : BitVec 10) : BitVec 320 := Tab.get 0 q.table idx.toNat

/-- KIND: resumable. -/
def tKind (e : BitVec 320) : Bool := e.getLsbD 318
/-- ENTRY. -/
def tEntry (e : BitVec 320) : BitVec 14 := fld e 296 14
/-- FC, FS, FMAX, CNTM1, CAPN. -/
def tFc (e : BitVec 320) : Nat := (fld e 276 20).toNat
/-- FS. -/
def tFs (e : BitVec 320) : Nat := (fld e 264 12).toNat
/-- FMAX. -/
def tFmax (e : BitVec 320) : Nat := (fld e 252 12).toNat
/-- CNTM1. -/
def tCntm1 (e : BitVec 320) : Nat := (fld e 251 1).toNat
/-- CAPN. -/
def tCapn (e : BitVec 320) : Nat := (fld e 245 6).toNat
/-- XL of argument n. -/
def tXl (e : BitVec 320) (n : Nat) : Nat := (fld e (226 + n) 1).toNat
/-- SEXT of sub-bank s. -/
def tSext (e : BitVec 320) (s : Nat) : Nat := (fld e (180 + 11 * s) 11).toNat
/-- ROLE of argument n (Table 3-6). -/
def tRole (e : BitVec 320) (n : Nat) : Nat := (fld e (52 + 16 * n + 13) 3).toNat
/-- Sub-bank of argument n. -/
def tSub (e : BitVec 320) (n : Nat) : Nat := (fld e (52 + 16 * n + 11) 2).toNat
/-- EXT of argument n. -/
def tExt (e : BitVec 320) (n : Nat) : Nat := (fld e (52 + 16 * n) 11).toNat
/-- The argument with role r, if any: 4 COUNT, 5 CAPTURE. -/
def tArgOf (e : BitVec 320) (r : Nat) : Option Nat := (List.range 8).find? (fun n => tRole e n == r)

/-- INDEX of a directory entry (Table 3-13). -/
def dirIndex (d : BitVec 64) : BitVec 10 := fld d 54 10

/-- Whether script idx is a library script still in its ROM form: vendor index, and no image in force holds it (R90). -/
def Seq.isRom (q : Seq) (idx : BitVec 10) : Bool :=
  decide (idx.toNat < 256) && !(q.images.any (fun p => p.img.dir.any (fun d => dirIndex d == idx)))

/-- A microword that ends its script, with MSK = all: relocation modes ARG on AA0 for the ports named (R499). -/
def endWord (tt : BitVec 8) (csel : BitVec 4) (sub : BitVec 2) : MicroW :=
  let w : MicroW := putFld 0 116 (5#3)
  let w := putFld w 90 (4#3)
  let w := putFld w 75 (sub ++ 0#10)
  let w := putFld w 54 (4#3)
  let w := putFld w 39 (sub ++ 0#10)
  let w := putFld w 38 (1#1)
  putFld (putFld w 30 tt) 23 csel

/-- The word of the vendor scripts MSAVE and PFIX0 to PFIX2 (Table 6-18); none for another library script, whose words
the spec does not give (log entry 3). -/
def romWord (idx : BitVec 10) : Option MicroW :=
  match idx.toNat with
  | 35 => some (endWord 0xAA 2 0)
  | 36 => some (endWord 0xF0 9 0)
  | 37 => some (endWord 0xF0 9 1)
  | 38 => some (endWord 0xF0 9 2)
  | _ => none

/-! ## Results -/

/-- When a sample is readable: OR 8, tally 19 array cycles later (R51). -/
def Sample.due (x : Sample) : Nat := x.cyc + (if x.tally then 19 else 8)

/-- A result for the ABAR with this serial: result i is flag i of Table 4-5, NV in bit 4 (Table 4-6 (a)). -/
def Seq.abarResult (q : Seq) (serial i : Nat) (on : Bool) : Seq :=
  { q with abarRes := Tab.upd (0, 0) q.abarRes serial (fun r => (setBit r.1 (4 - i) (r.1.getLsbD (4 - i) || on), r.2 + 1)) }

/-- The branch registers of the run that took the sample (R69). -/
def Run.hear (r : Run) (x : Sample) : Run :=
  if r.run ≠ x.run then r
  else if x.tally then { r with allb := decide (x.count = 262144), countb := BitVec.ofNat 18 x.count }
  else { r with orb := decide (x.count ≠ 0) }

/-- One result leaves its tree: the result and branch registers, event 42 (R51, R54, R69), TALLY_RESIDUE. -/
def State.deliver (x : Sample) (s : State) : State :=
  let s := s.upSeq (fun q => { q with samples := q.samples.erase x })
  match x.abar with
  | some (serial, i) => s.upSeq (fun q => q.abarResult serial i (decide (x.count ≠ 0)))
  | none =>
    let inj := x.tally && s.armedFor 3 (fun _ _ => true)
    let info : BitVec 29 := bit1 (decide (x.count = 262144)) ++ BitVec.ofNat 18 x.count ++ x.idx
    let s := if inj then s.fired.occur 3 0 (info.setWidth 64) true else s
    let s := s.upSeq (fun q => { q with run := q.run.map (fun r => r.hear x) })
    let s := if x.tally then
        s.upSeq (fun q => { q with resTally := BitVec.ofNat 19 x.count, freshTally := some x.count, tallyTaken := false })
      else s.upSeq (fun q => { q with resOr := decide (x.count ≠ 0), freshOr := some x.count, orTaken := false })
    s.raise 42

/-- Every result that is readable by array cycle n, in order of issue. -/
def State.deliverBy (n : Nat) (s : State) : State :=
  (s.seq.samples.filter (fun x => decide (x.due ≤ n))).foldl (fun s x => s.deliver x) s

/-- A new sample of the entry with this serial in the trees that TREE names (R52), and, for a reduction group whose entry
it is, the group's latest sample (R303). -/
def State.sample (tree : Nat) (count : Nat) (r : Run) (abar : Option (Nat × Nat)) (s : State) : State :=
  let mk (tally : Bool) : Sample :=
    { cyc := s.seq.cyc, tally := tally, count := count, run := r.run, idx := r.e.idx, abar := abar }
  let xs := (if tree.testBit 0 then [mk false] else []) ++ (if tree.testBit 1 then [mk true] else [])
  let s := s.upSeq (fun q => { q with samples := q.samples ++ xs })
  if abar.isSome then s
  else
    s.upCrew (fun c => { c with groups := c.groups.map (fun e =>
      if e.2.entry = some r.e.serial then
        (e.1, { e.2 with lastOr := if tree.testBit 0 then decide (count ≠ 0) else e.2.lastOr,
                         lastTally := if tree.testBit 1 then BitVec.ofNat 27 count else e.2.lastTally,
                         readyOr := if tree.testBit 0 then s.seq.cyc + 8 else e.2.readyOr,
                         readyTally := if tree.testBit 1 then s.seq.cyc + 19 else e.2.readyTally })
      else e) })

/-! ## Sequencing -/

/-- COND (Table 3-2). -/
def Run.holds (r : Run) (cond : Nat) : Bool :=
  match cond with
  | 0 => r.orb
  | 1 => !r.orb
  | 2 => !r.allb && decide (r.countb = 0)
  | _ => r.allb || decide (r.countb ≠ 0)

/-- The count that LDLC loads (Table 3-2). -/
def ldlcCount (e : Entry) (t : BitVec 14) : BitVec 12 :=
  if t.msb then fld (Tab.get 0 e.aa (fld t 0 3).toNat) 0 12 - (fld t 12 1).setWidth 12 else fld t 0 12

/-- What SEQ does to the run (Table 3-2). -/
def Run.next (r : Run) (w : MicroW) : Run :=
  let n := w.lcsel
  let lc := Tab.get 0 r.lc n
  match w.seq with
  | 1 => { r with upc := w.tgt }
  | 2 => { r with upc := if r.holds w.cond then w.tgt else r.upc + 1 }
  | 3 =>
    { r with lc := Tab.set 0 r.lc n (lc - 1), ix := Tab.upd 0 r.ix n (· + 1),
             upc := if lc - 1 = 0 then r.upc + 1 else w.tgt }
  | 4 => { r with lc := Tab.set 0 r.lc n (ldlcCount r.e w.tgt), ix := Tab.set 0 r.ix n 0, upc := r.upc + 1 }
  | 5 => { r with ended := true }
  | _ => { r with upc := r.upc + 1 }

/-- One capture word into Director data memory at AA_cap + CIX (R70). -/
def State.capture (v : Word) (s : State) : State :=
  match s.seq.run with
  | none => s
  | some r =>
    match tArgOf (s.seq.entry r.e.idx) 5 with
    | none => s
    | some n =>
      let a : BitVec 18 := fld (Tab.get 0 r.e.aa n) 0 18 + r.cix.setWidth 18
      (s.putWord a v).upSeq (fun q => { q with run := some { r with cix := r.cix + 1 } })

/-- CAP of this cycle: the results that become readable in it, the OR word first (Table 3-2). -/
def State.captures (cap : Nat) (s : State) : State :=
  let s := if cap.testBit 0 then
      (match s.seq.freshOr with | some n => s.capture (if n = 0 then 0 else 1) | none => s) else s
  if cap.testBit 1 then (match s.seq.freshTally with | some n => s.capture (BitVec.ofNat 24 n) | none => s) else s

/-- The effect of one microword of a script on the array and the trees (R34, R44 to R49, R52), then captures and SEQ.  A
port is read, with its check patterns and its halo slot, when an effect of the microword depends on it (R498, log entry 36). -/
def State.runWord (w : MicroW) (r : Run) (s : State) : State :=
  let chan := s.chanId r.e.ch
  let resumable := tKind (s.seq.entry r.e.idx)
  let ix := (Tab.get 0 r.ix w.isel).toNat
  let pa := relocate r.e ix w.ra
  let wp := relocate r.e ix w.wa
  let rb := portB w r.e resumable ix s.arr
  let act := activePes w.msk s.arr.m
  let s := s.arrayReads chan ((if w.readsA then [(pa, allPes)] else []) ++ (if w.readsB then rb else []) ++
    (if w.we then mergeReads wp act else []))
  let d := distOf w.sdist
  let hs := if w.readsA ∧ d ≠ 0 ∧ w.bnd = 3 then s.haloFor chan (edgeOf w.sdir) pa else (none, s)
  let s := hs.2
  let a := moved w.sdir d w.bnd hs.1 (s.arr.plane pa)
  let out := evalPe w a (gather s.arr rb) wp s.arr
  let s := s.upArr (fun _ =>
    { out.1 with poison := if w.we then healed wp act out.1.poison else out.1.poison,
                 sb3 := w.we && decide (wp / 1024 = 3) })
  let s := if w.tree ≠ 0 then s.sample w.tree (popPlane out.2) r none else s
  let s := s.captures w.cap
  s.upSeq (fun q => { q with run := q.run.map (fun r => { (r.next w) with ckpt := w.chk }) })

/-- A cycle that drives nothing in the PEs. -/
def State.idleWord (s : State) : State := s.upArr (fun a => { a with sb3 := false })

/-- The microword of a mask entry (R77, R147). -/
def State.maskWord (m : Plane) (s : State) : State := s.idleWord.upArr (fun a => { a with m := m })

/-- The cycles of an ABAR entry: e0 to e4 sample flag plane i of the region at AA7 into F and the OR tree (R113). -/
def State.abarWord (r : Run) (s : State) : State :=
  if 5 ≤ r.phase then s.idleWord
  else
    let p := (r.e.base 0 + r.e.arg 7 + r.phase) % 1024
    let s := s.idleWord.arrayReads (s.chanId r.e.ch) [(p, allPes)]
    let f := s.arr.plane p
    (s.upArr (fun a => { a with f := f })).sample 1 (popPlane f) r (some (r.e.serial, r.phase))

/-- A HALO entry binds or unbinds a slot (R148). -/
def Arr.bind (a : Arr) (edge : BitVec 2) (slot : BitVec 3) (p : Option (BitVec 12)) : Arr :=
  { a with halo := Tab.upd Halo.empty a.halo (8 * edge.toNat + slot.toNat) (fun h => { h with bound := p }) }

/-- The cycle's word of the run, before the counts of the cycle; a placed script's word stands at its absolute micro-PC
(R502). -/
def State.cycleWord (r : Run) (s : State) : State :=
  match r.e.kind with
  | .mset => s.maskWord allPes
  | .mclr => s.maskWord 0
  | .minv => s.maskWord (~~~ s.arr.m)
  | .mload p =>
    let s := s.arrayReads (s.chanId r.e.ch) [(p.toNat, allPes)]
    s.maskWord (s.arr.plane p.toNat)
  | .halo edge slot p => s.idleWord.upArr (fun a => a.bind edge slot p)
  | .abar => s.abarWord r
  | .resume => s.idleWord
  | .transfer _ _ _ _ => s.idleWord
  | .script =>
    if r.ended then s.idleWord
    else if s.seq.isRom r.e.idx then
      match romWord r.e.idx with
      | some w => s.runWord w r
      | none => s.idleWord
    else s.runWord (Tab.get 0 s.seq.cs r.upc.toNat) r

/-- Whether the run waits for a switch: a checkpoint has issued and a request is pending (R82). -/
def Seq.switchDue (q : Seq) : Bool :=
  match q.run with
  | some r => r.sw.isNone && r.ckpt && !q.reqs.isEmpty && tKind (q.entry r.e.idx)
  | none => false

/-- Whether the entry that issues is a plane transfer. -/
def EntryKind.isTransfer : EntryKind → Bool
  | .transfer _ _ _ _ => true
  | _ => false

/-- Whether the run ends by itself when its cycles have issued: entries that are no scripts and raise no event (R77). -/
def EntryKind.plain : EntryKind → Bool
  | .script => false
  | .resume => false
  | .transfer _ _ _ _ => false
  | _ => true

/-- The counts at the end of the cycle: padding is cut while a request is pending (R82). -/
def Seq.endCycle (q : Seq) : Seq :=
  let run := match q.run with
    | some r =>
      let r := { r with remain := if r.ended && !q.reqs.isEmpty then 0 else r.remain - 1, phase := r.phase + 1 }
      if r.e.kind.plain && decide (r.remain = 0) then none else some r
    | none => none
  { q with cyc := q.cyc + 1, freshOr := none, freshTally := none, run := run }

/-- The oldest sample of a tree. -/
def Seq.oldest (q : Seq) (tally : Bool) : Option Sample := q.samples.find? (fun x => x.tally == tally)

/-- A result becomes readable: when it is due, or when no entry issues, the array's clock moving on to it. -/
def State.resultReady (tally : Bool) (s : State) : State :=
  match s.seq.oldest tally with
  | none => s
  | some x =>
    if x.due ≤ s.seq.cyc then s.deliver x
    else if s.seq.run.isNone then (s.upSeq (fun q => { q with cyc := x.due })).deliver x
    else s

/-- OR_RESULT_READY (R51). -/
def execOrResultReady (s : State) : Answer := .next (s.resultReady false)

/-- TALLY_RESULT_READY (R51). -/
def execTallyResultReady (s : State) : Answer := .next (s.resultReady true)

/-! ## The shadow port -/

/-- The segment that comes to a tile's head next: the units are served in rotation (ch. 2, "The shadow port"). -/
def Arr.nextUnit (a : Arr) (tile : Nat) : Option Nat :=
  let last := Tab.get 0 a.shLast tile
  (List.range 16).findSome? (fun k =>
    let u := (last + 1 + k) % 16
    match Tab.get [] a.shQueue (16 * tile + u) with
    | [] => none
    | _ => some u)

/-- Bring the next segment to the head. -/
def Arr.refill (a : Arr) (tile : Nat) : Arr :=
  match Tab.get none a.shHead tile with
  | some _ => a
  | none =>
    match a.nextUnit tile with
    | none => a
    | some u =>
      match Tab.get [] a.shQueue (16 * tile + u) with
      | [] => a
      | g :: gs => { a with shHead := Tab.set none a.shHead tile (some g),
                            shQueue := Tab.set [] a.shQueue (16 * tile + u) gs, shLast := Tab.set 0 a.shLast tile u }

/-- Write a segment whole: fresh check bits, no merge (R45). -/
def Arr.writeSeg (a : Arr) (tile : Nat) (g : Seg) : Arr :=
  let col := tile % 16
  let p := g.plane.toNat
  let v : Plane := g.bits.setWidth 262144 <<< (512 * g.row.toNat + 32 * col)
  { a with mem := Tab.upd 0 a.mem p (fun old => pick (segPes g.row.toNat col) v old),
           poison := Tab.set false a.poison (segKey p g.row.toNat col) false }

/-- One segment of a line has been written (R22). -/
def Ing.written (i : Ing) (g : Seg) : Ing :=
  { i with slots := Tab.upd Slot.reset i.slots g.slot.toNat (fun sl =>
      { sl with jobs := sl.jobs.map (fun j => if j.id = g.line then { j with segs := j.segs - 1 } else j) }) }

/-- SHADOW_WRITE: a tile's head segment is written unless the microword of the cycle writes sub-bank 3 (R56). -/
def execShadowWrite (tile : BitVec 8) (s : State) : Answer :=
  if s.arr.sb3 then .next s
  else
    match Tab.get none s.arr.shHead tile.toNat with
    | none => .next (s.upArr (fun a => a.refill tile.toNat))
    | some g =>
      .next ((s.upArr (fun a =>
        ({ (a.writeSeg tile.toNat g) with shHead := Tab.set none a.shHead tile.toNat none }).refill tile.toNat)).upIng
          (fun i => i.written g))

end Sys2Proof.Machine
end

