-- ==== Sys2Proof/Machine/Library.lean ====
section
/-!
DEFINITION. The arithmetic library of chapter 4 by its results: the script table entries of the ROM directory (Tables
4-1 to 4-3, 6-18), and what a library script leaves in the planes at its end (R96 to R111).  The spec gives no microwords
for these scripts, so their effect takes place at SCRIPT_END (log entry 3).
-/

namespace Sys2Proof.Machine

/-! ## Table entries of the ROM directory -/

/-- An argument field: ROLE, sub-bank, EXT. -/
def argField (role sub ext : Nat) : BitVec 16 := BitVec.ofNat 16 (role * 8192 + sub * 2048 + ext)

/-- A valid entry: PRIV, ENTRY, FC, FS, FMAX, CNTM1, the arguments as (n, XL, field). -/
def mkEntry (priv : Bool) (entry : BitVec 14) (fc fs fmax cntm1 : Nat) (args : List (Nat × Nat × BitVec 16)) : BitVec 320 :=
  let e : BitVec 320 := putFld 0 319 (1#1)
  let e := putFld e 317 (bit1 priv)
  let e := putFld e 316 (1#1)
  let e := putFld e 296 entry
  let e := putFld e 276 (BitVec.ofNat 20 fc)
  let e := putFld e 264 (BitVec.ofNat 12 fs)
  let e := putFld e 252 (BitVec.ofNat 12 fmax)
  let e := putFld e 251 (BitVec.ofNat 1 cntm1)
  args.foldl (fun e a => putFld (putFld e (226 + a.1) (BitVec.ofNat 1 a.2.1)) (52 + 16 * a.1) a.2.2) e

/-- The operand width m of IMULU, IMULS (20 to 29) and IDIVU (30 to 33). -/
def libWidth (idx : Nat) : Nat :=
  match idx with
  | 20 => 8 | 21 => 16 | 22 => 24 | 23 => 32 | 24 => 64
  | 25 => 8 | 26 => 16 | 27 => 24 | 28 => 32 | 29 => 64
  | 30 => 8 | 31 => 16 | 32 => 24 | _ => 32

/-- The largest width accepted (Table 4-2). -/
def libMax (idx : Nat) : Nat :=
  match idx with
  | 20 => 454 | 21 => 239 | 22 => 162 | 23 => 123 | 24 => 62
  | 25 => 454 | 26 => 239 | 27 => 162 | 28 => 123 | 29 => 62
  | 30 => 227 | 31 => 119 | 32 => 81 | _ => 61

/-- The format of a floating-point library script (40 to 57). -/
def libFmt (idx : Nat) : Fmt := if idx < 46 then fmt16 else if idx < 52 then fmt32 else fmt64

/-- The bits of a format. -/
def Fmt.width (t : Fmt) : Nat := 1 + t.e + t.f

/-- The operation of a floating-point library script: 0 FADD, 1 FSUB, 2 FMUL, 3 FFMA, 4 FDIV, 5 FSQRT. -/
def libOp (idx : Nat) : Nat := (idx - 40) % 6

/-- The charged counts of Table 4-3. -/
def libFloatCount (idx : Nat) : Nat :=
  match idx with
  | 40 => 58 | 41 => 58 | 42 => 196 | 43 => 248 | 44 => 262 | 45 => 250
  | 46 => 96 | 47 => 96 | 48 => 620 | 49 => 700 | 50 => 836 | 51 => 790
  | 52 => 186 | 53 => 186 | 54 => 2960 | 55 => 3190 | 56 => 3452 | _ => 3380

/-- The ROM directory's entry of a library script; 0, not valid, where the spec names no script (log entry 3).  DESIGN CHOICE:
entries 16 to 34 and 40 to 57 have PRIV 0 and ANYDOM 1, which the spec gives for entries 35 to 38 alone (PRIV 1 and ANYDOM 1,
R499). -/
def romTable (idx : Nat) : BitVec 320 :=
  let at_ := Config.romEntry (BitVec.ofNat 10 idx)
  let xy (ex ey : Nat × Nat) := [(0, ex.1, argField 1 1 ex.2), (1, ey.1, argField 1 1 ey.2)]
  let cnt := (3, 0, argField 4 0 0)
  if idx = 16 ∨ idx = 17 then mkEntry false at_ 2 1 1023 1 (xy (1, 1) (1, 1) ++ [(2, 1, argField 2 1 2), cnt])
  else if idx = 18 ∨ idx = 19 then mkEntry false at_ 2 2 1024 0 (xy (1, 0) (1, 0) ++ [(2, 0, argField 2 1 2), cnt])
  else if 20 ≤ idx ∧ idx ≤ 29 then
    let m := libWidth idx
    mkEntry false at_ (m + 2) (m + 1) (libMax idx) 0 (xy (0, m) (1, 0) ++ [(2, 1, argField 2 1 m), cnt])
  else if 30 ≤ idx ∧ idx ≤ 33 then
    let m := libWidth idx
    mkEntry false at_ (m + 2) (2 * m + 2) (libMax idx) 0
      (xy (1, 0) (0, m) ++ [(2, 1, argField 2 1 0), cnt, (4, 0, argField 2 1 m), (5, 0, argField 3 2 (m + 2))])
  else if idx = 34 then mkEntry false at_ 5 0 0 0 [(7, 0, argField 2 0 5)]
  else if idx = 35 then mkEntry true at_ 1 0 0 0 [(0, 0, argField 2 0 1)]
  else if 36 ≤ idx ∧ idx ≤ 38 then mkEntry true at_ 1 0 0 0 [(0, 0, argField 3 (idx - 36) 1)]
  else if 40 ≤ idx ∧ idx ≤ 57 then
    let w := (libFmt idx).width
    mkEntry false at_ (libFloatCount idx) 0 0 0
      ((0, 0, argField 1 1 w) :: (if libOp idx = 5 then [] else [(1, 0, argField 1 1 w)]) ++ [(2, 0, argField 2 1 w)] ++
       (if libOp idx = 3 then [(4, 0, argField 1 1 w)] else []) ++
       [(5, 0, argField 3 2 (4 * w)), (6, 0, argField 1 0 5), (7, 0, argField 3 0 5)])
  else 0

/-! ## Results -/

/-- The count L of a call (R74). -/
def callCount (t : BitVec 320) (arg : Nat → Nat) : Nat :=
  match tArgOf t 4 with
  | some n => arg n - tCntm1 t
  | none => 0

/-- The planes of argument n's region (Table 3-6). -/
def Entry.region (e : Entry) (t : BitVec 320) (n : Nat) : List Nat :=
  let s := tSub t n
  (List.range (tExt t n + tXl t n * callCount t e.arg)).map (fun o => 1024 * s + (e.base s + e.arg n + o) % 1024)

/-- PE i's value in a region (R96). -/
def peVal (a : Arr) (ps : List Nat) (i : Nat) : Nat :=
  ps.foldr (fun p v => (a.plane p).getLsbD i |>.toNat |> (· + 2 * v)) 0

/-- A two's complement value of width n. -/
def signedOf (n v : Nat) : Int := if v.testBit (n - 1) then (v : Int) - 2 ^ n else v

/-- The value v modulo 2^n. -/
def wrapTo (n : Nat) (v : Int) : Nat := (v % 2 ^ n).toNat

/-- What a script gives in one PE: a value for the region of each argument named, and the flags it raises. -/
structure PeOut where
  outs : List (Nat × Nat)
  flags : FFlags
  deriving DecidableEq, Repr

/-- The integer scripts (Table 4-2, R99, R100); n is the width in AA3, x and y the operands. -/
def libInt (idx n x y : Nat) : PeOut :=
  let m := libWidth idx
  if idx = 16 then { outs := [(2, x + y)], flags := 0 }
  else if idx = 17 then { outs := [(2, wrapTo n (x - y) + (if x < y then 2 ^ n else 0))], flags := 0 }
  else if idx = 18 then { outs := [(2, (if x < y then 1 else 0) + (if x = y then 2 else 0))], flags := 0 }
  else if idx = 19 then
    { outs := [(2, (if signedOf n x < signedOf n y then 1 else 0) + (if x = y then 2 else 0))], flags := 0 }
  else if idx ≤ 24 then { outs := [(2, x * y)], flags := 0 }
  else if idx ≤ 29 then { outs := [(2, wrapTo (m + n) (signedOf m x * signedOf n y))], flags := 0 }
  else if idx ≤ 33 then
    { outs := if y = 0 then [(2, 2 ^ n - 1), (4, x % 2 ^ m)] else [(2, x / y), (4, x % y)], flags := 0 }
  else { outs := [(7, 0)], flags := 0 }

/-- The floating-point scripts (Table 4-3). -/
def libFloat (idx : Nat) (md : FMode) (a b c : Nat) : PeOut :=
  let t := libFmt idx
  let r := match libOp idx with
    | 0 => fAdd t md a b
    | 1 => fSub t md a b
    | 2 => fMul t md a b
    | 3 => fFma t md a b c
    | 4 => fDiv t md a b
    | _ => fSqrt t md a
  { outs := [(2, r.1)], flags := r.2 }

/-- The mode region of a PE (Table 4-4). -/
def peMode (v : Nat) : FMode :=
  { near := v.testBit 0, away := v.testBit 1, up := v.testBit 2, down := v.testBit 3, ftz := v.testBit 4 }

/-- What library script idx gives in PE i. -/
def libPe (e : Entry) (t : BitVec 320) (a : Arr) (i : Nat) : PeOut :=
  let idx := e.idx.toNat
  let v (n : Nat) := peVal a (e.region t n) i
  if idx < 40 then libInt idx (e.arg 3) (v 0) (v 1) else libFloat idx (peMode (v 6)) (v 0) (v 1) (v 4)

/-- The arguments of a role. -/
def argsOf (t : BitVec 320) (roles : List Nat) : List Nat := (List.range 8).filter (fun n => roles.contains (tRole t n))

/-- Whether an OUT or WORK region overlaps another region of the call (R98); IADD and ISUB allow the result region to be
that of x or of y. -/
def libOverlap (e : Entry) (t : BitVec 320) : Bool :=
  let all := argsOf t [1, 2, 3]
  (argsOf t [2, 3]).any (fun o => all.any (fun n =>
    n != o && (e.region t o).any (fun p => (e.region t n).contains p) &&
      !((e.idx = 16 ∨ e.idx = 17) ∧ o = 2 ∧ e.arg n % 1024 = e.arg 2 % 1024)))

/-- The value of plane j of argument n's region in every PE after the script. -/
def libPlane (e : Entry) (t : BitVec 320) (a : Arr) (n j : Nat) : Plane :=
  planeOf (fun i =>
    let r := libPe e t a i
    match r.outs.find? (fun o => o.1 == n) with
    | some o => o.2.testBit j
    | none => false)

/-- Flag plane i of Table 4-5, old OR the flag (R111). -/
def libFlag (e : Entry) (t : BitVec 320) (a : Arr) (j : Nat) (old : Plane) : Plane :=
  old ||| planeOf (fun i => (libPe e t a i).flags.getLsbD (4 - j))

/-- The plane (value, region argument, index) that the script writes: result and remainder by libPlane, the flag region
by libFlag, work planes and everything of an overlapping call as free values (R98, log entry 3). -/
def State.libWrite (e : Entry) (t : BitVec 320) (before : Arr) (free : Bool) (n j p : Nat) (s : State) : State :=
  let role := tRole t n
  let flagReg := n == 7 && role == 3
  let v := if free || (role == 3 && !flagReg) then s.freeVal 262144
    else if flagReg then libFlag e t before j (before.plane p)
    else libPlane e t before n j
  let sel := before.m
  let s := s.took.arrayReads (s.chanId e.ch) (mergeReads p sel)
  s.upArr (fun a => a.mergePlane p sel v)

/-- The PE registers that a library script leaves: free values, but for M (R72, log entry 3). -/
def State.libRegs (s : State) : State :=
  let v (k : Nat) : Plane := Config.freeBits 262144 (s.free + k)
  let s' := s.upArr (fun a =>
    { a with c := v 0, t := v 1, f := v 2, g := v 3, q := v 4, s := v 5, k0 := v 6, k1 := v 7, k2 := v 8, k3 := v 9,
             k4 := v 10, k5 := v 11 })
  { s' with free := s.free + 12 }

/-- The whole effect of a library script at its end (R97, R98, R111): it reads its operands and its flag planes, whose old
values enter the new (R111), then writes. -/
def State.library (e : Entry) (s : State) : State :=
  let t := s.seq.entry e.idx
  let flags := (argsOf t [3]).filter (fun n => n == 7)
  let s := (argsOf t [1] ++ flags).foldl (fun s n =>
    (e.region t n).foldl (fun s p => s.arrayReads (s.chanId e.ch) [(p, allPes)]) s) s
  let before := s.arr
  let free := libOverlap e t
  let s := (argsOf t [2, 3]).foldl (fun s n =>
    ((e.region t n).zipIdx).foldl (fun s pj => s.libWrite e t before free n pj.2 pj.1) s) s
  s.libRegs

/-- Whether the script is a library script whose words the spec does not give. -/
def Seq.opaqueRom (q : Seq) (idx : BitVec 10) : Bool := q.isRom idx && (romWord idx).isNone

end Sys2Proof.Machine
end

