-- ==== Sys2Proof/Machine/Script.lean ====
section
/-!
DEFINITION. Script calls and the queue (R24, R25, R74 to R77), yields, the park stack and the switch sequence (R82 to
R88), plane transfers (R351), and the commands MICROWORD, ENTRY_START, SCRIPT_END, YIELD_EFFECT and PLANE_TRANSFER_END.
-/

namespace Sys2Proof.Machine

/-! ## Call checks (R75) -/

/-- Whether two ranges [a, a + n) and [b, b + m) share a plane. -/
def overlapping (a n b m : Nat) : Bool := decide (0 < n) && decide (0 < m) && decide (a < b + m) && decide (b < a + n)

/-- Every two of a list of ranges (start, length) are disjoint. -/
def pairwiseDisjoint : List (Nat × Nat) → Bool
  | [] => true
  | r :: rs => rs.all (fun q => !overlapping r.1 r.2 q.1 q.2) && pairwiseDisjoint rs

/-- The regions of a call, as argument, sub-bank, start offset and length. -/
def callRegions (t : BitVec 320) (arg : Nat → Nat) : List (Nat × Nat × Nat) :=
  (argsOf t [1, 2, 3]).map (fun n => (tSub t n, arg n, tExt t n + tXl t n * callCount t arg))

/-- PCNT of sub-bank s for a call, the reserved planes left out for a resumable one. -/
def callPcnt (q : Seq) (resumable : Bool) (s : Nat) : Nat :=
  pcnt (Tab.get 0 q.pr s) - (if resumable && s == 0 then 16 else 0)

/-- REFUSE 0x5. -/
def regionsFit (q : Seq) (t : BitVec 320) (arg : Nat → Nat) : Bool :=
  (callRegions t arg).all (fun r => decide (r.2.1 + r.2.2 ≤ callPcnt q (tKind t) r.1)) &&
    (List.range 4).all (fun s => decide (tSext t s ≤ callPcnt q (tKind t) s))

/-- REFUSE 0x6. -/
def regionsApart (t : BitVec 320) (arg : Nat → Nat) : Bool :=
  (List.range 4).all (fun s =>
    pairwiseDisjoint ((0, tSext t s) :: ((callRegions t arg).filter (fun r => r.1 == s)).map (fun r => r.2)))

/-- The channel in force. -/
def State.chanInForce (s : State) : BitVec 18 := fld s.sys.chid 0 18

/-- REFUSE 0x9: every capture word may be written by the issuing code (R186). -/
def State.capturesFit (t : BitVec 320) (s : State) : Bool :=
  match tArgOf t 5 with
  | none => true
  | some n =>
    let a := (s.dir.aaN n).toNat
    decide (a + tCapn t ≤ 262144) &&
      (List.range (tCapn t)).all (fun k => s.mayAccess true (BitVec.ofNat 18 (a + k)))

/-- The first condition of R75 that fails, in the order 1, 2, 3, 4, 7, 5, 6, 8, 9. -/
def State.callRefused (idx : BitVec 10) (s : State) : Option (BitVec 4) :=
  let t := s.seq.entry idx
  let arg (n : Nat) : Nat := (s.dir.aaN n).toNat
  let res := tKind t
  if !t.msb then some 1
  else if t.getLsbD 317 && !s.dir.priv then some 2
  else if !t.getLsbD 316 && decide (fld t 310 6 ≠ fld s.sys.chid 18 6) then some 3
  else if (match tArgOf t 4 with
      | some n => !(decide (1 + tCntm1 t ≤ arg n) && decide (arg n ≤ tFmax t))
      | none => false) then some 4
  else if res && decide (pcnt (Tab.get 0 s.seq.pr 0) < 16) then some 7
  else if !regionsFit s.seq t arg then some 5
  else if res && !regionsApart t arg then some 6
  else if res && s.seq.park.any (fun l => l.any (fun e => e.kind == .resume && e.ch == s.chanInForce)) then some 8
  else if !s.capturesFit t then some 9
  else none

/-! ## The queue -/

/-- An entry as the Director issues it: it captures the arguments, PR0 to PR3 and the channel in force (R24, R76). -/
def State.newEntry (kind : EntryKind) (idx : BitVec 10) (total : Nat) (s : State) : Entry :=
  { kind := kind, idx := idx, aa := s.dir.aa, pr := s.seq.pr, ch := s.chanInForce, total := total,
    serial := s.seq.serial, order := s.seq.serial }

/-- The entry joins the queue. -/
def State.push (e : Entry) (s : State) : State :=
  s.upSeq (fun q => { q with queue := q.queue ++ [e], serial := q.serial + 1 })

/-- ADIRTY (R191). -/
def State.setAdirty (s : State) : State := s.upSys (fun y => { y with adirty := true })

/-- An instruction that queues an entry: refused with SCRIPT_REFUSED, held while the 4 places are taken, or queued and
followed by what `after` gives (R24, R75, R145). -/
def State.enqueue (i : Instr) (refuse : Option (BitVec 4)) (tdata : Word) (e : Entry) (after : State → Res) (s : State) :
    Res :=
  match refuse with
  | some r => .trap (s.upSeq (fun q => { q with refuse := r })) 68 tdata
  | none => if 4 ≤ s.seq.queue.length then .hold (.queue i) s else after (s.push e)

/-- Reduction groups whose CRARM waits for the first script call of this channel name the entry (R303). -/
def State.nameEntry (e : Entry) (s : State) : State :=
  s.upCrew (fun c => { c with groups := c.groups.map (fun g =>
    match g.2.armed with
    | some (_, ch, _) => if ch = e.ch ∧ g.2.entry = none then (g.1, { g.2 with entry := some e.serial }) else g
    | none => g) })

/-- Group 0xC (R145). -/
def State.callBody (idx : BitVec 10) (s : State) : Res :=
  let t := s.seq.entry idx
  let total := tFc t + tFs t * callCount t (fun n => (s.dir.aaN n).toNat)
  let e := s.newEntry .script idx total
  s.enqueue (.scriptCall idx) (s.callRefused idx) (idx.setWidth 24) e (fun t => .done ((t.nameEntry e).setAdirty))

/-- A mask entry (R77, R147). -/
def State.maskBody (i : Instr) (kind : EntryKind) (s : State) : Res :=
  s.enqueue i none 0 (s.newEntry kind 0 1) (fun t => .done t.setAdirty)

/-- The plane that a CH-mode address names, and whether its offset is below PCNT (R147, R148, R351). -/
def State.chPlane (a : BitVec 12) (s : State) : BitVec 12 × Bool :=
  let w := Tab.get 0 s.seq.pr (fld a 10 2).toNat
  (fld a 10 2 ++ (fld w 0 10 + fld a 0 10), decide ((fld a 0 10).toNat < pcnt w))

/-- MLOAD (R147). -/
def State.mloadBody (g : BitVec 3) (s : State) : Res :=
  let p := s.chPlane (fld (s.dir.g g) 0 12)
  s.enqueue (.mload 0 g) (if p.2 then none else some 5) 0 (s.newEntry (.mload p.1) 0 1) (fun t => .done t.setAdirty)

/-- HALO (R148). -/
def State.haloBody (edge : BitVec 2) (slot : BitVec 3) (s : State) : Res :=
  let p := s.chPlane (fld s.dir.a 0 12)
  let unbind := s.dir.a.getLsbD 12
  s.enqueue (.halo edge slot 0) (if p.2 || unbind then none else some 5) 0
    (s.newEntry (.halo edge slot (if unbind then none else some p.1)) 0 1) (fun t => .done t.setAdirty)

/-- ABAR (R113): the region AA7 to AA7 + 4 against PCNT of sub-bank 0; the Director then holds for its entry (R114). -/
def State.abarBody (s : State) : Res :=
  let ok := decide ((s.dir.aaN 7).toNat + 5 ≤ pcnt (Tab.get 0 s.seq.pr 0))
  let e := s.newEntry .abar 0 13
  s.enqueue (.abar 0) (if ok then none else some 5) 0 e (fun t => .hold (.abar e.serial) t)

/-- PLOAD and PSTORE (R351). -/
def State.transferBody (i : Instr) (toPlanes : Bool) (g : BitVec 3) (s : State) : Res :=
  let v := s.dir.g g
  let n := (fld v 12 6).toNat + 1
  let line := (fld s.dir.a 0 18).toNat
  let sub := fld v 10 2
  let cnt := pcnt (Tab.get 0 s.seq.pr sub.toNat)
  let bad := decide (cnt < (fld v 0 10).toNat + n) || decide (147456 < line + 512 * n) || (toPlanes && sub == 3)
  s.enqueue i (if bad then some 5 else none) 0
    (s.newEntry (.transfer toPlanes (s.chPlane (fld v 0 12)).1 n line) 0 (512 * n + 50)) (fun t => .done t)

/-! ## The resume record (R86 to R88) -/

/-- Reserved plane r of the channel whose PR values the entry captured (R86). -/
def Entry.reserved (e : Entry) (r : Nat) : Nat := (e.base 0 + e.cnt 0 - 16 + r) % 1024

/-- Four 12-bit counters, LC3 uppermost. -/
def four12 (t : Tab (BitVec 12)) : BitVec 48 := Tab.get 0 t 3 ++ Tab.get 0 t 2 ++ Tab.get 0 t 1 ++ Tab.get 0 t 0

/-- AA7 to AA0. -/
def eight24 (t : Tab Word) : BitVec 192 :=
  Tab.get 0 t 7 ++ Tab.get 0 t 6 ++ Tab.get 0 t 5 ++ Tab.get 0 t 4 ++ Tab.get 0 t 3 ++ Tab.get 0 t 2 ++ Tab.get 0 t 1 ++
    Tab.get 0 t 0

/-- PR3 to PR0, 21 bits each. -/
def four21 (t : Tab Word) : BitVec 84 :=
  fld (Tab.get 0 t 3) 0 21 ++ fld (Tab.get 0 t 2) 0 21 ++ fld (Tab.get 0 t 1) 0 21 ++ fld (Tab.get 0 t 0) 0 21

/-- CHECK: CRC-16, polynomial 0x1021, initial 0xFFFF, over bits 495 down to 0 (R87). -/
def recordCheck (r : BitVec 496) : BitVec 16 :=
  ((List.range 496).map (fun i => r.getLsbD (495 - i))).foldl (crcStep 0x1021#16) 0xFFFF#16

/-- The record of a run (Table 3-10); an injected RESUME_BAD inverts its CHECK. -/
def Run.record (r : Run) (invert : Bool) : BitVec 512 :=
  let body : BitVec 496 :=
    1#1 ++ r.e.ch ++ r.e.idx ++ r.upc ++ four12 r.lc ++ four12 r.ix ++ r.cix ++ BitVec.ofNat 20 r.remain ++ bit1 r.orb ++
      bit1 r.allb ++ r.countb ++ eight24 r.e.aa ++ four21 r.e.pr ++ 0#35
  let c := recordCheck body
  (if invert then ~~~ c else c) ++ body

/-- A table of n words of w bits from a field at lo. -/
def unpack {n : Nat} (x : BitVec n) (lo w count : Nat) (d : BitVec w) : Tab (BitVec w) :=
  Tab.ofFn d count (fun k => fld x (lo + w * k) w)

/-- The run that a record resumes. -/
def resumed (e : Entry) (x : BitVec 512) (n : Nat) : Run :=
  { e := { e with kind := .script, idx := fld x 467 10, aa := unpack x 119 24 8 0,
                  pr := Tab.ofFn 0 4 (fun k => (fld x (35 + 21 * k) 21).setWidth 24) },
    upc := fld x 453 14, lc := unpack x 405 12 4 0, ix := unpack x 357 12 4 0, cix := fld x 351 6,
    remain := (fld x 331 20).toNat, phase := 0, orb := x.getLsbD 330, allb := x.getLsbD 329, countb := fld x 311 18,
    ended := false, ckpt := false, run := n, sw := none, incoming := false, loads := false }

/-- Whether a record is accepted for the entry (R88). -/
def recordOk (e : Entry) (x : BitVec 512) : Bool :=
  x.getLsbD 495 && decide (fld x 496 16 = recordCheck (fld x 0 496)) && decide (fld x 477 18 = e.ch) &&
    decide (fld x 35 84 = four21 e.pr)

/-- The PEs of row 0. -/
def row0 : Plane := atRow (BitVec.allOnes 512) 0

/-! ## The cycles of Table 3-9 -/

/-- The PE register that is saved in reserved plane n of 0 to 6. -/
def Arr.outgoing (a : Arr) (n : Nat) : Plane :=
  match n with
  | 0 => a.c
  | 1 => a.t
  | 2 => a.m
  | 3 => a.f
  | 4 => a.g
  | 5 => a.q
  | _ => a.s

/-- K := (v x 32) + (K / 2) in every PE (SHIFTIN). -/
def Arr.shiftIn (a : Arr) (v : Plane) : Arr :=
  { a with k0 := a.k1, k1 := a.k2, k2 := a.k3, k3 := a.k4, k4 := a.k5, k5 := v }

/-- y0 to y12: C, T, M, F, G, Q, S, then K by six SHIFTIN, go to the reserved planes 0 to 12 (R86). -/
def Arr.saveCycle (a : Arr) (e : Entry) (y : Nat) : Arr :=
  if y ≤ 6 then a.putPlane (e.reserved y) (a.outgoing y)
  else (a.putPlane (e.reserved y) a.k0).shiftIn a.k0

/-- y20: C, T, F, G, Q, S and K are cleared. -/
def Arr.cleared (a : Arr) : Arr :=
  { a with c := 0, t := 0, f := 0, g := 0, q := 0, s := 0, k0 := 0, k1 := 0, k2 := 0, k3 := 0, k4 := 0, k5 := 0 }

/-- The reserved plane that an accepted resume reads in cycle y of y23 to y35. -/
def restorePlane (y : Nat) : Nat := if y ≤ 24 then y - 23 else if y ≤ 34 then y - 22 else 2

/-- y23 to y35: the plane read goes to C, T, F, G, Q, S, then into K by SHIFTIN, then to M. -/
def Arr.loadCycle (a : Arr) (y : Nat) (v : Plane) : Arr :=
  match y with
  | 23 => { a with c := v }
  | 24 => { a with t := v }
  | 25 => { a with f := v }
  | 26 => { a with g := v }
  | 27 => { a with q := v }
  | 28 => { a with s := v }
  | 35 => { a with m := v }
  | _ => a.shiftIn v

/-- PE (495, 0), which holds VALID. -/
def peValid : Plane := 1#262144 <<< 495

/-- y35: the record's VALID is cleared, a write of one PE with its merge read (R45). -/
def State.clearValid (e : Entry) (s : State) : State :=
  let p := e.reserved 13
  let s := s.arrayReads (s.chanId e.ch) [(p, segPes 0 15 &&& ~~~ peValid)]
  s.upArr (fun a => a.mergePlane p peValid 0)

/-- y19: the branch registers enter the record, which goes to row 0 of reserved plane 13; an armed RESUME_BAD inverts its
CHECK (Table 17-2). -/
def State.saveRecord (r : Run) (s : State) : State :=
  let bad := s.armedFor 4 (fun _ _ => true)
  let s := if bad then s.fired else s
  s.upArr (fun a => a.mergePlane (r.e.reserved 13) row0 ((r.record bad).setWidth 262144))

/-- After y19 of a switch: a resume at the head of the queue is restored in y20 to y39, and is then the entry of the run
(R85). -/
def Seq.takeIncoming (q : Seq) : Seq :=
  match q.queue with
  | e :: es =>
    if e.kind = .resume then { q with queue := es, run := q.run.map (fun r => { r with e := e, incoming := true }) } else q
  | [] => q

/-- y22: the record of the incoming resume is read and checked: its run, or MSTAT.RESUME_REFUSED and RESUME_BAD (R88). -/
def State.checkRecord (r : Run) (s : State) : State :=
  let chan := s.chanId r.e.ch
  let s := s.arrayReads chan [(r.e.reserved 13, row0)]
  let x := rowOf (s.arr.plane (r.e.reserved 13)) 0
  if recordOk r.e x then
    s.upSeq (fun q => { q with run := some { (resumed r.e x q.runs) with sw := r.sw, incoming := true, loads := true },
                               runs := q.runs + 1 })
  else
    -- a CHECK inverted by injection 4 at the save
    let inj := decide (fld x 496 16 = ~~~ recordCheck (fld x 0 496))
    (s.upSeq (fun q => { q with resumeRefused := true })).occur 4 chan (r.e.idx.setWidth 64) inj

/-- y39: the resumed script issues next, its micro-PC counting as a checkpoint after a standalone restore (R82); a refused
resume entry ends with event 40; after a switch sequence event 41 is raised and a YIELD held by it may issue. -/
def State.endSwitch (r : Run) (full : Bool) (s : State) : State :=
  let s :=
    if r.loads then
      s.upSeq (fun q => { q with run := some { r with sw := none, incoming := false, loads := false, ckpt := !full } })
    else
      let s := s.upSeq (fun q => { q with run := none })
      if r.incoming then s.raise 40 else s
  if full then
    (s.upDir (fun d => { d with hold := if d.hold = .yield then .none else d.hold })).raise 41
  else s

/-- The microword of cycle y of Table 3-9. -/
def State.switchWord (y : Nat) (r : Run) (s : State) : State :=
  let s := s.idleWord
  if y ≤ 12 then s.upArr (fun a => a.saveCycle r.e y)
  else if y = 19 then s.saveRecord r
  else if y = 20 then s.upArr Arr.cleared
  else if y = 21 then s.upArr (fun a => { a with m := allPes })
  else if y = 22 ∧ r.incoming then s.checkRecord r
  else if 23 ≤ y ∧ y ≤ 35 ∧ r.loads then
    let p := r.e.reserved (restorePlane y)
    let s := s.arrayReads (s.chanId r.e.ch) [(p, allPes)]
    let s := s.upArr (fun a => a.loadCycle y (a.plane p))
    if y = 35 then s.clearValid r.e else s
  else s

/-- The strips of sends whose sequence point lies before an entry of this order are taken before it starts (R298). -/
def State.snapStrips (order : Nat) (s : State) : State :=
  let due := s.crew.sends.filter (fun h => h.snap.isNone && decide (h.serial ≤ order))
  let s := due.foldl (fun s h => s.arrayReads 0 [(h.plane.toNat, stripPes h.edge.toNat)]) s
  s.upCrew (fun c => { c with sends := c.sends.map (fun h =>
    if h.snap.isNone && decide (h.serial ≤ order) then { h with snap := some (s.arr.plane h.plane.toNat) } else h) })

/-- Cycle y passes; y39 is the last. -/
def State.switchCycle (y : Nat) (full : Bool) (r : Run) (s : State) : State :=
  let s := s.switchWord y r
  let s := s.upSeq (fun q =>
    { q with cyc := q.cyc + 1, freshOr := none, freshTally := none,
             run := q.run.map (fun r => { r with sw := some (y + 1, full) }) })
  let s := if y = 19 then
      (match s.seq.queue with
        | e :: _ => if e.kind = EntryKind.resume then s.snapStrips e.order else s
        | [] => s).upSeq Seq.takeIncoming
    else s
  if y = 39 then s.endSwitch (s.seq.run.getD r) full else s

/-! ## Starting and ending entries -/

/-- A fresh run of an entry (R68, R69). -/
def freshRun (e : Entry) (t : BitVec 320) (n : Nat) : Run :=
  { e := e, upc := tEntry t, lc := [], ix := [], cix := 0, remain := e.total, phase := 0, orb := false, allb := false,
    countb := 0, ended := false, ckpt := false, run := n, sw := if e.kind = .resume then some (20, false) else none,
    incoming := e.kind == .resume, loads := false }

/-- The lead-in of a plane transfer abandons every test in a segment that holds a line of its range (R351, R353). -/
def Banks.leadIn (k : Banks) (line n : Nat) : Banks :=
  (List.range (8 * n + 1)).foldl (fun k i =>
    let seg := line / 64 + i
    if 64 * seg < line + 512 * n then k.touch (seg / 256) (64 * (seg % 256)) else k) k

/-- The first entry of the queue starts to issue (R25); a resume entry starts with its 20 restore cycles (R88). -/
def State.startHead (s : State) : State :=
  match s.seq.queue with
  | [] => s
  | e :: es =>
    let s := s.snapStrips e.order
    let s := match e.kind with
      | .transfer _ _ n line => s.upBanks (fun k => k.leadIn line n)
      | _ => s
    s.upSeq (fun q => { q with queue := es, run := some (freshRun e (q.entry e.idx) q.runs), runs := q.runs + 1 })

/-- ENTRY_START: the next entry starts when none issues and no yield request waits for its effect (R25, R82). -/
def execEntryStart (s : State) : Answer :=
  if s.seq.run.isNone && s.seq.reqs.isEmpty then .next s.startHead else .next s

/-- SCRIPT_END: all cycles of the charged count have issued; event 40 (R71).  A library script's effect takes place.
DESIGN CHOICE: R46 says that the runtime is told at the script's end of an uncorrectable segment that it read and names no
signal for it; the model gives the log record of ARRAY_ECC_UE, made at the read, and event 40. -/
def execScriptEnd (s : State) : Answer :=
  match s.seq.run with
  | none => .next s
  | some r =>
    if r.e.kind = .script ∧ r.remain = 0 ∧ r.sw = none then
      let s := if s.seq.opaqueRom r.e.idx then s.library r.e else s
      .next ((s.upSeq (fun q => { q with run := none })).raise 40)
    else .next s

/-! ## Plane transfers (R351) -/

/-- Row i of a transfer's rows: row i mod 512 of its plane i / 512. -/
def State.moveRow (toPlanes : Bool) (chan : BitVec 32) (p line i : Nat) (s : State) : State :=
  let row := atRow (BitVec.allOnes 512) (i % 512)
  if toPlanes then
    let r := s.portBRead (line + i)
    r.2.upArr (fun a => a.mergePlane (p + i / 512) row (atRow r.1 (i % 512)))
  else
    let s := s.arrayReads chan [(p + i / 512, row)]
    s.portBWrite (line + i) (rowOf (s.arr.plane (p + i / 512)) (i % 512))

/-- The rows of the cycles t(a) to t(b - 1) of an entry of n planes: row i is moved in t(48 + i). -/
def State.moveRows (toPlanes : Bool) (chan : BitVec 32) (p line n a b : Nat) (s : State) : State :=
  let first := min (a - 48) (512 * n)
  (List.range (min (b - 48) (512 * n) - first)).foldl (fun s k => s.moveRow toPlanes chan p line (first + k)) s

/-- A transfer passes its cycles up to t(b - 1). -/
def State.transferTo (b : Nat) (r : Run) (s : State) : State :=
  match r.e.kind with
  | .transfer toPlanes p n line =>
    (s.moveRows toPlanes (s.chanId r.e.ch) p.toNat line n r.phase b).upSeq (fun q =>
      { q with cyc := q.cyc + (b - r.phase), run := some { r with remain := r.e.total - b, phase := b } })
  | _ => s

/-- The end of a transfer: event 40. -/
def State.endTransfer (r : Run) (s : State) : State :=
  ((s.transferTo r.e.total r).upSeq (fun q => { q with run := none })).raise 40

/-- PLANE_TRANSFER_END: the entry moves the rows still to be moved, ends and raises event 40 (R351). -/
def execPlaneTransferEnd (s : State) : Answer :=
  match s.seq.run with
  | none => .next s
  | some r => if r.e.kind.isTransfer then .next (s.endTransfer r) else .next s

/-! ## One array cycle -/

/-- MICROWORD: one array cycle (R34, R67): of the entry that issues, of a switch sequence or a restore (Table 3-9), or of a
plane transfer (R351).  With no entry, or when the next event is the end of the script or of the transfer or a switch, the
command changes nothing (log entry 10). -/
def execMicroword (s : State) : Answer :=
  match s.seq.run with
  | none => .next s
  | some r =>
    if r.sw.isNone && (r.remain = 0 || s.seq.switchDue) then .next s
    else
      let s := s.deliverBy s.seq.cyc
      match s.seq.run with
      | none => .next s
      | some r =>
        match r.sw with
        | some (y, full) => .next (s.switchCycle y full r)
        | none =>
          if r.e.kind.isTransfer then .next (s.idleWord.transferTo (r.phase + 1) r)
          else .next ((s.cycleWord r).upSeq Seq.endCycle)

/-! ## Yields -/

/-- Whether a yield request finds no free park level (R83). -/
def Seq.noLevel (q : Seq) : Bool := decide (8 ≤ q.park.length + q.reqs.length)

/-- A yield request reaches the micro-sequencer (R82): padding ends at once; a checkpoint that has issued before it does
not count. -/
def Seq.request (q : Seq) : Seq :=
  { q with
    reqs := q.reqs ++ [q.serial],
    run := q.run.map (fun r =>
      { r with remain := if r.ended then 0 else r.remain, ckpt := r.ckpt && !q.reqs.isEmpty }) }

/-- The levels that the pending requests push, oldest first: the queue entries issued before each (R83). -/
def levels (lo : Nat) : List Nat → List Entry → List (List Entry)
  | [], _ => []
  | r :: rs, q => q.filter (fun e => decide (lo ≤ e.order) && decide (e.order < r)) :: levels r rs q

/-- Every pending request takes effect: one level each, the oldest first, the first with the entry handed over; entries
issued after the latest request stay (R83). -/
def Seq.pushLevels (q : Seq) (first : Option Entry) : Seq :=
  let ls := levels 0 q.reqs q.queue
  let ls := match first, ls with
    | some e, l :: rest => (e :: l) :: rest
    | _, ls => ls
  let last := q.reqs.getLastD 0
  { q with park := ls.reverse ++ q.park, queue := q.queue.filter (fun e => decide (last ≤ e.order)), reqs := [] }

/-- The entry that resumes a run (R83, R88). -/
def Run.resumeEntry (r : Run) : Entry := { r.e with kind := .resume, total := r.remain }

/-- The switch sequence begins in the cycle after the checkpoint: the level is pushed, and 40 cycles of Table 3-9 follow
(R83, R85). -/
def Seq.switch (q : Seq) (r : Run) : Seq :=
  { (q.pushLevels (some r.resumeEntry)) with run := some { r with sw := some (0, true) } }

/-- The planes of a transfer that are moved at its next boundary after t(phase) (R351). -/
def planesBy (phase : Nat) : Nat := max 1 ((phase - 48 + 511) / 512)

/-- YIELD_EFFECT: the pending requests take effect at a checkpoint, at a plane boundary, or with no entry issuing
(R82, R83, R85, R351). -/
def execYieldEffect (s : State) : Answer :=
  if s.seq.reqs.isEmpty then .next s
  else
    match s.seq.run with
    | none => .next (s.upSeq (fun q => q.pushLevels none))
    | some r =>
      if s.seq.switchDue then .next (s.upSeq (fun q => q.switch r))
      else
        match r.e.kind with
        | .transfer toPlanes p n line =>
          let m := planesBy r.phase
          if n ≤ m then .next ((s.endTransfer r).upSeq (fun q => q.pushLevels none))
          else
            let rest : Entry := { r.e with kind := .transfer toPlanes (p + BitVec.ofNat 12 m) (n - m) (line + 512 * m),
                                           total := 512 * (n - m) + 50 }
            .next ((s.transferTo (49 + 512 * m) r).upSeq (fun q => { (q.pushLevels (some rest)) with run := none }))
        | _ => .next s

/-- An unpark that fits: the level's entries join the queue, counting as issued now; with no entry issuing and the queue
empty its first entry starts at once (R83, R84). -/
def State.unparkNow (l : List Entry) (s : State) : State :=
  let s := s.upSeq (fun q =>
    { q with park := q.park.tail, serial := q.serial + 1, queue := q.queue ++ l.map (fun e => { e with order := q.serial }) })
  if s.seq.run.isNone && decide (s.seq.queue.length = l.length) then s.startHead else s

/-- Whether the queue has places for a level. -/
def Seq.takes (q : Seq) (l : List Entry) : Bool :=
  decide (q.queue.length + l.length ≤ 4) || (q.run.isNone && q.queue.isEmpty && decide (l.length ≤ 5))

/-- UNPARK (R84). -/
def State.unparkBody (s : State) : Res :=
  match s.seq.park with
  | [] => .done s
  | [] :: rest => .done (s.upSeq (fun q => { q with park := rest }))
  | l :: _ => if s.seq.takes l then .done (s.unparkNow l) else .hold .unpark s

end Sys2Proof.Machine
end

