-- ==== Sys2Proof/Machine/DirArray.lean ====
section
/-!
DEFINITION. Groups 0xC and 0xD: script calls, ABAR, result reads, mask and halo entries, ARD and AWR, YIELD, UNPARK and
plane transfers (R145 to R149, R26, R82, R84, R113, R114, R351), with the commands that end their holds.
-/

namespace Sys2Proof.Machine

/-- An array-control instruction of n cycles: not repeatable, not extendable. -/
def Info.array (n : Nat) (illegal priv lazy : Bool) : Info :=
  { illegal := illegal, priv := priv, rep := false, ext := false, fp := false, ar := lazy, cycles := n }

/-! ## Calls and entries -/

/-- SCRIPT_CALL (R145). -/
def execScriptCall (idx : BitVec 10) (s : State) : Answer :=
  .next (s.issue (Info.array 1 false false true) (fun t => t.callBody idx))

/-- ABAR (R113). -/
def execAbar (z : BitVec 6) (s : State) : Answer :=
  .next (s.issue (Info.array 1 (z != 0) false true) (fun t => t.abarBody))

/-- MSET: M := 1 in every PE (R147). -/
def execMset (z : BitVec 4) (s : State) : Answer :=
  .next (s.issue (Info.array 1 (z != 0) false true) (fun t => t.maskBody (.mset z) .mset))

/-- MCLR. -/
def execMclr (z : BitVec 4) (s : State) : Answer :=
  .next (s.issue (Info.array 1 (z != 0) false true) (fun t => t.maskBody (.mclr z) .mclr))

/-- MINV. -/
def execMinv (z : BitVec 4) (s : State) : Answer :=
  .next (s.issue (Info.array 1 (z != 0) false true) (fun t => t.maskBody (.minv z) .minv))

/-- MLOAD g. -/
def execMload (z : BitVec 1) (g : BitVec 3) (s : State) : Answer :=
  .next (s.issue (Info.array 1 (z != 0) false true) (fun t => t.mloadBody g))

/-- HALO (R148): privileged. -/
def execHalo (edge : BitVec 2) (slot : BitVec 3) (z : BitVec 1) (s : State) : Answer :=
  .next (s.issue (Info.array 1 (z != 0) true false) (fun t => t.haloBody edge slot))

/-- PLOAD g (R351): privileged. -/
def execPload (z g : BitVec 3) (s : State) : Answer :=
  .next (s.issue (Info.array 1 (z != 0) true false) (fun t => t.transferBody (.pload z g) true g))

/-- PSTORE g. -/
def execPstore (z g : BitVec 3) (s : State) : Answer :=
  .next (s.issue (Info.array 1 (z != 0) true false) (fun t => t.transferBody (.pstore z g) false g))

/-- The instruction that held for a queue place, issued afresh (R145). -/
def reissue (i : Instr) (s : State) : Answer :=
  match i with
  | .scriptCall idx => execScriptCall idx s
  | .abar z => execAbar z s
  | .mset z => execMset z s
  | .mclr z => execMclr z s
  | .minv z => execMinv z s
  | .mload z g => execMload z g s
  | .halo e k z => execHalo e k z s
  | .pload z g => execPload z g s
  | .pstore z g => execPstore z g s
  | _ => .next s

/-- CALL_QUEUE_RESUME: a place is free, and the held instruction queues its entry (R24). -/
def execCallQueueResume (s : State) : Answer :=
  match s.dir.hold with
  | .queue i =>
    if s.seq.queue.length < 4 then reissue i (s.upDir (fun d => { d with hold := .none })) else .next s
  | _ => .next s

/-- ABAR_RETIRE: the five results are in: merged into AFSTAT.FLAGS, event 43, ARRAY_FP after the ABAR (R114). -/
def execAbarRetire (s : State) : Answer :=
  match s.dir.hold with
  | .abar n =>
    let r := Tab.get (0, 0) s.seq.abarRes n
    if r.2 < 5 then .next s
    else
      let s := s.upSeq (fun q => { q with abarRes := Tab.set (0, 0) q.abarRes n (0, 0) })
      let s := (s.upSys (fun y => { y with afFlags := y.afFlags ||| r.1, adirty := true }))
      let s := if r.1 ≠ 0 then s.raise 43 else s
      if r.1 &&& s.sys.afEn ≠ 0 then
        let s := s.upDir (fun d => { d with cyc := d.cyc + 1 })
        .next (s.enter (.trap 69 (r.1.setWidth 24)) (s.dir.pc + 1) none)
      else .next (s.release 1)
  | _ => .next s

/-! ## Result reads (R26, R54) -/

/-- The microwords of script idx in the image in force that holds it (R502). -/
def Placed.wordsOf (p : Placed) (idx : BitVec 10) : List MicroW :=
  match p.img.dir.find? (fun d => dirIndex d == idx) with
  | none => []
  | some d =>
    let a := (fld d 32 13).toNat
    let stop := (p.img.dir.map (fun x => (fld x 32 13).toNat)).foldl
      (fun m x => if a < x ∧ x < m then x else m) p.img.words.length
    (p.img.words.drop a).take (stop - a)

/-- Whether a script samples the tally tree (bit 1) or the OR tree (bit 0). -/
def Seq.feeds (q : Seq) (idx : BitVec 10) (bit : Nat) : Bool :=
  q.images.any (fun p => (p.wordsOf idx).any (fun w => w.tree.testBit bit))

/-- Whether an entry may still take a sampling of the tree. -/
def Seq.entryFeeds (q : Seq) (bit : Nat) (e : Entry) : Bool :=
  (e.kind == .script || e.kind == .resume) && q.feeds e.idx bit

/-- The script that is placed at micro-PC upc, as its words over absolute micro-PCs: (first micro-PC, words). -/
def Seq.scriptAt (q : Seq) (idx : BitVec 10) : Option (Nat × List MicroW) :=
  q.images.findSome? (fun p => (p.img.dir.find? (fun d => dirIndex d == idx)).map (fun d =>
    (p.base + (fld d 32 13).toNat, (p.wordsOf idx).zipIdx.map (fun w =>
      Tab.get 0 q.cs (p.base + (fld d 32 13).toNat + w.2)))))

/-- The micro-PCs that can follow the word w at micro-PC u. -/
def wordNext (u : Nat) (w : MicroW) : List Nat :=
  match w.seq with
  | 1 => [w.tgt.toNat]
  | 2 => [w.tgt.toNat, u + 1]
  | 3 => [w.tgt.toNat, u + 1]
  | 5 => []
  | _ => [u + 1]

/-- The micro-PCs that some path from u reaches, n rounds deep. -/
def pathsFrom (word : Nat → MicroW) : Nat → List Nat → List Nat
  | 0, us => us
  | n + 1, us =>
    let more := (us.flatMap (fun u => wordNext u (word u))).eraseDups.filter (fun v => !us.contains v)
    if more.isEmpty then us else pathsFrom word n (us ++ more)

/-- Whether the run can still take a sampling of the tree: on some path from its next microword. -/
def Seq.runFeeds (q : Seq) (bit : Nat) (r : Run) : Bool :=
  if r.e.kind == .resume then q.feeds r.e.idx bit
  else if r.e.kind != .script || r.ended then false
  else
    match q.scriptAt r.e.idx with
    | none => false
    | some (a, ws) =>
      let word (u : Nat) : MicroW := if a ≤ u then ws.getD (u - a) 0 else 0
      ((pathsFrom word ws.length [r.upc.toNat]).filter (fun u => decide (a ≤ u) && decide (u < a + ws.length))).any
        (fun u => (word u).tree.testBit bit)

/-- Whether a read of a result register holds: a sampling issued before it is in the tree or still waits, in the queue or
in the script that issues, or the result held has been read: none is read twice (R26, log entry 37). -/
def Seq.awaits (q : Seq) (tally : Bool) : Bool :=
  let bit := if tally then 1 else 0
  q.samples.any (fun x => x.tally == tally && x.abar.isNone) || q.queue.any (q.entryFeeds bit) ||
    (match q.run with | some r => q.runFeeds bit r | none => false) || (if tally then q.tallyTaken else q.orTaken)

/-- The OR result register as the Director reads it (Table 2-7). -/
def Seq.orWord (q : Seq) : Word := if q.resOr then 1 else 0

/-- The Director takes the OR result into g. -/
def State.takeOr (g : BitVec 3) (s : State) : State :=
  (s.upDir (fun d => d.setG g s.seq.orWord)).upSeq (fun q => { q with orTaken := true })

/-- The Director takes the tally result into g: ALL in bit 18, COUNT below (Table 2-8). -/
def State.takeTally (g : BitVec 3) (s : State) : State :=
  (s.upDir (fun d => d.setG g (s.seq.resTally.setWidth 24))).upSeq (fun q => { q with tallyTaken := true })

/-- RDOR g. -/
def execRdor (z g : BitVec 3) (s : State) : Answer :=
  .next (s.issue (Info.array 1 (z != 0) false false) (fun t =>
    if t.seq.awaits false then .hold (.rdor g) t else .done (t.takeOr g)))

/-- RDOR_COMPLETE: the awaited result has arrived. -/
def execRdorComplete (s : State) : Answer :=
  match s.dir.hold with
  | .rdor g => if s.seq.awaits false then .next s else .next ((s.takeOr g).release 2)
  | _ => .next s

/-- RDTALLY g. -/
def execRdtally (z g : BitVec 3) (s : State) : Answer :=
  .next (s.issue (Info.array 1 (z != 0) false false) (fun t =>
    if t.seq.awaits true then .hold (.rdtally g) t else .done (t.takeTally g)))

/-- RDTALLY_COMPLETE. -/
def execRdtallyComplete (s : State) : Answer :=
  match s.dir.hold with
  | .rdtally g => if s.seq.awaits true then .next s else .next ((s.takeTally g).release 2)
  | _ => .next s

/-! ## ARD, AWR (R149) -/

/-- A switch sequence of R85 runs. -/
def Seq.switching (q : Seq) : Bool := match q.run with | some r => r.sw.any (·.2) | none => false

/-- MSTAT (Table 3-12).  RUNNING and RUNIDX are 0 while a switch sequence runs, whose microwords are no entry's; the entry
of a standalone restore counts as running (log entry 39). -/
def Seq.mstat (q : Seq) : Word :=
  let on := q.run.isSome && !q.switching
  bit1 q.resumeRefused ++ bit1 on ++ bit1 (match q.run with | some r => r.sw.isSome | none => false) ++
    BitVec.ofNat 4 q.park.length ++ BitVec.ofNat 3 q.queue.length ++ q.refuse ++
    (match q.run with | some r => if on then r.e.idx else 0 | none => 0)

/-- AFSTAT (Table 4-6 (a)). -/
def Dsys.afstat (y : Dsys) : Word := (0#11) ++ y.afEn ++ (0#3) ++ y.afFlags

/-- The array register of sel. -/
def State.arrayReg (sel : BitVec 3) (s : State) : Word :=
  match sel.toNat with
  | 0 => s.seq.mstat
  | 1 => s.seq.yieldOn.setWidth 24
  | 2 => s.sys.afstat
  | n => Tab.get 0 s.seq.pr (n - 4)

/-- REG_RSVD: function, offset and source of a write with a reserved encoding (R11). -/
def State.regRsvd (fn off source : Nat) (s : State) : State :=
  s.occur 11 0 (BitVec.ofNat 64 (fn + 64 * off + 2147483648 * source)) false

/-- A write of a relocation register: PCNT above 1,024 is reserved, and PCNT is cut to 1,024 - PBASE (Table 3-3). -/
def writePr (old v : Word) : Word × Bool :=
  let base := pbase v
  let bad := decide (1024 < pcnt v)
  let cnt := if bad then pcnt old else pcnt v
  (BitVec.ofNat 24 (min cnt (1024 - base) * 1024 + base), bad)

/-- A write of the array register of sel. -/
def State.setArrayReg (sel : BitVec 3) (v : Word) (s : State) : State :=
  match sel.toNat with
  | 0 => if v.msb then s.upSeq (fun q => { q with resumeRefused := false }) else s
  | 1 => s.upSeq (fun q => { q with yieldOn := fld v 0 8 })
  | 2 => s.upSys (fun y => { y with afEn := fld v 8 5, afFlags := y.afFlags &&& ~~~ fld v 0 5, adirty := true })
  | n =>
    let w := writePr (Tab.get 0 s.seq.pr (n - 4)) v
    let s := s.upSeq (fun q => { q with pr := Tab.set 0 q.pr (n - 4) w.1 })
    if w.2 then s.regRsvd 0 n 3 else s

/-- ARD g. -/
def execArd (sel : BitVec 3) (g : BitVec 3) (s : State) : Answer :=
  .next (s.issue (Info.array 3 (sel == 3) false (sel == 2)) (fun t =>
    .done (t.upDir (fun d => d.setG g (t.arrayReg sel)))))

/-- AWR g: privileged but for AFSTAT. -/
def execAwr (sel : BitVec 3) (g : BitVec 3) (s : State) : Answer :=
  .next (s.issue (Info.array 3 (sel == 3) (sel != 2) (sel == 2)) (fun t =>
    .done (t.setArrayReg sel (t.dir.g g))))

/-! ## YIELD, UNPARK -/

/-- YIELD (R82, R83): it holds while a switch sequence runs. -/
def execYield (z : BitVec 6) (s : State) : Answer :=
  .next (s.issue (Info.array 1 (z != 0) true false) (fun t =>
    if t.seq.switching then .hold .yield t
    else if t.seq.noLevel then .trap (t.upSeq (fun q => { q with refuse := 0xA })) 68 0
    else .done (t.upSeq Seq.request)))

/-- UNPARK (R84). -/
def execUnpark (z : BitVec 6) (s : State) : Answer :=
  .next (s.issue (Info.array 1 (z != 0) true false) (fun t => t.unparkBody))

/-- UNPARK_RESUME: the queue has places for the level now. -/
def execUnparkResume (s : State) : Answer :=
  match s.dir.hold, s.seq.park with
  | .unpark, l :: _ => if s.seq.takes l then .next ((s.unparkNow l).release 1) else .next s
  | _, _ => .next s

end Sys2Proof.Machine
end

