-- ==== Sys2Proof/Machine/DirSystem.lean ====
section
/-!
DEFINITION. Group 0x0 and the special registers (R118, R134, R152 to R163, R166, R171, R172, R177, R184 to R192), the
interrupt entry with its yield request (R83), and the Splice opcode interface (R150, R151, R159, R260, R369, R370).
-/

namespace Sys2Proof.Machine

/-- A system instruction of n cycles. -/
def Info.system (n : Nat) (illegal priv : Bool) : Info :=
  { illegal := illegal, priv := priv, rep := false, ext := false, fp := false, ar := false, cycles := n }

/-! ## NOP, HALT, TRAP, RETI -/

/-- NOP; a word of no assigned encoding raises ILLEGAL (R125). -/
def execNop (z : BitVec 6) (un : Option (BitVec 14)) (s : State) : Answer :=
  .next (s.issue (Info.system 1 (z != 0 || un.any unassignedWord) false) (fun t => .done t))

/-- HALT: instruction issue stops until a Director reset (R134). -/
def execHalt (z : BitVec 6) (s : State) : Answer :=
  .next (s.issue (Info.system 1 (z != 0) true) (fun t => .done (t.upDir (fun d => { d with run := .halted }))))

/-- TRAP n (R174): the return point is the next word, TDATA is 0. -/
def execTrap (n : BitVec 6) (s : State) : Answer :=
  .next (s.issue (Info.system 1 false false) (fun t => .trapNext t (n.setWidth 8) 0))

/-- RETI (R178); ILLEGAL when LK.KIND = 0 or CWP = 0 (R123). -/
def execReti (z : BitVec 6) (s : State) : Answer :=
  let w := s.dir.cwp.toNat
  .next (s.issue (Info.system 3 (z != 0 || decide (w = 0) || !(s.dir.saved w 8).msb) true) (fun t =>
    .control t.returnFrom))

/-! ## Prefixes -/

/-- A repeat prefix (R152); its count is judged with the word that follows (R155). -/
def State.repeatBy (noInt : Bool) (n : BitVec 6) (ld : Option (BitVec 2 × Word)) (s : State) : Res :=
  let count : Word := if n = 0 then s.dir.rc else n.setWidth 24
  let r : Rep := { pc := s.dir.pc, count := count, noInt := noInt, held := none, lit := none,
                   slot := ld.map (fun p => (p.1, p.2, s.dir.loadedReg p.1)), fresh := true }
  .control ((s.upDir (fun d => { d with pc := d.pc + 1, cyc := d.cyc + 1 })).upSys (fun y => { y with rep := some r }))

/-- REP: the interruptible prefix. -/
def execRep (n : BitVec 6) (s : State) : Answer :=
  .next (s.issue (Info.system 1 false false) (fun t => t.repeatBy false n s.sys.ld))

/-- REPN: no interrupt to its last repetition; more than 256 raise REP_RANGE (R155). -/
def execRepn (n : BitVec 6) (s : State) : Answer :=
  .next (s.issue (Info.system 1 false false) (fun t => t.repeatBy true n s.sys.ld))

/-- The literal of an EXT pair is read; the instruction after it issues with it (R127). -/
def State.readLiteral (lit : BitVec 14) (s : State) : State :=
  (s.upDir (fun d => { d with pc := d.pc + 2 })).upSys (fun y => { y with ext := some lit })

/-- EXT: the EXT word and its literal word. -/
def execExt (z : BitVec 6) (lit : BitVec 14) (s : State) : Answer :=
  if s.issuing && decide ((s.sys.rep.map Rep.count) = some 0) && s.sys.ext.isNone then .next (s.readLiteral lit)
  else
    .next (s.issue { Info.system 0 (z != 0) false with rep := true } (fun t =>
      let p := (t.upDir (fun d => { d with pc := d.pc + 1 })).fetch
      if p.2 then .hold .none ((p.1.upDir (fun d => { d with pc := t.dir.pc })).readLiteral lit) else .hold .none p.1))

/-! ## WFE and WTU -/

/-- The line that WFE consumes: the lowest that is pending, unmasked and no interrupt source (R158, R177). -/
def State.wfeLine (s : State) : Option Nat :=
  (List.range 64).find? (fun n => s.dir.evp.getLsbD n && s.dir.evm.getLsbD n && !(Tab.get 0 s.sys.irqcfg n).getLsbD 3)

/-- WFE consumes line n. -/
def Dir.consume (n : Nat) (d : Dir) : Dir := { d with a := BitVec.ofNat 24 n, evp := setBit d.evp n false }

/-- WFE. -/
def execWfe (z : BitVec 6) (s : State) : Answer :=
  .next (s.issue (Info.system 1 (z != 0) false) (fun t =>
    match t.wfeLine with
    | some n => .done (t.upDir (Dir.consume n))
    | none => .hold .wfe t))

/-- WFE_WAKE: a line that the waiting WFE consumes is pending. -/
def execWfeWake (s : State) : Answer :=
  match s.dir.hold, s.wfeLine with
  | .wfe, some n => .next ((s.upDir (Dir.consume n)).release 1)
  | _, _ => .next s

/-- The time has reached the value of unit u (R161). -/
def State.timeReached (u : Nat) (s : State) : Bool := decide (Tab.get 0 s.dir.wtuv u ≤ s.dirTime)

/-- WTU u. -/
def execWtu (f : BitVec 6) (s : State) : Answer :=
  .next (s.issue (Info.system 1 (fld f 2 4 != 0) false) (fun t =>
    if t.timeReached (fld f 0 2).toNat then .done t else .hold (.wtu (fld f 0 2)) t))

/-- WTU_COMPLETE. -/
def execWtuComplete (s : State) : Answer :=
  match s.dir.hold with
  | .wtu u => .next (if s.timeReached u.toNat then s.release 1 else s)
  | _ => .next s

/-- WTU_COMPARE_MATCH: an armed unit raises its line once (R161). -/
def execWtuCompareMatch (u : BitVec 2) (s : State) : Answer :=
  .next (if s.dir.wtuArmed.getLsbD u.toNat && s.timeReached u.toNat then
      (s.upDir (fun d => { d with wtuArmed := setBit d.wtuArmed u.toNat false })).raiseIn (56 + u.toNat)
    else s)

/-! ## Interrupt entry (R177, R83) -/

/-- INTERRUPT_ENTRY: the request that is taken at this boundary; with YIELD_ON of its priority a yield request, for which the
Director holds while a switch sequence runs (R82). -/
def execInterruptEntry (s : State) : Answer :=
  match s.takable with
  | none => .next s
  | some (n, p) =>
    let yields := decide (s.dir.cwp.toNat < 14) && s.seq.yieldOn.getLsbD p.toNat
    let t := s.enter (.irq n p) s.instrPc s.sys.rep
    let t := t.activateLine n.toNat
    if yields && s.seq.switching then .next s
    else if yields then
      if t.seq.noLevel then .next ((t.upSeq (fun q => { q with refuse := 0xA })).enter (.trap 68 0) t.dir.pc none)
      else .next (t.upSeq Seq.request)
    else .next t

/-! ## Special registers (Tables 5-1 and 6-7) -/

/-- Whether a number is unassigned. -/
def srIllegal (sr : Nat) : Bool :=
  (0x0D ≤ sr && sr ≤ 0x0F) || (0x1E ≤ sr && sr ≤ 0x1F) || sr == 0x23 || sr == 0x3F

/-- Marked P. -/
def srPriv (sr : Nat) : Bool :=
  (7 ≤ sr && sr ≤ 0xC) || (0x18 ≤ sr && sr ≤ 0x1D) || 0x24 ≤ sr

/-- The products of the maintenance pipeline that have left it by Director cycle n (R166). -/
def Dsys.drain (n : Nat) (y : Dsys) : Dsys :=
  { y with mr := ((y.mpipe.filter (fun p => decide (p.2 ≤ n))).map (·.1)).getLastD y.mr,
           mpipe := y.mpipe.filter (fun p => decide (n < p.2)) }

/-- WDAT as WSEL names it (R184, Table 6-12). -/
def State.wdat (s : State) : Word :=
  let w := (fld s.dir.wsel 5 4).toNat
  let r := (fld s.dir.wsel 0 5).toNat
  if r < 8 then Tab.get 0 s.dir.wreg (physReg w r) else s.dir.saved w r

/-- Bits of a register of Table 6-12 that exist. -/
def wdatMask (r : Nat) : Word :=
  if r = 8 then 0x83FFFF else if r = 14 then 0xFF else if r = 15 then 0xFFC00F else if r = 19 then 0xFF else 0xFFFFFF

/-- A write of WDAT. -/
def Dir.setWdat (v : Word) (d : Dir) : Dir :=
  let w := (fld d.wsel 5 4).toNat
  let r := (fld d.wsel 0 5).toNat
  if r < 8 then { d with wreg := Tab.set 0 d.wreg (physReg w r) v } else d.setSaved w r (v &&& wdatMask r)

/-- DSTATE (Table 6-6). -/
def Dsys.dstate (y : Dsys) : Word := (0#20) ++ y.lastrst ++ bit1 y.dfault ++ bit1 y.normal

/-- A read of the registers of Table 5-1 and Table 6-7 that has no effect of its own. -/
def State.srValue (sr : Nat) (s : State) : Word :=
  let d := s.dir
  let y := s.sys
  match sr with
  | 0x00 => d.mx.setWidth 24
  | 0x01 => d.my.setWidth 24
  | 0x02 => d.dp.setWidth 24
  | 0x03 => d.rc
  | 0x04 => d.ph
  | 0x05 => flagsWord d y.normal
  | 0x06 => d.fpcr
  | 0x07 => d.wsel.setWidth 24
  | 0x08 => s.wdat
  | 0x09 => fld y.mr 0 24
  | 0x0A => fld y.mr 24 24
  | 0x0B => y.sfch.setWidth 24
  | 0x18 => fld d.evm 0 24
  | 0x19 => fld d.evm 24 24
  | 0x1A => (fld d.evm 48 16).setWidth 24
  | 0x1B => fld d.evp 0 24
  | 0x1C => fld d.evp 24 24
  | 0x1D => (fld d.evp 48 16).setWidth 24
  | 0x21 => fld d.tbl 0 24
  | 0x22 => (fld d.tbl 24 16).setWidth 24
  | 0x30 => y.vbase.setWidth 24
  | 0x31 => y.tcause
  | 0x32 => y.tdata
  | 0x33 => y.iact.setWidth 24
  | 0x34 => y.irqsel.setWidth 24
  | 0x35 => (Tab.get 0 y.irqcfg y.irqsel.toNat).setWidth 24
  | 0x36 => y.chid
  | 0x37 => y.rgsel.setWidth 24
  | 0x38 => Tab.get 0 y.rglo y.rgsel.toNat
  | 0x39 => (Tab.get 0 y.rghi y.rgsel.toNat).setWidth 24
  | 0x3A => (0#22) ++ bit1 y.adirty ++ bit1 y.fdirty
  | 0x3B => y.fown.setWidth 24
  | 0x3C => y.aown.setWidth 24
  | 0x3E => y.dstate
  | n => if 0x10 ≤ n ∧ n < 0x18 then d.aaN (n - 0x10)
         else if 0x24 ≤ n ∧ n < 0x30 then Tab.get 0 d.wtuw (n - 0x24) else 0

/-- MFS: A := the register.  TBL reads the time and latches its upper part (R160); MRL and MRH see what has left the
pipeline (R166). -/
def State.readSr (sr : Nat) (s : State) : Res :=
  if sr = 0x20 then
    let t := s.readTime
    .done (t.2.upDir (fun d => { d with a := fld t.1 0 24, tbl := fld t.1 24 40 }))
  else
    let s := if sr = 9 ∨ sr = 10 then s.upSys (Dsys.drain s.dir.cyc) else s
    let v := s.srValue sr
    .done (s.upDir (fun d => { d with a := v }))

/-- A modulo length: above 262,144 is a reserved encoding. -/
def lengthReserved (v : Word) : Bool := decide (262144 < (fld v 0 19).toNat)

/-- Whether an MTS holds a reserved encoding (R11). -/
def srReserved (sr : Nat) (v : Word) : Bool :=
  match sr with
  | 0 => lengthReserved v
  | 1 => lengthReserved v
  | 6 => decide (4 < (fld v 16 3).toNat)
  | 7 => decide (20 < (fld v 0 5).toNat)
  | _ => false

/-- A compare unit's word is written; H arms the unit with the whole value (R161). -/
def Dir.setWtu (k : Nat) (v : Word) (d : Dir) : Dir :=
  let v := if k % 3 = 2 then v &&& 0xFFFF else v
  let d := { d with wtuw := Tab.set 0 d.wtuw k v }
  if k % 3 = 2 then
    let whole : BitVec 64 := fld v 0 16 ++ Tab.get 0 d.wtuw (k - 1) ++ Tab.get 0 d.wtuw (k - 2)
    { d with wtuv := Tab.set 0 d.wtuv (k / 3) whole, wtuArmed := setBit d.wtuArmed (k / 3) true }
  else d

/-- A write of part of EVM: bits lo .. lo + w - 1 from v. -/
def Dir.setEvm (lo w : Nat) (v : Word) (d : Dir) : Dir := { d with evm := putFld d.evm lo (fld v 0 w) }

/-- A write of 1s to part of EVP clears them. -/
def Dir.clearEvp (lo w : Nat) (v : Word) (d : Dir) : Dir :=
  { d with evp := d.evp &&& ~~~ ((fld v 0 w).setWidth 64 <<< lo) }

/-- The effect of an MTS of value v on register sr. -/
def State.writeSr (sr : Nat) (v : Word) (s : State) : State :=
  match sr with
  | 0x00 => if lengthReserved v then s else s.upDir (fun d => { d with mx := fld v 0 19 })
  | 0x01 => if lengthReserved v then s else s.upDir (fun d => { d with my := fld v 0 19 })
  | 0x02 => s.upDir (fun d => { d with dp := fld v 0 8 })
  | 0x03 => s.upDir (fun d => { d with rc := v })
  | 0x04 => s.upDir (fun d => { d with ph := v })
  | 0x05 => s.upDir (writeFlags v)
  | 0x06 => (s.upDir (fun d =>
      { d with fpcr := (if srReserved 6 v then d.fpcr &&& 0x070000 else v &&& 0x070000) ||| (v &&& 0x001F1F) })).upSys
        (fun y => { y with fdirty := true })
  | 0x07 => s.upDir (fun d =>
      { d with wsel := fld v 5 4 ++ (if srReserved 7 v then fld d.wsel 0 5 else fld v 0 5) })
  | 0x08 => s.upDir (Dir.setWdat v)
  | 0x0B => s.upSys (fun y => { y with sfch := fld v 0 18 })
  | 0x0C => s.sfop (fld v 0 4)
  | 0x18 => s.upDir (Dir.setEvm 0 24 v)
  | 0x19 => s.upDir (Dir.setEvm 24 24 v)
  | 0x1A => s.upDir (Dir.setEvm 48 16 v)
  | 0x1B => s.upDir (Dir.clearEvp 0 24 v)
  | 0x1C => s.upDir (Dir.clearEvp 24 24 v)
  | 0x1D => s.upDir (Dir.clearEvp 48 16 v)
  | 0x30 => s.upSys (fun y => { y with vbase := fld v 0 8 })
  | 0x33 => s.upSys (fun y => { y with iact := fld v 0 8 })
  | 0x34 => s.upSys (fun y => { y with irqsel := fld v 0 6 })
  | 0x35 => s.upSys (fun y => { y with irqcfg := Tab.set 0 y.irqcfg y.irqsel.toNat (fld v 0 4) })
  | 0x36 => s.upSys (fun y => { y with chid := v })
  | 0x37 => s.upSys (fun y => { y with rgsel := fld v 0 9 })
  | 0x38 => s.upSys (fun y => { y with rglo := Tab.set 0 y.rglo y.rgsel.toNat (v &&& 0xC003FF) })
  | 0x39 => s.upSys (fun y => { y with rghi := Tab.set 0 y.rghi y.rgsel.toNat (fld v 0 10) })
  | 0x3A => s.upSys (fun y => { y with adirty := y.adirty && !v.getLsbD 1, fdirty := y.fdirty && !v.getLsbD 0 })
  | 0x3B => s.upSys (fun y => { y with fown := fld v 0 19 })
  | 0x3C => s.upSys (fun y => { y with aown := fld v 0 19 })
  | 0x3D => s.upSys (Dsys.afload v)
  | 0x3E => s.upSys (fun y => { y with normal := y.normal || v.getLsbD 0 })
  | n => if 0x10 ≤ n ∧ n < 0x18 then s.upDir (fun d => { d with aa := Tab.set 0 d.aa (n - 0x10) v })
         else if 0x24 ≤ n ∧ n < 0x30 then s.upDir (Dir.setWtu (n - 0x24) v) else s

/-- MTS: the register takes A; a reserved encoding is logged with source 2 (R11). -/
def State.mts (sr : Nat) (v : Word) (s : State) : Res :=
  let t := s.writeSr sr v
  .done (if srReserved sr v then t.regRsvd 0 sr 2 else t)

/-- What decides whether an MFS or MTS of sr may execute. -/
def Info.sr (sr : Nat) (cycles : Nat) : Info :=
  { Info.system cycles (srIllegal sr) (srPriv sr) with fp := sr == 6 }

/-- MFS. -/
def execMfs (sr : BitVec 6) (s : State) : Answer :=
  .next (s.issue (Info.sr sr.toNat 1) (fun t => t.readSr sr.toNat))

/-- MTS. -/
def execMts (sr : BitVec 6) (s : State) : Answer :=
  .next (s.issue (Info.sr sr.toNat (if sr = 0x0C then sfopCycles (fld s.dir.a 0 4) else 1)) (fun t =>
    t.mts sr.toNat t.dir.a))

/-- MFS_TBL: an MFS of TBL (R160). -/
def execMfsTbl (s : State) : Answer := .next (s.issue (Info.sr 0x20 1) (fun t => t.readSr 0x20))

/-- MTS_WTUVH: an MTS of WTUVuH, which arms the unit (R161). -/
def execMtsWtuvh (u : BitVec 2) (s : State) : Answer :=
  .next (s.issue (Info.sr (0x26 + 3 * u.toNat) 1) (fun t => t.mts (0x26 + 3 * u.toNat) t.dir.a))

/-- An SFOP write of one operation's bit, whatever A holds. -/
def State.sfopOne (bits : BitVec 4) (s : State) : Answer :=
  .next (s.issue (Info.sr 0x0C (sfopCycles bits)) (fun t => .done (t.sfop bits)))

/-- FSAVE (R189). -/
def execFsave (s : State) : Answer := s.sfopOne 1

/-- ASAVE. -/
def execAsave (s : State) : Answer := s.sfopOne 4

/-- FLOAD. -/
def execFload (s : State) : Answer := s.sfopOne 2

/-- ALOAD. -/
def execAload (s : State) : Answer := s.sfopOne 8

/-- AFLOAD_WRITE: an MTS of AFLOAD (R196). -/
def execAfloadWrite (s : State) : Answer := .next (s.issue (Info.sr 0x3D 1) (fun t => t.mts 0x3D t.dir.a))

/-- DSTATE_NORMAL_WRITE: an MTS of DSTATE (R171). -/
def execDstateNormalWrite (s : State) : Answer := .next (s.issue (Info.sr 0x3E 1) (fun t => t.mts 0x3E t.dir.a))

/-- MAINT_PRODUCT_READY: the oldest product in the pipeline enters MRH : MRL at its cycle (R166). -/
def execMaintProductReady (s : State) : Answer :=
  match s.sys.mpipe with
  | [] => .next s
  | p :: rest =>
    .next ((s.upDir (fun d => { d with cyc := max d.cyc p.2 })).upSys (fun y => { y with mr := p.1, mpipe := rest }))

/-! ## Splice opcodes (R150, R151, R369, R370) -/

/-- The operands that a send field selects. -/
def sentOps (op : BitVec 6) (snd : BitVec 2) (d : Dir) : OpReq :=
  { op := op, a := if snd = 0 then 0 else d.a, x := if snd.toNat < 2 then 0 else d.x, y := if snd = 3 then d.y else 0 }

/-- The answer words as a receive field maps them. -/
def Dir.receive (rcv : BitVec 2) (d0 d1 : Word) (d : Dir) : Dir :=
  match rcv.toNat with
  | 1 => { d with a := d0 }
  | 2 => { d with a := d0, ph := d1 }
  | 3 => d.setG 0 d0
  | _ => d

/-- An opcode reaches the fabric and the Director holds for its answer. -/
def State.requestOpcode (op : BitVec 6) (snd rcv : BitVec 2) (s : State) : Answer :=
  .next (s.issue (Info.system 10 false (decide (0x30 ≤ op.toNat))) (fun t =>
    .hold (.opcode op snd rcv)
      (t.upSpl (fun x => { x with op := some (sentOps op snd t.dir), withdrawn := none }))))

/-- OP_REQ falls; an injected SPLICE_LATEANS counts there (detector 30). -/
def State.opReqFalls (op : BitVec 6) (s : State) : State :=
  let s := s.upSpl (fun x => { x with op := none })
  if s.armedFor 30 (fun _ _ => true) then
    (s.fired.upSpl (fun x => { x with lateAns := satInc x.lateAns })).occur 30 0 (op.setWidth 64) true
  else s

/-- OPCODE_ANSWER: OP_ACK with OP_D0 and OP_D1.  It answers the outstanding request; the first after a withdrawal is
counted as late; any other is ignored (R369, R370). -/
def execOpcodeAnswer (d0 d1 : BitVec 24) (s : State) : Answer :=
  match s.dir.hold, s.spl.op with
  | .opcode op _ rcv, some _ => .next (((s.opReqFalls op).upDir (Dir.receive rcv d0 d1)).release 10)
  | _, _ =>
    match s.spl.withdrawn with
    | some op =>
      .next ((s.upSpl (fun x => { x with lateAns := satInc x.lateAns, withdrawn := none })).occur 30 0 (op.setWidth 64) false)
    | none => .next s

/-- OPCODE_WITHDRAWAL: no answer by s27 (R370). -/
def execOpcodeWithdrawal (s : State) : Answer :=
  match s.spl.op with
  | some r => .next ((s.opReqFalls r.op).upSpl (fun x => { x with withdrawn := some r.op }))
  | none => .next s

/-- SPLICE_NOANSWER: the trap at 64 Director cycles, at the opcode word (R151). -/
def execSpliceNoanswer (s : State) : Answer :=
  match s.dir.hold with
  | .opcode op _ _ =>
    let s := match s.spl.op with
      | some _ => (s.opReqFalls op).upSpl (fun x => { x with withdrawn := some op })
      | none => s
    .next ((s.upDir (fun d => { d with cyc := d.cyc + 64 })).trapHere 71 (op.setWidth 24))
  | _ => .next s

/-- SPLICE_EVENT_OUT: Splice event output n rises (Table 1-4, Table 13-5). -/
def execSpliceEventOut (n : BitVec 3) (s : State) : Answer := .next (s.raiseIn (32 + n.toNat))

/-! ## The cue port (R260, R28) -/

/-- CUETIME: the cue time latch. -/
def execCuetime (snd rcv : BitVec 2) (s : State) : Answer :=
  .next (s.issue (Info.system 10 (snd != 3 || rcv != 0) true) (fun t =>
    .done (t.upCue (fun c => { c with latch := fld t.dir.y 0 16 ++ t.dir.x ++ t.dir.a }))))

/-- An entry is sent with a credit: an output of kind 0 (Table 11-1). -/
def State.sendCue (s : State) : State :=
  let e : CuePost := { time := s.cue.latch, a := s.dir.a, x := s.dir.x, y := s.dir.y, ch := s.chanInForce }
  (s.upCue (fun c => { c with credits := c.credits - 1 })).output 0
    (natBytes 8 e.time.toNat ++ natBytes 3 e.a.toNat ++ natBytes 3 e.x.toNat ++ natBytes 3 e.y.toNat ++
      natBytes 3 e.ch.toNat) (.cue e)

/-- CUEPOST. -/
def execCuepost (snd rcv : BitVec 2) (s : State) : Answer :=
  .next (s.issue (Info.system 10 (snd != 3 || rcv != 0) true) (fun t =>
    if t.cue.credits = 0 then .hold (.cuepost snd rcv) t else .done t.sendCue))

/-- CUEPOST_RESUME: a credit has returned (R28). -/
def execCuepostResume (s : State) : Answer :=
  match s.dir.hold with
  | .cuepost _ _ => .next (if s.cue.credits = 0 then s else s.sendCue.release 10)
  | _ => .next s

end Sys2Proof.Machine
end

