-- ==== Sys2Proof/Machine/Crew.lean ====
section
/-!
DEFINITION. What crew frames do on this device (R285 to R309): messages and their windows, halo strips, reductions, crew
time, SEV; route epochs; the crew opcodes; and SEV with SPLICE_OPCODE, which lead to them.
-/

namespace Sys2Proof.Machine

/-! ## Messages (R285, R294) -/

/-- The window after a message, or none when it is a duplicate (R285). -/
def msgWindow (w : Option MsgWin) (inc : BitVec 8) (no : BitVec 16) : Option MsgWin :=
  let fresh : MsgWin := { inc := inc, high := no, marks := 1 }
  match w with
  | none => some fresh
  | some w =>
    if w.inc ≠ inc then some fresh
    else
      let d := (no - w.high).toNat
      let back := (w.high - no).toNat
      if 1 ≤ d ∧ d ≤ 32767 then some { w with high := no, marks := (w.marks <<< d) ||| 1 }
      else if (d = 0 ∨ 65473 ≤ d) ∧ !w.marks.getLsbD back then some { w with marks := setBit w.marks back true }
      else none

/-- The link credit of a frame returns, if it holds any: a message that this device sent to itself came over no link. -/
def State.returnLink (p : BitVec 4) (f : Frame) (link : Bool) (s : State) : State := if link then s.returnCredit p f else s

/-- A delivered message takes a free receive slot of the port, or waits for one; the event line of the port. -/
def State.placeMsg (p : BitVec 4) (f : Frame) (link : Bool) (s : State) : State :=
  match (List.range 32).find? (fun k => (Tab.get none (s.port p).recv k).isNone) with
  | some k =>
    ((s.upPort p (fun q => { q with recv := Tab.set none q.recv k (some f) })).returnLink p f link).raise (16 + p.toNat)
  | none => s.upPort p (fun q => { q with rxWait := q.rxWait ++ [(f, link)] })

/-- A message for this device (R285). -/
def State.takeMsg (p : BitVec 4) (f : Frame) (link : Bool) (s : State) : State :=
  match msgWindow (Tab.get none s.crew.wins f.src.toNat) (fld f.tsf 26 8) f.msgno with
  | some w => (s.upCrew (fun c => { c with wins := Tab.set none c.wins f.src.toNat (some w) })).placeMsg p f link
  | none => (s.crewCount p 6 1).returnLink p f link

/-- The runtime frees a receive slot: a waiting message takes it; with a slot free, the MSG credit kept back returns (R294). -/
def State.freeRecv (p : BitVec 4) (k : Nat) (s : State) : State :=
  let s := s.upPort p (fun q => { q with recv := Tab.set none q.recv k none })
  let s := match (s.port p).rxWait with
    | [] => s
    | x :: xs => (s.upPort p (fun q => { q with rxWait := xs })).placeMsg p x.1 x.2
  if (s.port p).full then s
  else
    (s.port p).owed.foldl (fun s e => s.grantCells p e.1 e.2) (s.upPort p (fun q => { q with owed := [] }))

/-! ## Halo strips (R297 to R300) -/

/-- The enabled edge that a port serves. -/
def Crew.edgeOf (c : Crew) (p : BitVec 4) : Option Nat :=
  (List.range 4).find? (fun e => c.hxmap.getLsbD (8 * e + 7) && fld c.hxmap (8 * e) 4 == p)

/-- A part of a strip, written into a slot: position k beyond the edge takes the line at distance k - 1 (R297). -/
def Halo.putPart (h : Halo) (flip : Bool) (part : Nat) (f : Frame) : Halo :=
  { h with data := (List.range 128).foldl (fun d i =>
      let c := 128 * part + i
      let c' := if flip then 511 - c else c
      (List.range 32).foldl (fun d k => setBit d (512 * k + c') ((f.word i).getLsbD k)) d) h.data }

/-- A HALO frame writes its part; the fourth part completes the send (R297, R299). -/
def State.takeHalo (p : BitVec 4) (f : Frame) (s : State) : State :=
  match s.crew.edgeOf p with
  | none => s.crewCount p 7 1
  | some e =>
    if !s.ready 11 then s.crewCount p 7 1
    else
      let k := 8 * e + (fld f.tsf 31 3).toNat
      let part := (fld f.tsf 29 2).toNat
      let num : BitVec 16 := fld f.tsf 13 16
      let flip := s.crew.hxmap.getLsbD (8 * e + 6)
      let s := s.upArr (fun a => { a with halo := Tab.upd Halo.empty a.halo k (fun h => h.putPart flip part f) })
      let old := Tab.get (0, 0) s.crew.hxParts k
      let parts : BitVec 4 := setBit (if old.1 = num then old.2 else 0) part true
      if parts = 0xF then
        ((s.upCrew (fun c => { c with hxParts := Tab.set (0, 0) c.hxParts k (0, 0), hxDone := setBit c.hxDone k true })).upArr
          (fun a => { a with halo := Tab.upd Halo.empty a.halo k (fun h => { h with dead := false }) })).raise (16 + p.toNat)
      else s.upCrew (fun c => { c with hxParts := Tab.set (0, 0) c.hxParts k (num, parts) })

/-- Index of the PE at distance d inward from edge e and position c along it. -/
def stripPe (e d c : Nat) : Nat :=
  match e with
  | 0 => 512 * d + c
  | 1 => 512 * c + (511 - d)
  | 2 => 512 * (511 - d) + c
  | _ => 512 * c + d

/-- The frame of part j of a send (R297). -/
def State.stripFrame (h : HxSend) (p : Plane) (num : BitVec 16) (j : Nat) (s : State) : Frame :=
  let word (i : Nat) : BitVec 32 :=
    BitVec.ofNat 32 ((List.range 32).foldl (fun v k =>
      v + (if p.getLsbD (stripPe h.edge.toNat k (128 * j + i)) then 2 ^ k else 0)) 0)
  s.mkFrame 2 2 0 (h.slot ++ BitVec.ofNat 2 j ++ num ++ 0#13) ((List.range 128).map word)

/-- The sequence point of a send has been reached: every earlier entry has ended or been parked (R298). -/
def Seq.pastPoint (q : Seq) (serial : Nat) : Bool :=
  !q.queue.any (fun e => decide (e.order < serial)) &&
    (match q.run with | some r => decide (serial ≤ r.e.order) | none => true)

/-- HALO_STRIP_READ: the strip of the oldest send of an edge is read and sent (R298); when a later entry has started meanwhile, as it
stood before that. -/
def execHaloStripRead (edge : BitVec 2) (s : State) : Answer :=
  match s.crew.sends.find? (fun h => h.edge == edge) with
  | none => .next s
  | some h =>
    if !s.seq.pastPoint h.serial then .next s
    else
      let e := edge.toNat
      let s := if h.snap.isSome then s else s.arrayReads 0 [(h.plane.toNat, stripPes e)]
      let plane := h.snap.getD (s.arr.plane h.plane.toNat)
      let num := Tab.get 0 s.crew.hxNum e
      let s := s.upCrew (fun c => { c with sends := c.sends.erase h, hxNum := Tab.set 0 c.hxNum e (num + 1) })
      let p : BitVec 4 := fld s.crew.hxmap (8 * e) 4
      .next ((List.range 4).foldl (fun s j => s.sendFrame p (s.stripFrame h plane num j) none) s)

/-! ## Reductions (R302 to R306) -/

/-- Group g. -/
def State.group (g : BitVec 4) (s : State) : Group := Tab.get Group.reset s.crew.groups g.toNat

/-- Update group g. -/
def State.upGroup (g : BitVec 4) (f : Group → Group) (s : State) : State :=
  s.upCrew (fun c => { c with groups := Tab.upd Group.reset c.groups g.toNat f })

/-- CR_GRP of group g. -/
def State.grpReg (g : BitVec 4) (s : State) : BitVec 32 := Tab.get 0 s.crew.grp g.toNat

/-- Child ports of a group. -/
def grpChildren (w : BitVec 32) : List (BitVec 4) :=
  (List.range 16).filterMap (fun n => if w.getLsbD n then some (BitVec.ofNat 4 n) else none)

/-- The payload word of a reduction frame (Table 10-5). -/
def Red.word (r : Red) : BitVec 32 := bit1 r.or ++ bit1 r.fail ++ (0#3) ++ r.count

/-- Values of a reduction frame. -/
def redOf (f : Frame) : Red :=
  let w := f.payload.getD 0 0
  { or := w.getLsbD 31, fail := w.getLsbD 30, count := fld w 0 27 }

/-- A RED_UP (3) or RED_DN (4) frame. -/
def State.redFrame (type : BitVec 4) (g : BitVec 4) (round : BitVec 16) (r : Red) (s : State) : Frame :=
  s.mkFrame type 3 0 (g ++ round ++ 0#14) [r.word]

/-- RED_DN to every child port. -/
def State.redDown (g : BitVec 4) (round : BitVec 16) (r : Red) (s : State) : State :=
  (grpChildren (s.grpReg g)).foldl (fun s p => s.sendFrame p (s.redFrame 4 g round r) none) s

/-- A write to CR_GRP that waited takes effect. -/
def State.applyGrp (g : BitVec 4) (s : State) : State :=
  match Tab.get none s.crew.grpNext g.toNat with
  | some (v, _) =>
    s.upCrew (fun c => { c with grp := Tab.set 0 c.grp g.toNat v, grpNext := Tab.set none c.grpNext g.toNat none })
  | none => s

/-- A round completes on this member with the final values (R304, R306). -/
def State.finishRound (g : BitVec 4) (r : Red) (s : State) : State :=
  let w := s.grpReg g
  let inj := (s.group g).failNext
  let round := (s.group g).round
  let s := s.upGroup g (fun x =>
    { x with res := some (x.round, r), own := none, sent := false, since := 0, failNext := false,
             kids := x.kids.filter (fun k => k.2.1 != x.round) })
  let s := if r.fail then s.occur 37 0 ((round ++ g : BitVec 20).setWidth 64) inj else s
  (s.raise (16 + (fld w 22 4).toNat)).applyGrp g

/-- A member combines once its contribution and every child's RED_UP of the round are in hand (R304). -/
def State.combine (g : BitVec 4) (s : State) : State :=
  let x := s.group g
  let w := s.grpReg g
  match x.own with
  | none => s
  | some own =>
    let kid (p : BitVec 4) : Option Red := (x.kids.find? (fun k => k.1 == p && k.2.1 == x.round)).map (·.2.2)
    let reds := (grpChildren w).map kid
    if x.sent || reds.any Option.isNone then s
    else
      let r := reds.foldl (fun a k =>
        match k with
        | some b => { or := a.or || b.or, fail := a.fail || b.fail, count := a.count + b.count }
        | none => a) own
      if w.getLsbD 30 then (s.redDown g x.round r).finishRound g r
      else (s.upGroup g (fun x => { x with sent := true })).sendFrame (fld w 26 4) (s.redFrame 3 g x.round r) none

/-- A RED_UP frame. -/
def State.takeRedUp (p : BitVec 4) (f : Frame) (s : State) : State :=
  let g : BitVec 4 := fld f.tsf 30 4
  let round : BitVec 16 := fld f.tsf 14 16
  let x := s.group g
  if round = x.round ∨ round = x.round + 1 then
    (s.upGroup g (fun x => { x with kids := x.kids ++ [(p, round, (redOf f))] })).combine g
  else s.crewCount p 8 1

/-- A RED_DN frame from the parent.  It is passed on in any case; a round that has timed out here keeps its result, and the values
of a round not yet armed here wait for the CRARM (R304). -/
def State.takeRedDn (p : BitVec 4) (f : Frame) (s : State) : State :=
  let g : BitVec 4 := fld f.tsf 30 4
  let round : BitVec 16 := fld f.tsf 14 16
  let x := s.group g
  let w := s.grpReg g
  if w.getLsbD 30 ∨ p ≠ fld w 26 4 then s.crewCount p 8 1
  else if round = x.round then
    let t := s.redDown g round (redOf f)
    if x.since = 0 then t else t.finishRound g (redOf f)
  else if round = x.round + 1 then
    (s.upGroup g (fun x => { x with early := some (round, redOf f) })).redDown g round (redOf f)
  else s.crewCount p 8 1

/-- The micro-PCs that can still issue from those of `todo` on, those of `seen` apart. -/
def Seq.comeFrom (q : Seq) : Nat → List Nat → List Nat → List Nat
  | 0, _, seen => seen
  | _ + 1, [], seen => seen
  | n + 1, u :: todo, seen =>
    if seen.contains u then q.comeFrom n todo seen
    else
      let w : MicroW := Tab.get 0 q.cs u
      let next := match w.seq with
        | 1 => [w.tgt.toNat]
        | 2 => [w.tgt.toNat, u + 1]
        | 3 => [w.tgt.toNat, u + 1]
        | 5 => []
        | _ => [u + 1]
      q.comeFrom n (next ++ todo) (u :: seen)

/-- No microword that can still issue in the run samples a tree that `tree` names. -/
def Seq.sampledOut (q : Seq) (r : Run) (tree : BitVec 2) : Bool :=
  r.ended || (!q.isRom r.e.idx &&
    !(q.comeFrom 20000 [r.upc.toNat] []).any (fun u =>
      let w : MicroW := Tab.get 0 q.cs u
      (tree.getLsbD 0 && w.tree.testBit 0) || (tree.getLsbD 1 && w.tree.testBit 1)))

/-- The contribution of entry n is readable: the last sampling of the named trees has been made, and its results are there under
R51.  An entry that was parked contributes when it has ended (R303). -/
def State.contributes (x : Group) (tree : BitVec 2) (n : Nat) (s : State) : Bool :=
  let waits := s.seq.queue.any (fun e => e.serial == n) || s.seq.park.any (fun l => l.any (fun e => e.serial == n))
  let runs := match s.seq.run with
    | some r => r.e.serial == n && (r.sw.isSome || r.e.order != n || !s.seq.sampledOut r tree)
    | none => false
  !waits && !runs && (!tree.getLsbD 0 || decide (x.readyOr ≤ s.seq.cyc)) && (!tree.getLsbD 1 || decide (x.readyTally ≤ s.seq.cyc))

/-- CREW_CONTRIBUTION: the samples of the entry that CRARM waits for are readable (R303). -/
def execCrewContribution (g : BitVec 4) (s : State) : Answer :=
  let x := s.group g
  match x.armed, x.entry with
  | some (tree, _, _), some n =>
    if !s.contributes x tree n then .next s
    else
      -- a tally sample also gives the OR of its samples (log entry 14)
      let or_ := if tree.getLsbD 0 then x.lastOr else decide (x.lastTally ≠ 0)
      let own : Red := { or := or_, fail := x.failNext, count := if tree.getLsbD 1 then x.lastTally else 0 }
      let s := s.upGroup g (fun x => { x with armed := none, entry := none, own := if x.since = 0 then none else some own })
      .next (s.combine g)
  | _, _ => .next s

/-- TMO of a group in ns. -/
def State.grpTmo (g : BitVec 4) (s : State) : Nat := 10000 * (fld (s.grpReg g) 16 6).toNat

/-- A round ends by its timeout: it completes here with FAIL; a member that has not answered sends RED_UP with FAIL, the root RED_DN
(R306).  OR and COUNT of such a round are v. -/
def State.timeoutRound (g : BitVec 4) (v : BitVec 28) (s : State) : State :=
  let x := s.group g
  if x.since = 0 then s
  else
    let r : Red := { or := v.getLsbD 27, fail := true, count := fld v 0 27 }
    let w := s.grpReg g
    let s := if w.getLsbD 30 then s.redDown g x.round r
      else if x.sent then s else s.sendFrame (fld w 26 4) (s.redFrame 3 g x.round r) none
    s.finishRound g r

/-- CREW_ROUND_TIMEOUT: TMO has passed since the CRARM (R306).  OR and COUNT of such a round are not stated: free values.  In
Double mode the event line makes it an ordered input (R314). -/
def execCrewRoundTimeout (g : BitVec 4) (s : State) : Answer :=
  let x := s.group g
  if x.since = 0 ∨ s.now + 1 < x.since + s.grpTmo g then .next s
  else if !s.paired then .next (s.took.timeoutRound g (s.freeVal 28))
  else if s.isLead ∧ !s.pair.orders.any (fun o => match o.input with | .roundTimeout h _ => h == g | _ => false) then
    .next (s.took.orderInput (.roundTimeout g (s.freeVal 28)))
  else .next s

/-- A value for CR_GRP: TMO 0 is a reserved encoding and leaves TMO (R11). -/
def grpValue (old v : BitVec 32) : BitVec 32 := if fld v 16 6 = 0 then putFld v 16 (fld old 16 6) else v

/-- A write of CR_GRP: at once, or, for an enabled group with a round in progress, once the round ends and at the latest
after TMO (R302). -/
def State.writeGrp (g : BitVec 4) (v : BitVec 32) (s : State) : State :=
  let old := s.grpReg g
  let v := grpValue old v
  if old.msb && decide ((s.group g).since ≠ 0) then
    s.upCrew (fun c => { c with grpNext := Tab.set none c.grpNext g.toNat (some (v, s.now)) })
  else s.upCrew (fun c => { c with grp := Tab.set 0 c.grp g.toNat v })

/-- Writes to CR_GRP that have waited for TMO take effect (R302). -/
def State.grpTick (s : State) : State :=
  s.crew.grpNext.foldl (fun s e =>
    let g := BitVec.ofNat 4 e.1
    match e.2 with
    | some (_, t) => if t + s.grpTmo g ≤ s.now then s.applyGrp g else s
    | none => s) s

/-- CR_GRP_WRITE (R302). -/
def execCrGrpWrite (g : BitVec 4) (value : BitVec 32) (s : State) : Answer :=
  let t := s.writeGrp g value
  if !s.ready 6 then .next s
  else .next (if fld value 16 6 = 0 then t.regRsvd 0 (0xC0200 + 8 * g.toNat) 0 else t)

/-! ## Delivery on this device -/

/-- What a received frame of the types that reach the Director or the array does here. -/
def State.crewDeliver (p : BitVec 4) (f : Frame) (s : State) : State :=
  match f.type.toNat with
  | 1 => s.takeMsg p f (!s.paired || s.isLead)
  | 2 => s.takeHalo p f
  | 3 => s.takeRedUp p f
  | 4 => s.takeRedDn p f
  | 6 => s.raise (16 + p.toNat)
  | _ => s

/-- Such a frame is an ordered input of a pair's lead (R314). -/
def State.crewTake (p : BitVec 4) (f : Frame) (s : State) : State :=
  if s.paired then (if s.isLead then s.orderInput (.crewFrame p f) else s) else s.crewDeliver p f

/-- A frame comes off the link of a port; the row that names its type takes it, and each of them a frame that the link layer
discards for its CRC or a reserved TYPE, which names no row. -/
def State.arrive (type : BitVec 4) (p : BitVec 4) (w : Wire) (act : Frame → State → State) (s : State) : Answer :=
  let f := w.frame
  if (f.crcOk ∧ !f.oddType (p == 15 && s.double) ∧ f.type ≠ type) ∨ !((s.port p).up && s.carriesType p type) then .next s
  else
    let r := s.linkReceive p f w.inside
    .next (if r.2 then act f r.1 else r.1)

/-- CREW_MSG_FRAME: delivered here, forwarded, or discarded (R286, R290). -/
def execCrewMsgFrame (p : BitVec 4) (w : Wire) (s : State) : Answer :=
  s.arrive 1 p w (fun f s =>
    if !s.crew.addr.msb then (s.crewCount p 3 1).returnCredit p f
    else if f.dst = fld s.crew.addr 0 8 then s.crewTake p f
    else (s.forward p f none).returnCredit p f)

/-- HALO_FRAME. -/
def execHaloFrame (p : BitVec 4) (w : Wire) (s : State) : Answer :=
  s.arrive 2 p w (fun f s => (s.crewTake p f).returnCredit p f)

/-- RED_UP_FRAME. -/
def execRedUpFrame (p : BitVec 4) (w : Wire) (s : State) : Answer :=
  s.arrive 3 p w (fun f s => (s.crewTake p f).returnCredit p f)

/-- RED_DN_FRAME. -/
def execRedDnFrame (p : BitVec 4) (w : Wire) (s : State) : Answer :=
  s.arrive 4 p w (fun f s => (s.crewTake p f).returnCredit p f)

/-- CREW_SEV_FRAME: the event line of the receiving port (R309). -/
def execCrewSevFrame (p : BitVec 4) (w : Wire) (s : State) : Answer :=
  s.arrive 6 p w (fun f s => (s.crewTake p f).returnCredit p f)

/-! ## Crew time (R307, R308) -/

/-- SYNC falls: detector CREW_TSYNC_LOST. -/
def State.loseSync (inj : Bool) (s : State) : State :=
  let was := s.crew.sync
  let s := s.upCrew (fun c => { c with sync := false, tgood := 0 })
  if was || inj then s.occur 36 0 ((s.crew.toffset ++ s.crew.tparent : BitVec 20).setWidth 64) inj else s

/-- This device follows crew time (TB_CTL.SRC = CREW). -/
def State.followsCrew (s : State) : Bool := fld s.cue.ctl 30 2 == 2

/-- A TIME frame of the parent, with the parent's time at the moment it came: the filter takes in how far that lies ahead of the own
time (R307, R308).  The parent's own depth and SYNC are not carried: free values, and its filter is not stated (log entry 15); in a
joining or paired mate the depth is one (R312).  SYNC after 16 frames within 0.25 ns. -/
def State.takeTime (p : BitVec 4) (f : Frame) (s : State) : State :=
  let v := s.freeVal 5
  let s := s.took
  let sent : Nat := (f.word 0).toNat + 4294967296 * (f.word 1).toNat
  let off := Config.timeFilter s.crew.toffset ((sent : Int) + (s.port p).delay - s.tbNow.toNat)
  let depth : BitVec 4 := if s.double then 1 else fld v 0 4
  let near := decide (off.toInt ≤ 2) && decide (-2 ≤ off.toInt)
  let good := if near then s.crew.tgood + 1 else 0
  let sync := decide (16 ≤ good) && v.getLsbD 4
  let was := s.crew.sync
  let s := s.upCrew (fun c => { c with toffset := off, tdepth := depth, tgood := good, tlost := 0, sync := sync })
  if was && !sync then (s.upCrew (fun c => { c with sync := true })).loseSync false else s

/-- This device takes its time over port p: from its parent in the time tree, and a joining or paired mate from the lead (R307, R312). -/
def State.timeParent (p : BitVec 4) (s : State) : Bool :=
  if s.double then p == 15 && !s.isLead else s.followsCrew && p == s.crew.tparent && !s.crew.tmaster

/-- TIME_FRAME (R307, R308). -/
def execTimeFrame (p : BitVec 4) (w : Wire) (s : State) : Answer :=
  s.arrive 5 p w (fun f s =>
    let s := s.returnCredit p f
    if s.armedFor 36 (fun u _ => u == p.toNat) then (s.fired.upCrew (fun c => { c with tlost := 16 })).loseSync true
    else if s.timeParent p then s.takeTime p f
    else s)

/-- CREW_SYNC_CLEAR: 16 consecutive TIME frames are lost (R308). -/
def execCrewSyncClear (s : State) : Answer :=
  .next (if (List.range 16).any (fun n => s.timeParent (BitVec.ofNat 4 n)) then
      (s.upCrew (fun c => { c with tlost := 16 })).loseSync false
    else s)

/-- An action that comes every n ns, last done at `last` (plus 1; 0 never), is due. -/
def State.everyDue (n last : Nat) (s : State) : Bool := last == 0 || decide (last - 1 + n ≤ s.now)

/-- TIME_FRAME_SEND: every 1 us the timebase goes to each port with a child in the time tree.  Which ports those are no rule states:
a free value among the ports that are up, the parent's left out; the lead of a pair sends to its mate (R312). -/
def execTimeFrameSend (s : State) : Answer :=
  if !s.everyDue 1000 s.crew.timeSent then .next s
  else
    let m : BitVec 16 := s.freeVal 16
    let t := s.tbNow
    let send (s : State) (n : Nat) : State :=
      let p := BitVec.ofNat 4 n
      let child := if n = 15 ∧ s.double then s.isLead else m.getLsbD n && (s.crew.tmaster || p != s.crew.tparent)
      if child && (s.port p).up && s.carriesType p 5 then s.inject p (s.mkFrame 5 3 0 0 [fld t 0 32, fld t 32 32]) none else s
    .next ((List.range 16).foldl send (s.took.upCrew (fun c => { c with timeSent := s.now + 1 })))

/-- DELAY_MEASURE: every 64 us the child sends a delay request to its parent (R307). -/
def execDelayMeasure (s : State) : Answer :=
  .next (if s.everyDue 64000 s.crew.delayAt then
      (List.range 16).foldl (fun t n =>
        let p := BitVec.ofNat 4 n
        if t.timeParent p && (t.port p).up && t.carriesType p 5 then
          ((t.upCrew (fun c => { c with delayAt := t.now + 1 })).upPort p (fun q => { q with delaySent := t.now + 1 })).emit
            (.crewCell p 3 0)
        else t) s
    else s)

/-- DELAY_REQUEST: answered in the instant of its receipt, so the time that the answer gives for its stay here is 0 (log entry 46). -/
def execDelayRequest (p : BitVec 4) (crcOk : Bool) (s : State) : Answer :=
  .next (if crcOk && (s.port p).up && s.carriesType p 5 then s.emit (.crewCell p 4 0) else s)

/-- DELAY_RESPONSE: half the round trip, less the time that the request stayed with the peer, is the link delay. -/
def execDelayResponse (p : BitVec 4) (peer : BitVec 64) (crcOk : Bool) (s : State) : Answer :=
  .next (if crcOk && (s.port p).delaySent != 0 then
      s.upPort p (fun q => { q with delay := (s.now + 1 - q.delaySent - peer.toNat) / 2, delaySent := 0 })
    else s)

/-! ## Send slots and route epochs (R293, R294) -/

/-- The frame of a send slot: SRC, EPOCH, TTL and CLASS are filled in, and INC for a MSG. -/
def State.slotFrame (f : Frame) (s : State) : Frame :=
  let cls : BitVec 2 := match f.type.toNat with
    | 2 => 2 | 3 => 3 | 4 => 3 | 5 => 3 | 6 => 3 | _ => 0
  let h := putFld (putFld (putFld (putFld f.hdr 120 s.crew.cur) 104 (fld s.crew.addr 0 8)) 96 (0xFF#8)) 78 cls
  { f with hdr := if f.type = 1 then putFld h 0 (s.crew.inc ++ 0#26) else h, crcOk := true }

/-- What the runtime has written into a send slot: a header and, as PLEN4 counts, a payload (R294). -/
def CrewPort.slotBytes (q : CrewPort) (slot : Nat) : List Byte := Tab.getList 0 q.sendBuf (1024 * slot) 528

/-- GO of a send slot: the frame is completed and takes its way (R290, R294). -/
def State.sendGo (p : BitVec 4) (slot : BitVec 5) (s : State) : State :=
  if Tab.get 0 (s.port p).sendSt slot.toNat = 1 then s
  else
    let f := s.slotFrame (Frame.read ((s.port p).slotBytes slot.toNat))
    let k := some (p ++ slot)
    let s := s.report 1 k
    if f.type = 1 ∧ s.crew.addr.msb ∧ f.dst = fld s.crew.addr 0 8 then (s.report 2 k).takeMsg p f false
    else s.sendFrame p f k

/-- SEND_SLOT_GO. -/
def execSendSlotGo (p : BitVec 4) (slot : BitVec 5) (s : State) : Answer := .next (s.sendGo p slot)

/-- The control byte of a slot of a crew port (log entry 60): status of a send slot, 1 for a receive slot that holds a message. -/
def CrewPort.slotStatus (q : CrewPort) (recv : Bool) (k : Nat) : Byte :=
  if recv then (if (Tab.get none q.recv k).isSome then 1 else 0) else (Tab.get 0 q.sendSt k).setWidth 8

/-- Byte o of slot k of a crew port as the runtime reads it: 0 to 527 the frame, 576 the control byte. -/
def CrewPort.slotByte (q : CrewPort) (recv : Bool) (k o : Nat) : Byte :=
  if o = 576 then q.slotStatus recv k
  else if 528 ≤ o then 0
  else if recv then
    match Tab.get none q.recv k with
    | some f => f.bytes.getD o 0
    | none => 0
  else Tab.get 0 q.sendBuf (1024 * k + o)

/-- The runtime writes byte o of slot k: a byte of a send slot; GO, or the freeing of a receive slot, by bit 0 of the control byte. -/
def State.putSlotByte (p : BitVec 4) (recv : Bool) (k o : Nat) (v : Byte) (s : State) : State :=
  if o = 576 then
    if !v.getLsbD 0 then s
    else if recv then s.freeRecv p k
    else s.sendGo p (BitVec.ofNat 5 k)
  else if recv || decide (528 ≤ o) then s
  else s.upPort p (fun q => { q with sendBuf := Tab.set 0 q.sendBuf (1024 * k + o) v })

/-- A write of CREW_RTS loads the standby table (R293). -/
def State.writeCrewRts (d : BitVec 8) (v : BitVec 32) (s : State) : State :=
  if s.crew.oldlive then s
  else s.upCrew (fun c => { c with rts := Tab.set 0 c.rts d.toNat (fld v 0 8 &&& 0xCF), stby := true })

/-- SWAP (R293, R295). -/
def State.crewSwap (s : State) : State :=
  if s.crew.stby && !s.crew.oldlive then
    let s := s.upCrew (fun c =>
      { c with cur := c.cur + 1, rtc := c.rts, rts := c.rtc, stby := false, oldlive := true, released := false })
    s.crewEvent 0 true
  else s

/-- RELEASE (R293). -/
def State.crewRelease (s : State) : State := s.upCrew (fun c => { c with released := c.oldlive || c.released })

/-- CREW_RTS_WRITE. -/
def execCrewRtsWrite (d : BitVec 8) (value : BitVec 32) (s : State) : Answer :=
  .next (if s.ready 6 then s.writeCrewRts d value else s)

/-- CREW_EPOCH_SWAP. -/
def execCrewEpochSwap (s : State) : Answer := .next (if s.ready 6 then s.crewSwap else s)

/-- CREW_EPOCH_RELEASE. -/
def execCrewEpochRelease (s : State) : Answer := .next (if s.ready 6 then s.crewRelease else s)

/-- CREW_OLDLIVE_CLEAR: RELEASE is written and no frame of the old epoch remains in a port queue or on its way between ports (R293). -/
def execCrewOldliveClear (s : State) : Answer :=
  let old := s.crew.cur - 1
  let busy := s.crew.transit.any (fun x => x.epoch == old) ||
    (List.range 16).any (fun n => (s.port (BitVec.ofNat 4 n)).txq.any (fun x => x.1.epoch == old))
  .next (if s.crew.oldlive && s.crew.released && !busy then
      s.upCrew (fun c => { c with oldlive := false, released := false })
    else s)

/-! ## The crew opcodes (Table 10-9) -/

/-- The answer of HXSEND before it is queued; 0 means queued. -/
def State.hxAnswer (s : State) : Word :=
  let e := (fld s.dir.a 0 2).toNat
  let p : BitVec 4 := fld s.crew.hxmap (8 * e) 4
  if !s.crew.hxmap.getLsbD (8 * e + 7) then 1
  else if !(s.chPlane (fld s.dir.x 0 12)).2 then 2
  else if 8 ≤ (s.crew.sends.filter (fun h => h.edge.toNat == e)).length then 3
  else if !(s.port p).up then 4
  else 0

/-- HXSEND. -/
def execHxsend (snd rcv : BitVec 2) (s : State) : Answer :=
  .next (s.issue (Info.system 10 (snd != 2 || rcv != 1) true) (fun t =>
    let r := t.hxAnswer
    let h : HxSend := { edge := fld t.dir.a 0 2, slot := fld t.dir.a 2 3, plane := (t.chPlane (fld t.dir.x 0 12)).1,
                        serial := t.seq.serial, snap := none }
    let t := if r = 0 then t.upCrew (fun c => { c with sends := c.sends ++ [h] }) else t
    .done (t.upDir (fun d => { d with a := r }))))

/-- HXDONE. -/
def execHxdone (snd rcv : BitVec 2) (s : State) : Answer :=
  .next (s.issue (Info.system 10 (snd != 0 || rcv != 2) true) (fun t =>
    let v := t.crew.hxDone
    .done ((t.upDir (fun d => { d with a := fld v 0 24, ph := (fld v 24 8).setWidth 24 })).upCrew
      (fun c => { c with hxDone := 0 }))))

/-- CRARM: refused when the group is not enabled, an arm of it waits, or TREE is the reserved code. -/
def execCrarm (snd rcv : BitVec 2) (s : State) : Answer :=
  .next (s.issue (Info.system 10 (snd != 1 || rcv != 1) true) (fun t =>
    let g : BitVec 4 := fld t.dir.a 0 4
    let tree : BitVec 2 := fld t.dir.a 4 2
    let x := t.group g
    if !(t.grpReg g).msb || x.armed.isSome || tree == 0 then
      .done (t.upDir (fun d => { d with a := 0x800000 ||| x.round.setWidth 24 }))
    else
      let inj := t.armedFor 37 (fun u _ => u == g.toNat)
      let t := if inj then t.fired else t
      let t := t.upGroup g (fun x =>
        { x with round := x.round + 1, armed := some (tree, t.chanInForce, t.seq.serial), entry := none, lastOr := false,
                 lastTally := 0, readyOr := 0, readyTally := 0, own := none, early := none, sent := false,
                 since := t.now + 1, failNext := inj })
      let t := match x.early with
        | some (round, r) => if round = x.round + 1 then t.finishRound g r else t
        | none => t
      .done (t.upDir (fun d => { d with a := (x.round + 1).setWidth 24 }))))

/-- CRREAD. -/
def execCrread (snd rcv : BitVec 2) (s : State) : Answer :=
  .next (s.issue (Info.system 10 (snd != 1 || rcv != 2) true) (fun t =>
    let a : Word := match (t.group (fld t.dir.a 0 4)).res with
      | some (_, r) => fld r.count 0 24
      | none => 0
    let ph : Word := match (t.group (fld t.dir.a 0 4)).res with
      | some (round, r) => round ++ (0#2) ++ bit1 r.fail ++ (1#1) ++ bit1 r.or ++ fld r.count 24 3
      | none => 0
    .done (t.upDir (fun d => { d with a := a, ph := ph }))))

/-! ## SEV and the opcode block -/

/-- SEV (R159): a Splice event input, or a crew SEV on a port. -/
def execSev (f : BitVec 6) (s : State) : Answer :=
  .next (s.issue (Info.system 1 (if f.msb then f.getLsbD 4 else fld f 3 2 != 0) false) (fun t =>
    if f.msb then
      let p : BitVec 4 := fld f 0 4
      .done (t.sendFrame p (t.mkFrame 6 3 0 0 []) none)
    else
      .done ((t.upSpl (fun x => { x with sevIn := setBit x.sevIn (fld f 0 3).toNat true })).emit (.spliceEvent (fld f 0 3)))))

/-- SPLICE_OPCODE: a word of group 0xE; the crew unit and the cue port answer their own opcodes (R150, R296, R369). -/
def execSpliceOpcode (op : BitVec 6) (snd rcv : BitVec 2) (s : State) : Answer :=
  match op.toNat with
  | 0x38 => execHxsend snd rcv s
  | 0x39 => execHxdone snd rcv s
  | 0x3A => execCrarm snd rcv s
  | 0x3B => execCrread snd rcv s
  | 0x3E => execCuetime snd rcv s
  | 0x3F => execCuepost snd rcv s
  | _ => s.requestOpcode op snd rcv

end Sys2Proof.Machine
end

