-- ==== Sys2Proof/Machine/DirAlu.lean ====
section
/-!
DEFINITION. Groups 0x5, 0x6, 0x7 and 0xB: register ALU and moves, immediate ALU, compares, decimal and divide
(R137 to R139, R144, R165 to R168).
-/

namespace Sys2Proof.Machine

/-- A group 0x5 or 0x7 instruction of one cycle on the Director's registers. -/
def State.alu (f : Dir → Dir) (s : State) : Answer := .next (s.issue (Info.plain 1) (regs f))

/-- A group 0x6 instruction: its immediate takes the literal of an EXT pair (R138). -/
def State.aluImm (signed : Bool) (imm : BitVec 7) (f : Word → Dir → Dir) (s : State) : Answer :=
  .next (s.issue { Info.plain 1 with ext := true } (fun t => regs (f (imm7 s.literal signed imm)) t))

/-- A := A + b + cin; C, V. -/
def Dir.addA (b : Word) (cin : Bool) (d : Dir) : Dir :=
  let r := addC d.a b cin
  { d with a := r.val, c := r.c, v := r.v }

/-- A := A - b - bin; C, V. -/
def Dir.subA (b : Word) (bin : Bool) (d : Dir) : Dir :=
  let r := subC d.a b bin
  { d with a := r.val, c := r.c, v := r.v }

/-- MUL and MULU by the state of the Director (R165, R166): PH : A, or the maintenance pipeline. -/
def State.multiply (signed : Bool) (b : Word) (s : State) : State :=
  let p := mul48 signed s.dir.a b
  if s.sys.normal then s.upDir (fun d => { d with a := fld p 0 24, ph := fld p 24 24 })
  else s.upSys (fun y => { y with mpipe := y.mpipe ++ [(p, s.dir.cyc + 3)] })

/-- ADD: A := A + G; C, V (Table 5-9a). -/
def execAdd (g : BitVec 3) (s : State) : Answer :=
  s.alu (fun d => d.addA (d.g g) false)

/-- ADC: A := A + G + C. -/
def execAdc (g : BitVec 3) (s : State) : Answer :=
  s.alu (fun d => d.addA (d.g g) d.c)

/-- SUB: A := A - G. -/
def execSub (g : BitVec 3) (s : State) : Answer :=
  s.alu (fun d => d.subA (d.g g) false)

/-- SBC: A := A - G - C. -/
def execSbc (g : BitVec 3) (s : State) : Answer :=
  s.alu (fun d => d.subA (d.g g) d.c)

/-- AND. -/
def execAnd (g : BitVec 3) (s : State) : Answer :=
  s.alu (fun d => { d with a := d.a &&& d.g g })

/-- OR. -/
def execOr (g : BitVec 3) (s : State) : Answer :=
  s.alu (fun d => { d with a := d.a ||| d.g g })

/-- XOR. -/
def execXor (g : BitVec 3) (s : State) : Answer :=
  s.alu (fun d => { d with a := d.a ^^^ d.g g })

/-- ANDN: A AND NOT G. -/
def execAndn (g : BitVec 3) (s : State) : Answer :=
  s.alu (fun d => { d with a := d.a &&& ~~~ d.g g })

/-- MOVA: A := G. -/
def execMova (g : BitVec 3) (s : State) : Answer :=
  s.alu (fun d => { d with a := d.g g })

/-- MOVG: G := A. -/
def execMovg (g : BitVec 3) (s : State) : Answer :=
  s.alu (fun d => d.setG g d.a)

/-- MOVX: X := G. -/
def execMovx (g : BitVec 3) (s : State) : Answer :=
  s.alu (fun d => { d with x := d.g g })

/-- GETX: G := X. -/
def execGetx (g : BitVec 3) (s : State) : Answer :=
  s.alu (fun d => d.setG g d.x)

/-- MOVY: Y := G. -/
def execMovy (g : BitVec 3) (s : State) : Answer :=
  s.alu (fun d => { d with y := d.g g })

/-- GETY: G := Y. -/
def execGety (g : BitVec 3) (s : State) : Answer :=
  s.alu (fun d => d.setG g d.y)

/-- SHL: by G[4:0]. -/
def execShl (g : BitVec 3) (s : State) : Answer :=
  s.alu (fun d => { d with a := shl24 d.a (d.g g) })

/-- SHR. -/
def execShr (g : BitVec 3) (s : State) : Answer :=
  s.alu (fun d => { d with a := shr24 d.a (d.g g) })

/-- SAR. -/
def execSar (g : BitVec 3) (s : State) : Answer :=
  s.alu (fun d => { d with a := sar24 d.a (d.g g) })

/-- ROL. -/
def execRol (g : BitVec 3) (s : State) : Answer :=
  s.alu (fun d => { d with a := rol24 d.a (d.g g) })

/-- XCH: A and G exchanged. -/
def execXch (g : BitVec 3) (s : State) : Answer :=
  s.alu (fun d => { (d.setG g d.a) with a := d.g g })

/-- ADDX: X := X + G. -/
def execAddx (g : BitVec 3) (s : State) : Answer :=
  s.alu (fun d => { d with x := d.x + d.g g })

/-- ADDY: Y := Y + G. -/
def execAddy (g : BitVec 3) (s : State) : Answer :=
  s.alu (fun d => { d with y := d.y + d.g g })

/-- MUL: PH : A := A x G, signed (R165, R166). -/
def execMul (g : BitVec 3) (s : State) : Answer :=
  .next (s.issue (Info.plain 1) (fun t => .done (t.multiply true (t.dir.g g))))

/-- MULU: unsigned. -/
def execMulu (g : BitVec 3) (s : State) : Answer :=
  .next (s.issue (Info.plain 1) (fun t => .done (t.multiply false (t.dir.g g))))

/-- NEG: 0 - A; C, V (UNARY 0b000). -/
def execNeg (s : State) : Answer :=
  s.alu (fun d => { d with a := 0 } |>.subA d.a false)

/-- NOT. -/
def execNot (s : State) : Answer :=
  s.alu (fun d => { d with a := ~~~ d.a })

/-- CLZ: the leading zeros of A. -/
def execClz (s : State) : Answer :=
  s.alu (fun d => { d with a := clz24 d.a })

/-- POPC: the count of ones. -/
def execPopc (s : State) : Answer :=
  s.alu (fun d => { d with a := BitVec.ofNat 24 (ones d.a) })

/-- SEXT8. -/
def execSext8 (s : State) : Answer :=
  s.alu (fun d => { d with a := (fld d.a 0 8).signExtend 24 })

/-- SEXT16. -/
def execSext16 (s : State) : Answer :=
  s.alu (fun d => { d with a := (fld d.a 0 16).signExtend 24 })

/-- ZEXT8. -/
def execZext8 (s : State) : Answer :=
  s.alu (fun d => { d with a := (fld d.a 0 8).setWidth 24 })

/-- X := A (XFER 0b000). -/
def execXferAToX (s : State) : Answer :=
  s.alu (fun d => { d with x := d.a })

/-- A := X. -/
def execXferXToA (s : State) : Answer :=
  s.alu (fun d => { d with a := d.x })

/-- Y := A. -/
def execXferAToY (s : State) : Answer :=
  s.alu (fun d => { d with y := d.a })

/-- A := Y. -/
def execXferYToA (s : State) : Answer :=
  s.alu (fun d => { d with a := d.y })

/-- A := RC. -/
def execXferRcToA (s : State) : Answer :=
  s.alu (fun d => { d with a := d.rc })

/-- DP := A[7:0]. -/
def execXferAToDp (s : State) : Answer :=
  s.alu (fun d => { d with dp := fld d.a 0 8 })

/-- RC := A; in a repetition the value is held until the last one (R154). -/
def execXferAToRc (s : State) : Answer :=
  .next (s.issue (Info.plain 1) (fun t =>
    match t.sys.rep with
    | some r => .done (t.upSys (fun y => { y with rep := some { r with held := some t.dir.a } }))
    | none => .done (t.upDir (fun d => { d with rc := d.a }))))

/-- ADDI (Table 5-10). -/
def execAddi (imm : BitVec 7) (s : State) : Answer :=
  s.aluImm true imm (fun i d => d.addA i false)

/-- SUBI (Table 5-10). -/
def execSubi (imm : BitVec 7) (s : State) : Answer :=
  s.aluImm true imm (fun i d => d.subA i false)

/-- ANDI (Table 5-10). -/
def execAndi (imm : BitVec 7) (s : State) : Answer :=
  s.aluImm false imm (fun i d => { d with a := d.a &&& i })

/-- ORI (Table 5-10). -/
def execOri (imm : BitVec 7) (s : State) : Answer :=
  s.aluImm false imm (fun i d => { d with a := d.a ||| i })

/-- XORI (Table 5-10). -/
def execXori (imm : BitVec 7) (s : State) : Answer :=
  s.aluImm false imm (fun i d => { d with a := d.a ^^^ i })

/-- ADDXI (Table 5-10). -/
def execAddxi (imm : BitVec 7) (s : State) : Answer :=
  s.aluImm true imm (fun i d => { d with x := d.x + i })

/-- ADDYI (Table 5-10). -/
def execAddyi (imm : BitVec 7) (s : State) : Answer :=
  s.aluImm true imm (fun i d => { d with y := d.y + i })

/-- LDXI (Table 5-10). -/
def execLdxi (imm : BitVec 7) (s : State) : Answer :=
  s.aluImm true imm (fun i d => { d with x := i })

/-- A compare sets Gd to 1 when A cond Gs holds, to 0 otherwise (R139). -/
def Dir.compare (op : Nat) (gd gs : BitVec 3) (d : Dir) : Dir :=
  d.setG gd (if condCode op d.a (d.g gs) then 1 else 0)

/-- CEQ (Table 5-11). -/
def execCeq (gd gs : BitVec 3) (s : State) : Answer :=
  s.alu (Dir.compare 0 gd gs)

/-- CNE (Table 5-11). -/
def execCne (gd gs : BitVec 3) (s : State) : Answer :=
  s.alu (Dir.compare 1 gd gs)

/-- CLT (Table 5-11). -/
def execClt (gd gs : BitVec 3) (s : State) : Answer :=
  s.alu (Dir.compare 2 gd gs)

/-- CLE (Table 5-11). -/
def execCle (gd gs : BitVec 3) (s : State) : Answer :=
  s.alu (Dir.compare 3 gd gs)

/-- CGT (Table 5-11). -/
def execCgt (gd gs : BitVec 3) (s : State) : Answer :=
  s.alu (Dir.compare 4 gd gs)

/-- CGE (Table 5-11). -/
def execCge (gd gs : BitVec 3) (s : State) : Answer :=
  s.alu (Dir.compare 5 gd gs)

/-- CLTU (Table 5-11). -/
def execCltu (gd gs : BitVec 3) (s : State) : Answer :=
  s.alu (Dir.compare 6 gd gs)

/-- CLEU (Table 5-11). -/
def execCleu (gd gs : BitVec 3) (s : State) : Answer :=
  s.alu (Dir.compare 7 gd gs)

/-- CGTU (Table 5-11). -/
def execCgtu (gd gs : BitVec 3) (s : State) : Answer :=
  s.alu (Dir.compare 8 gd gs)

/-- CGEU (Table 5-11). -/
def execCgeu (gd gs : BitVec 3) (s : State) : Answer :=
  s.alu (Dir.compare 9 gd gs)

/-- CBS (Table 5-11). -/
def execCbs (gd gs : BitVec 3) (s : State) : Answer :=
  s.alu (Dir.compare 10 gd gs)

/-- CBC (Table 5-11). -/
def execCbc (gd gs : BitVec 3) (s : State) : Answer :=
  s.alu (Dir.compare 11 gd gs)

/-- DIVU and DIVS on A and G (R167): DVZ is sticky. -/
def Dir.divide (signed : Bool) (g : BitVec 3) (d : Dir) : Dir :=
  let r := div24 signed d.a (d.g g)
  { d with a := r.1, ph := r.2.1, dvz := d.dvz || r.2.2 }

/-- DADD and DSUB (R168): DV is sticky. -/
def Dir.decimal (sub : Bool) (g : BitVec 3) (d : Dir) : Dir :=
  let r := if sub then dsub24 d.a (d.g g) else dadd24 d.a (d.g g)
  { d with a := r.1, ph := r.2.1, dv := d.dv || r.2.2 }

/-- DADD (R168). -/
def execDadd (z g : BitVec 3) (s : State) : Answer :=
  .next (s.issue { Info.plain 1 with illegal := z != 0 } (regs (Dir.decimal false g)))

/-- DSUB (R168). -/
def execDsub (z g : BitVec 3) (s : State) : Answer :=
  .next (s.issue { Info.plain 1 with illegal := z != 0 } (regs (Dir.decimal true g)))

/-- DIVU: 14 Director cycles (R167). -/
def execDivu (z g : BitVec 3) (s : State) : Answer :=
  .next (s.issue { Info.plain 14 with illegal := z != 0 } (regs (Dir.divide false g)))

/-- DIVS (R167). -/
def execDivs (z g : BitVec 3) (s : State) : Answer :=
  .next (s.issue { Info.plain 14 with illegal := z != 0 } (regs (Dir.divide true g)))

end Sys2Proof.Machine
end

