-- ==== Sys2Proof/Machine/DirMem.lean ====
section
/-!
DEFINITION. Groups 0x1 to 0x4: direct and indexed loads and stores, load immediate, and the memory operations
(R128 to R136), with the load slot (R132).
-/

namespace Sys2Proof.Machine

/-- A load's value enters its slot: register 1 A, 2 X, 3 Y, written at the end of the next instruction (R132). -/
def State.delayLoad (reg : BitVec 2) (v : Word) (s : State) : State := s.upSys (fun y => { y with ld := some (reg, v) })

/-- What follows an access: a trap, or the rest of the instruction on the word read. -/
def Acc.andThen (a : Acc) (f : Word → State → State) : Res :=
  match a with
  | .ok v s => .done (f v s)
  | .trap vec t s => .trap s (vec.setWidth 8) t

/-- A direct access: its address under DP or EXT, ILLEGAL for a literal outside 8 bits (R128). -/
def State.direct (x : BitVec 10) (f : BitVec 18 → State → Res) (s : State) : Answer :=
  let a := directAddr s.dir s.literal x
  .next (s.issue { Info.plain 1 with ext := true, illegal := a.isNone } (fun t => f (a.getD 0) t))

/-- An indexed access: the word at the address before the modification, then the modification (R129, R130).  f gives
the access, and what follows it before the index register is modified. -/
def State.indexed (am : BitVec 4) (illegal : Bool) (acc : BitVec 18 → State → Acc) (f : Word → State → State)
    (s : State) : Answer :=
  match amode am with
  | none => .next (s.issue { Info.plain 1 with illegal := true } (fun t => .done t))
  | some (y, m) =>
    .next (s.issue { Info.plain 1 with illegal := illegal }
      (fun t => (acc (indexAddr t.dir y) t).andThen (fun v u => (f v u).upDir (modify y m))))

/-- The state stores register value v; nothing follows. -/
def State.indexedStore (am : BitVec 4) (reg : Dir → Word) (s : State) : Answer :=
  s.indexed am false (fun a t => t.store a (reg t.dir)) (fun _ u => u)

/-- A memory operation of group 0x4 on A. -/
def State.indexedOp (am : BitVec 4) (f : Word → State → State) (s : State) : Answer :=
  s.indexed am false (fun a t => t.load a) f

/-- LDX and LDY may not modify the register that they load (R131). -/
def ldModifies (y : Bool) (am : BitVec 4) : Bool :=
  match amode am with
  | some (y', m) => y == y' && decide (m ≠ .keep)
  | none => true

/-- LDA d (R135). -/
def execLdaDirect (x : BitVec 10) (s : State) : Answer :=
  s.direct x (fun a t => (t.load a).andThen (fun v u => u.delayLoad 1 v))

/-- STA d (R135). -/
def execStaDirect (x : BitVec 10) (s : State) : Answer :=
  s.direct x (fun a t => (t.store a t.dir.a).andThen (fun _ u => u))

/-- LDI (R135): not a load in the sense of R132. -/
def execLdi (imm : BitVec 10) (s : State) : Answer :=
  .next (s.issue { Info.plain 1 with ext := true } (regs (fun d => { d with a := imm10 s.literal imm })))

/-- LDA @ (Table 5-8). -/
def execLdaIndexed (am : BitVec 4) (s : State) : Answer :=
  s.indexed am false (fun a t => t.load a) (fun v u => u.delayLoad 1 v)

/-- STA @. -/
def execStaIndexed (am : BitVec 4) (s : State) : Answer :=
  s.indexedStore am Dir.a

/-- LDX @ (R131). -/
def execLdx (am : BitVec 4) (s : State) : Answer :=
  s.indexed am (ldModifies false am) (fun a t => t.load a) (fun v u => u.delayLoad 2 v)

/-- STX @: the value from before the modification (R131). -/
def execStx (am : BitVec 4) (s : State) : Answer :=
  s.indexedStore am Dir.x

/-- LDY @ (R131). -/
def execLdy (am : BitVec 4) (s : State) : Answer :=
  s.indexed am (ldModifies true am) (fun a t => t.load a) (fun v u => u.delayLoad 3 v)

/-- STY @. -/
def execSty (am : BitVec 4) (s : State) : Answer :=
  s.indexedStore am Dir.y

/-- ADD @: A := A + mem; C, V. -/
def execAddMem (am : BitVec 4) (s : State) : Answer :=
  s.indexedOp am (fun v u => u.upDir (Dir.addA v false))

/-- SUB @. -/
def execSubMem (am : BitVec 4) (s : State) : Answer :=
  s.indexedOp am (fun v u => u.upDir (Dir.subA v false))

/-- AND @. -/
def execAndMem (am : BitVec 4) (s : State) : Answer :=
  s.indexedOp am (fun v u => u.upDir (fun d => { d with a := d.a &&& v }))

/-- OR @. -/
def execOrMem (am : BitVec 4) (s : State) : Answer :=
  s.indexedOp am (fun v u => u.upDir (fun d => { d with a := d.a ||| v }))

/-- XOR @. -/
def execXorMem (am : BitVec 4) (s : State) : Answer :=
  s.indexedOp am (fun v u => u.upDir (fun d => { d with a := d.a ^^^ v }))

/-- MUL @: PH : A := A x mem, signed (R165, R166). -/
def execMulMem (am : BitVec 4) (s : State) : Answer :=
  s.indexedOp am (fun v u => u.multiply true v)

/-- MULU @. -/
def execMuluMem (am : BitVec 4) (s : State) : Answer :=
  s.indexedOp am (fun v u => u.multiply false v)

/-- LDG g @: seen by the next instruction (R132). -/
def execLdg (g : BitVec 3) (am : BitVec 4) (s : State) : Answer :=
  s.indexedOp am (fun v u => u.upDir (fun d => d.setG g v))

/-- STG g @. -/
def execStg (g : BitVec 3) (am : BitVec 4) (s : State) : Answer :=
  s.indexedStore am (fun d => d.g g)

end Sys2Proof.Machine
end

