-- ==== Sys2Proof/Machine/Ingest.lean ====
section
/-!
DEFINITION. Sensor ingest (ch. 7): the source switch, admission and drops (R221, R222, Table 7-5), corner-turn placement
(R211 to R215), line records and events (R217, R218), and the staging copy (R220).
-/

namespace Sys2Proof.Machine

/-! ## Slot registers (Table 7-4) -/

/-- PF, KEEP, W and PLANE0 of CT_FMT. -/
def ctPf (w : BitVec 32) : Nat := (fld w 28 4).toNat
/-- KEEP. -/
def ctKeep (w : BitVec 32) : Nat := (fld w 23 5).toNat
/-- W. -/
def ctW (w : BitVec 32) : Nat := (fld w 13 10).toNat
/-- PLANE0. -/
def ctPlane0 (w : BitVec 32) : Nat := (fld w 3 10).toNat
/-- X0 of CT_ROI. -/
def ctX0 (w : BitVec 32) : Nat := (fld w 16 16).toNat
/-- Y0. -/
def ctY0 (w : BitVec 32) : Nat := (fld w 0 16).toNat
/-- FRAME mode of CT_PLACE. -/
def ctFrame (w : BitVec 32) : Bool := fld w 30 2 == 1
/-- XDST. -/
def ctXdst (w : BitVec 32) : Nat := (fld w 21 9).toNat
/-- ROW0. -/
def ctRow0 (w : BitVec 32) : Nat := (fld w 12 9).toNat
/-- ROWS, or H. -/
def ctRows (w : BitVec 32) : Nat := (fld w 0 10).toNat
/-- DEPTH of CT_LIM. -/
def ctDepth (w : BitVec 32) : Nat := (fld w 28 4).toNat + 1
/-- LRATE, lines per ms. -/
def ctLrate (w : BitVec 32) : Nat := (fld w 0 24).toNat
/-- EVMODE of CT_EV. -/
def ctEvmode (w : BitVec 32) : Nat := (fld w 30 2).toNat
/-- RECLEN in records. -/
def ctReclen (w : BitVec 32) : Nat := 16 * 2 ^ (fld w 28 2).toNat
/-- NTH. -/
def ctNth (w : BitVec 32) : Nat := (fld w 18 10).toNat
/-- RECBASE. -/
def ctRecbase (w : BitVec 32) : Nat := (fld w 0 18).toNat
/-- PCNT3 of CT_ALLOC. -/
def ctPcnt3 (w : BitVec 32) : Nat := (fld w 10 11).toNat
/-- PBASE3. -/
def ctPbase3 (w : BitVec 32) : Nat := (fld w 0 10).toNat

/-- Components and bits of a pixel format (Table 7-3). -/
def pfShape (pf : Nat) : Nat × Nat :=
  match pf with
  | 0 => (1, 8)
  | 1 => (1, 10)
  | 2 => (1, 10)
  | 3 => (1, 12)
  | 4 => (1, 12)
  | 5 => (1, 14)
  | 6 => (1, 16)
  | 7 => (3, 8)
  | 8 => (2, 8)
  | _ => (0, 0)

/-- PFNC codes of a pixel format (Table 7-3). -/
def pfPfnc (pf : Nat) : List (BitVec 32) :=
  match pf with
  | 0 => [0x01080001, 0x01080008, 0x01080009, 0x0108000A, 0x0108000B]
  | 1 => [0x010A0046]
  | 2 => [0x01100003]
  | 3 => [0x010C0047]
  | 4 => [0x01100005]
  | 6 => [0x01100007]
  | 7 => [0x02180014, 0x02180015]
  | _ => []

/-- CSI-2 data types of a pixel format (Table 7-3). -/
def pfDt (pf : Nat) : List (BitVec 6) :=
  match pf with
  | 0 => [0x2A, 0x30, 0x31, 0x32, 0x33, 0x34, 0x35, 0x36, 0x37]
  | 1 => [0x2B]
  | 3 => [0x2C]
  | 5 => [0x2D]
  | 6 => [0x2E]
  | 7 => [0x24]
  | 8 => [0x1E]
  | _ => []

/-- Bits kept per component (R211). -/
def keepOf (fmt : BitVec 32) : Nat := min (ctKeep fmt) (pfShape (ctPf fmt)).2

/-- P, the planes of a line (R211). -/
def planesOf (fmt : BitVec 32) : Nat := (pfShape (ctPf fmt)).1 * keepOf fmt

/-- Bytes of a line as stored (R221). -/
def lineBytes (fmt : BitVec 32) : Nat := (ctW fmt * planesOf fmt + 7) / 8

/-- The P kept bits of a pixel: bit c x KEEP + j is kept bit j of component c (R211, R220). -/
def keptBits (fmt : BitVec 32) (px : Pixel) : BitVec 48 :=
  let sh := pfShape (ctPf fmt)
  let k := keepOf fmt
  BitVec.ofNat 48 ((List.range sh.1).foldl (fun v c =>
    v + 2 ^ (c * k) * ((px.getD c 0).toNat % 2 ^ sh.2 / 2 ^ (sh.2 - k))) 0)

/-! ## Slots and ports -/

/-- Slot k = 4 x unit + slot. -/
def State.slot (k : Nat) (s : State) : Slot := Tab.get Slot.reset s.ing.slots k

/-- Update slot k. -/
def State.upSlot (k : Nat) (f : Slot → Slot) (s : State) : State :=
  s.upIng (fun i => { i with slots := Tab.upd Slot.reset i.slots k f })

/-- Sensor port i: 0-31 CSI-2, 32-63 CoaXPress, 64-79 Ethernet. -/
def State.sport (i : Nat) (s : State) : Port := Tab.get Port.reset s.ing.ports i

/-- Update sensor port i. -/
def State.upSport (i : Nat) (f : Port → Port) (s : State) : State :=
  s.upIng (fun g => { g with ports := Tab.upd Port.reset g.ports i f })

/-- SP_CFG.EN. -/
def Port.en (p : Port) : Bool := p.cfg.getLsbD 29

/-- SP_CFG.MODE. -/
def Port.mode (p : Port) : Nat := (fld p.cfg 24 3).toNat

/-- KIND and number of a sensor port. -/
def sportKind (i : Nat) : Nat × Nat := if i < 32 then (0, i) else if i < 64 then (1, i - 32) else (2, i - 64)

/-- The port receives: enabled and up. -/
def State.receives (i : Nat) (s : State) : Bool := (s.sport i).en && (s.sport i).up

/-- Unmatched traffic is counted (R199). -/
def State.unclaimed (i : Nat) (s : State) : State := s.upSport i (fun p => { p with uncl := satInc p.uncl })

/-- A packet with an error is counted (SP_STAT.ERRS). -/
def State.portError (i : Nat) (s : State) : State := s.upSport i (fun p => { p with errs := satInc p.errs })

/-! ## The source switch (R198) -/

/-- Whether CT_SRC names a stream of sensor port i. -/
def srcPort (src : BitVec 32) (i : Nat) : Bool :=
  let kind := (fld src 29 2).toNat
  let port := (fld src 24 5).toNat
  let kn := sportKind i
  kind == kn.1 && (if kind = 1 then decide (port ≤ kn.2) && decide (kn.2 < port + 2 ^ (fld src 22 2).toNat)
    else port == kn.2)

/-- The receptions that take a stream: slot and which of its receptions, 0 the binding in force, n + 1 the n-th one
before it that still has admitted lines. -/
def State.receivers (hit : BitVec 32 → Bool) (s : State) : List (Nat × Nat) :=
  (List.range 64).flatMap (fun k =>
    let sl := s.slot k
    (if sl.src.msb && hit sl.src then [(k, 0)] else []) ++
      ((List.range sl.prev.length).filter (fun n => match sl.prev[n]? with
        | some r => hit r.src
        | none => false)).map (fun n => (k, n + 1)))

/-- Reception n of a slot. -/
def Slot.rxOf (n : Nat) (sl : Slot) : Rx :=
  match n with
  | 0 => sl.rx
  | n + 1 => sl.prev.getD n Rx.empty

/-- Update reception n of a slot. -/
def Slot.upRx (n : Nat) (f : Rx → Rx) (sl : Slot) : Slot :=
  match n with
  | 0 => { sl with rx := f sl.rx }
  | n + 1 => { sl with prev := sl.prev.modify n f }

/-- A line is dropped: rows 1 to 5 of Table 7-5. -/
def Slot.drop (row : BitVec 3) (sl : Slot) : Slot :=
  let sl := { sl with dropSince := satInc sl.dropSince }
  match row.toNat with
  | 1 => { sl with dropOvf := sl.dropOvf + 1 }
  | 2 => { sl with dropRate := sl.dropRate + 1 }
  | 3 => { sl with dropInc := sl.dropInc + 1 }
  | 4 => { sl with dropFmt := sl.dropFmt + 1 }
  | 5 => { sl with dropAlloc := sl.dropAlloc + 1 }
  | _ => sl

/-- The binding of a slot changes: lines admitted keep arriving under the old one (R223); those of a frame are of no
frame of the new binding; lines outside the allocation that were arriving are counted (Table 7-5, row 5). -/
def Slot.closeRx (sl : Slot) : Slot :=
  let left := sl.rx.arriving.filter (fun a => a.fate == 0)
  let outside := (sl.rx.arriving.filter (fun a => a.fate == 5)).length
  let kept := sl.prev.filter (fun r => !r.arriving.isEmpty)
  let sl := (List.range outside).foldl (fun sl _ => sl.drop 5) sl
  { sl with prev := if left.isEmpty then kept else kept ++ [{ sl.rx with arriving := left }], rx := Rx.empty,
            jobs := sl.jobs.map (fun j => { j with frame := 0 }), lastRec := none }

/-! ## Admission and drops (R221, R222, Table 7-5) -/

/-- FRAME selection ignores line i (R215). -/
def Slot.ignores (i : Nat) (sl : Slot) : Bool :=
  ctFrame sl.place && (decide (i < ctY0 sl.roi) || decide (ctY0 sl.roi + ctRows sl.place ≤ i))

/-- PE row and plane group of a line that arrives now with index i (R215). -/
def Slot.target (i : Nat) (sl : Slot) : Nat × Nat :=
  let rows := max 1 (ctRows sl.place)
  if ctFrame sl.place then
    ((ctRow0 sl.place + i - ctY0 sl.roi) % 512, (sl.frame - 1) % ctDepth sl.lim)
  else
    ((ctRow0 sl.place + sl.arrival.toNat % rows) % 512, sl.arrival.toNat / rows % ctDepth sl.lim)

/-- Whether a line of plane group g lies within the allocation (R212). -/
def Slot.allocated (g : Nat) (sl : Slot) : Bool :=
  decide (ctPlane0 sl.fmt + (g + 1) * planesOf sl.fmt ≤ ctPcnt3 sl.alloc)

/-- The job of a line admitted now with index i. -/
def Slot.newJob (i : Nat) (sl : Slot) : LineJob :=
  let t := sl.target i
  let first := if ctFrame sl.place then ctY0 sl.roi else 0
  { id := sl.ids, line := sl.arrival, time := none, row := BitVec.ofNat 9 t.1, group := BitVec.ofNat 4 t.2,
    fs := decide (0 < sl.frame) && i == first,
    fe := decide (0 < sl.frame) && ctFrame sl.place && i + 1 == ctY0 sl.roi + ctRows sl.place,
    frame := sl.frame, fmt := sl.fmt, roi := sl.roi, place := sl.place, alloc := sl.alloc, ev := sl.ev, copy := sl.copy,
    chan := fld sl.chan 0 18, bytes := lineBytes sl.fmt, px := [], segs := 0, noticed := false, queued := false,
    bind := sl.bind }

/-- The first pixel of line i of an accepted image arrives at slot k: the line's fate (R221). -/
def State.openLine (k i : Nat) (s : State) : Arriving × State :=
  let sl := s.slot k
  let arrived (f : Slot → Slot) (s : State) : State := s.upSlot k (fun sl => { f sl with arrival := sl.arrival + 1 })
  let line (fate : BitVec 3) : Arriving := { index := i, fate := fate, id := sl.ids, parts := [], bad := false }
  if sl.ignores i then (line 6, arrived id s)
  else if 16384 < sl.fill + lineBytes sl.fmt then (line 1, arrived (Slot.drop 1) s)
  else if sl.tokens < 1000000 then (line 2, arrived (Slot.drop 2) s)
  else if !sl.allocated (sl.target i).2 then (line 5, arrived id s)
  else
    let take (sl : Slot) : Slot := { sl with tokens := sl.tokens - 1000000, ids := sl.ids + 1 }
    if s.armedFor 23 (fun u a => u % 16 == k / 4 && a % 4 == k % 4) then
      (line 3, (arrived (fun sl => (take sl).drop 3) s).fired.occur 23 (s.chanId (fld sl.chan 0 18))
        (BitVec.ofNat 64 (k / 4 + 16 * (k % 4) + 64 * sl.arrival.toNat)) true)
    else
      (line 0, arrived (fun sl =>
        { take sl with fill := sl.fill + lineBytes sl.fmt, jobs := sl.jobs ++ [sl.newJob i] }) s)

/-! ## From pixels to planes (R211 to R214) -/

/-- Pixel x of a line, from its pieces. -/
def pixelAt (parts : List (Nat × List Pixel)) (x : Nat) : Option Pixel :=
  parts.findSome? (fun p => if p.1 ≤ x then p.2[x - p.1]? else none)

/-- The region's pixels of a line, each as its kept bits; none where one is missing (R213, R214). -/
def LineJob.region (j : LineJob) (parts : List (Nat × List Pixel)) : Option (List (BitVec 48)) :=
  (List.range (ctW j.fmt)).mapM (fun i => (pixelAt parts (ctX0 j.roi + i)).map (keptBits j.fmt))

/-- The tile columns that a line covers (R213). -/
def LineJob.cols (j : LineJob) : List Nat :=
  let a := ctXdst j.place / 32
  let b := (ctXdst j.place + ctW j.fmt - 1) / 32
  (List.range 16).filter (fun c => decide (a ≤ c) && decide (c ≤ b))

/-- The 32 bits of plane bit b of a line in tile column c (R211, R213). -/
def LineJob.bits (j : LineJob) (px : List (BitVec 48)) (b c : Nat) : BitVec 32 :=
  BitVec.ofNat 32 ((List.range 32).foldl (fun v n =>
    let x := 32 * c + n
    let on := decide (ctXdst j.place ≤ x) && (px.getD (x - ctXdst j.place) 0).getLsbD b
    if on then v + 2 ^ n else v) 0)

/-- The array plane of plane bit b of a line (R211). -/
def LineJob.plane (j : LineJob) (b : Nat) : Nat :=
  3072 + ctPbase3 j.alloc + ctPlane0 j.fmt + j.group.toNat * planesOf j.fmt + b

/-- A complete line's segments, plane by plane, with their tile columns. -/
def LineJob.segsOf (j : LineJob) (slot : Nat) (px : List (BitVec 48)) : List (Nat × Seg) :=
  (List.range (planesOf j.fmt)).flatMap (fun b => j.cols.map (fun c =>
    (c, { slot := BitVec.ofNat 6 slot, line := j.id, plane := BitVec.ofNat 12 (j.plane b), row := j.row,
          bits := j.bits px b c })))

/-- A segment joins the queue of its corner-turn unit at its tile. -/
def Arr.queueSeg (a : Arr) (tile unit : Nat) (g : Seg) : Arr :=
  ({ a with shQueue := Tab.upd [] a.shQueue (16 * tile + unit) (· ++ [g]) }).refill tile

/-- The bytes of a line's planes as written, plane by plane, tile columns ascending (R315). -/
def LineJob.planeBytes (j : LineJob) : List Byte :=
  (List.range (planesOf j.fmt)).flatMap (fun b => j.cols.flatMap (fun c => natBytes 4 (j.bits j.px b c).toNat))

/-- An admitted line turns out incomplete. -/
def Slot.abandonJob (jid : Nat) (sl : Slot) : Slot :=
  match sl.jobs.find? (fun j => j.id == jid) with
  | some j => { sl with jobs := sl.jobs.filter (fun x => x.id != jid), fill := sl.fill - j.bytes }.drop 3
  | none => sl

/-- The complete lines at the front of slot k, those before which no admitted line is still arriving: their segments join
the shadow queues in arrival order (R219). -/
def State.queueLines (k : Nat) (s : State) : State :=
  let ready := (s.slot k).jobs.takeWhile (fun j => j.time.isSome)
  let s := (ready.filter (fun j => !j.queued)).foldl (fun s j => s.upArr (fun r =>
    (j.segsOf k j.px).foldl (fun r g => r.queueSeg (16 * (j.row.toNat / 32) + g.1) (k / 4) g.2) r)) s
  let ids := ready.map (fun j => j.id)
  s.upSlot k (fun sl =>
    { sl with jobs := sl.jobs.map (fun j => if ids.contains j.id then { j with queued := true } else j) })

/-- The end of a line of slot k: complete, with its time (R21), and written in its turn (R219); or dropped (R214). -/
def State.endLine (k : Nat) (a : Arriving) (s : State) : State :=
  let sl := s.slot k
  if a.fate = 0 then
    match sl.jobs.find? (fun j => j.id == a.id) with
    | none => s
    | some j =>
      match (if a.bad then none else j.region a.parts) with
      | none => (s.upSlot k (Slot.abandonJob a.id)).queueLines k
      | some px =>
        let j' := { j with time := some s.tbNow, px := px, segs := (j.segsOf k px).length }
        (s.upSlot k (fun sl => { sl with jobs := sl.jobs.map (fun x => if x.id = a.id then j' else x) })).queueLines k
  else if a.fate = 5 then
    let whole := !a.bad && (List.range (ctW sl.fmt)).all (fun i => (pixelAt a.parts (ctX0 sl.roi + i)).isSome)
    s.upSlot k (Slot.drop (if whole then 5 else 3))
  else s

/-! ## Frames (R215, R217, R218) -/

/-- A frame begins at slot k. -/
def State.frameStart (k : Nat) (s : State) : State :=
  s.upSlot k (fun sl => { sl with frame := sl.frame + 1, index := 0 })

/-- FE is set in the latest record of slot k, whose event its EVMODE may call for (R217, R218). -/
def State.setFe (k : Nat) (s : State) : State :=
  let sl := s.slot k
  match sl.lastRec with
  | none => s
  | some (addr, w, f) =>
    if w.getLsbD 22 then s
    else
      let w := setBit w 22 true
      let s := (s.upSlot k (fun sl => { sl with lastRec := some (addr, w, f) })).putWord (addr + 3) w
      if ctEvmode sl.ev = 3 then s.raise (k / 4) else s

/-- The frame in progress at slot k ends: its last line is marked FE, in the record already written if need be, and the
frame-end event is raised (R218). -/
def State.frameEnd (k : Nat) (s : State) : State :=
  let sl := s.slot k
  let mine := sl.jobs.filter (fun j => j.frame == sl.frame)
  if sl.frame = 0 || mine.any (fun j => j.fe) then s
  else
    match mine.getLast? with
    | some j =>
      let ordered := s.paired && j.noticed && !s.pair.mine.any (fun x => x.1.source.toNat == k && x.1.number == j.line)
      let s := s.upSlot k (fun sl => { sl with jobs := sl.jobs.map (fun x => if x.id = j.id then { x with fe := true } else x) })
      if ordered && s.isLead then s.orderInput (.frameEnd (BitVec.ofNat 6 k) j.line) else s
    | none =>
      match sl.lastRec with
      | none => s
      | some (_, w, f) =>
        if f ≠ sl.frame || w.getLsbD 22 then s
        else if !s.paired then s.setFe k
        else if s.isLead then s.orderInput (.frameEnd (BitVec.ofNat 6 k) sl.lastLine) else s

/-! ## CSI-2 (R201, R202) -/

/-- Whether CT_SRC names a CSI-2 stream; embedded data is not ingested (R201). -/
def csiHit (port : BitVec 5) (vc : BitVec 4) (dt : BitVec 6) (src : BitVec 32) : Bool :=
  srcPort src port.toNat && fld src 16 4 == vc && fld src 0 6 == dt && dt != 0x12

/-- A whole line arrives at slot k. -/
def State.csiLine (bad : Bool) (pixels : List Pixel) (k : Nat) (s : State) : State :=
  let i := (s.slot k).index
  let r := s.openLine k i
  let s := r.2.upSlot k (fun sl => { sl with index := sl.index + 1 })
  s.endLine k { r.1 with parts := [(0, pixels)], bad := bad }

/-- The slots whose binding in force takes a stream. -/
def State.slotsOf (hit : BitVec 32 → Bool) (s : State) : List Nat :=
  ((s.receivers hit).filter (fun r => r.2 == 0)).map (·.1)

/-- The link of a sensor port is lost: UP falls, lines in progress are dropped as incomplete (detector 24). -/
def State.linkLost (i : Nat) (inj : Bool) (s : State) : State :=
  let kn := sportKind i
  let on := s.receives i
  let s := if inj then s.fired else s
  let s := s.upSport i (fun p => { p with up := false, deskew := false })
  let s := if on then s.occur 24 0 (BitVec.ofNat 64 (kn.1 + 4 * kn.2)) inj else s
  (s.receivers (fun src => srcPort src i)).foldl (fun s kn =>
    let rx := (s.slot kn.1).rxOf kn.2
    let s := rx.arriving.foldl (fun s a => s.endLine kn.1 { a with bad := true }) s
    s.upSlot kn.1 (Slot.upRx kn.2 (fun r =>
      { r with arriving := [], accept := false, width := 0, held := [], tag := none, gap := false }))) s

/-- Traffic on sensor port i: nothing comes through a port that does not receive, and an armed injection of detector 24
presents the link as lost. -/
def State.onPort (i : Nat) (act : State → State) (s : State) : Answer :=
  if !s.receives i then .next s
  else if s.armedFor 24 (fun u _ => u == i) then .next (s.linkLost i true)
  else .next (act s)

/-- The lanes of a CSI-2 port are aligned: at most 1.5 Gbit/s, or the initial deskew burst has come (R202). -/
def Port.aligned (p : Port) : Bool := !p.fast || p.deskew

/-- A packet on a CSI-2 port: one whose header cannot be read, by its ECC or because a port that requires the deskew
burst has not had it (R202; log entry 43), is discarded and counted. -/
def State.csiPacket (port : BitVec 5) (ecc : HdrEcc) (act : State → State) (s : State) : Answer :=
  s.onPort port.toNat (fun s =>
    if ecc = .double || !(s.sport port.toNat).aligned then s.portError port.toNat else act s)

/-- CSI2_LONG_PACKET: a line for its matching slots, or discarded (R201). -/
def execCsi2LongPacket (port : BitVec 5) (vc : BitVec 4) (dt : BitVec 6) (ecc : HdrEcc) (crcOk : Bool)
    (pixels : List Pixel) (s : State) : Answer :=
  s.csiPacket port ecc (fun s =>
    match s.slotsOf (csiHit port vc dt) with
    | [] => s.unclaimed port.toNat
    | ks =>
      let s := if crcOk then s else s.portError port.toNat
      ks.foldl (fun s k => s.csiLine (!crcOk) pixels k) s)

/-- Whether CT_SRC names a virtual channel of a CSI-2 port. -/
def csiVc (port : BitVec 5) (vc : BitVec 4) (src : BitVec 32) : Bool := srcPort src port.toNat && fld src 16 4 == vc

/-- A frame start or frame end short packet for the slots that name its virtual channel, or unmatched (R199). -/
def State.csiFrame (port : BitVec 5) (vc : BitVec 4) (ecc : HdrEcc) (act : Nat → State → State) (s : State) : Answer :=
  s.csiPacket port ecc (fun s =>
    match s.slotsOf (csiVc port vc) with
    | [] => s.unclaimed port.toNat
    | ks => ks.foldl (fun s k => act k s) s)

/-- CSI2_FRAME_START (R201). -/
def execCsi2FrameStart (port : BitVec 5) (vc : BitVec 4) (ecc : HdrEcc) (s : State) : Answer :=
  s.csiFrame port vc ecc State.frameStart

/-- CSI2_FRAME_END (R201). -/
def execCsi2FrameEnd (port : BitVec 5) (vc : BitVec 4) (ecc : HdrEcc) (s : State) : Answer :=
  s.csiFrame port vc ecc State.frameEnd

/-- DPHY_DESKEW_BURST: the lanes are aligned (R202). -/
def execDphyDeskewBurst (port : BitVec 5) (s : State) : Answer :=
  .next (if (s.sport port.toNat).en then s.upSport port.toNat (fun p => { p with deskew := true }) else s)

/-- DPHY_ALIGNMENT_LOSS: the line being received is discarded and counted (R202, Table 7-5). -/
def execDphyAlignmentLoss (port : BitVec 5) (vc : BitVec 4) (dt : BitVec 6) (s : State) : Answer :=
  s.onPort port.toNat (fun s =>
    (s.slotsOf (csiHit port vc dt)).foldl (fun s k => s.csiLine true [] k) (s.portError port.toNat))

/-! ## Lines of an image or block (R204, R208) -/

/-- A piece of line i arrives at reception n of slot k: pixels from `off` on. -/
def State.piece (k n i off : Nat) (px : List Pixel) (bad : Bool) (s : State) : State :=
  let rx := (s.slot k).rxOf n
  let opened : Option (Arriving × State) :=
    match rx.arriving.find? (fun a => a.index == i) with
    | some a => some (a, s)
    | none => if n ≠ 0 || rx.ended.contains i then none else some (s.openLine k i)
  match opened with
  | none => s
  | some (a, s) =>
    let a := { a with parts := a.parts ++ [(off, px)], bad := a.bad || bad }
    let others := rx.arriving.filter (fun x => x.index != i)
    if (List.range rx.width).all (fun x => (pixelAt a.parts x).isSome) then
      (s.upSlot k (Slot.upRx n (fun r => { r with arriving := others, ended := i :: r.ended }))).endLine k a
    else s.upSlot k (Slot.upRx n (fun r => { r with arriving := others ++ [a] }))

/-- Pixels from pixel `pos` of the image on, cut into lines of the reception's width. -/
def State.pieces (k n : Nat) (bad : Bool) : Nat → Nat → List Pixel → State → State
  | 0, _, _, s => s
  | fuel + 1, pos, px, s =>
    let w := ((s.slot k).rxOf n).width
    if px.isEmpty || w = 0 then s
    else
      let off := pos % w
      let m := w - off
      State.pieces k n bad fuel (pos + m) (px.drop m) (s.piece k n (pos / w) off (px.take m) bad)

/-- Lines of an image whose format is not accepted, as they come (R221): n lines. -/
def State.formatDrops (k n : Nat) (s : State) : State :=
  (List.range n).foldl (fun s _ => s.upSlot k (fun sl => { sl.drop 4 with arrival := sl.arrival + 1 })) s

/-- The image or block in progress at reception n of slot k is over: every line with data missing is dropped (R209),
lines up to `height` that never came included. -/
def State.closeBlock (k n : Nat) (s : State) : State :=
  let rx := (s.slot k).rxOf n
  let s := rx.arriving.foldl (fun s a => s.endLine k { a with bad := true }) s
  let begun (i : Nat) : Bool := rx.ended.contains i || rx.arriving.any (fun a => a.index == i)
  let s := if n = 0 && rx.accept then
      ((List.range rx.height).filter (fun i => !begun i)).foldl (fun s i =>
        s.upSlot k (fun sl => { (if sl.ignores i then sl else sl.drop 3) with arrival := sl.arrival + 1 })) s
    else s
  s.upSlot k (Slot.upRx n (fun r => { r with arriving := [], ended := [], accept := false, gap := false, height := 0, pos := 0 }))

/-! ## CoaXPress (R203 to R206) -/

/-- Whether CT_SRC names a CoaXPress stream that comes on a link. -/
def cxpHit (link : BitVec 5) (stream : BitVec 8) (src : BitVec 32) : Bool :=
  srcPort src (32 + link.toNat) && fld src 0 8 == stream

/-- A host-role link: a device-role link ingests nothing (R206). -/
def State.hostRole (link : BitVec 5) (s : State) : Bool := (s.sport (32 + link.toNat)).mode == 0

/-- An image header in its order: a new image, accepted for its geometry and format or dropped whole (R204).  DESIGN CHOICE
(log entry 43): an image dropped for its format advances the frame count of R215 like any other. -/
def State.cxpHeader (k n : Nat) (pfnc : BitVec 32) (tap1x1y : Bool) (lineLen : BitVec 24) (s : State) : State :=
  let s := s.closeBlock k n
  if n ≠ 0 then s
  else
    ((s.frameEnd k).frameStart k).upSlot k (fun sl => sl.upRx 0 (fun x =>
      { x with
        src := sl.src
        accept := tap1x1y && (pfPfnc (ctPf sl.fmt)).contains pfnc
        width := lineLen.toNat }))

/-- A packet of pixels in its order: they are cut into lines (R204); past a lost packet of the image every line is
incomplete (log entry 43). -/
def State.cxpData (k n : Nat) (crcOk : Bool) (px : List Pixel) (s : State) : State :=
  let rx := (s.slot k).rxOf n
  let w := rx.width
  let s := if w = 0 then s
    else if n = 0 && !rx.accept then
      s.formatDrops k ((rx.pos + px.length + w - 1) / w - (rx.pos + w - 1) / w)
    else s.pieces k n (!crcOk || rx.gap) (px.length + 1) rx.pos px
  s.upSlot k (Slot.upRx n (fun r => { r with pos := r.pos + px.length }))

/-- A stream packet in tag order. -/
def State.cxpTake (k n : Nat) (item : CxpItem) (s : State) : State :=
  match item with
  | .header pfnc tap len => s.cxpHeader k n pfnc tap len
  | .data crcOk px => s.cxpData k n crcOk px

/-- Packets of the image are lost: the lines that they touch are incomplete. -/
def State.cxpGap (k n : Nat) (s : State) : State :=
  s.upSlot k (Slot.upRx n (fun r =>
    { r with gap := true, arriving := r.arriving.map (fun a => { a with bad := true }) }))

/-- The links of an aggregation (R203). -/
def srcLinks (src : BitVec 32) : List Nat :=
  (List.range (2 ^ (fld src 22 2).toNat)).map (fun i => (fld src 24 5).toNat + i)

/-- Take the held packets in tag order (R203).  A tag is lost once every link of the group has brought a later one, since
each link keeps its order (DEDUCED, log entry 43): reception goes on at the earliest packet held. -/
def State.cxpDrain (k n : Nat) : Nat → State → State
  | 0, s => s
  | fuel + 1, s =>
    let rx := (s.slot k).rxOf n
    match rx.tag with
    | none => s
    | some t =>
      let all := (srcLinks rx.src).all (fun l => rx.held.any (fun h => h.link.toNat == l))
      let first := rx.held.foldl (fun best h => match best with
        | none => some h
        | some b => if h.tag - t < b.tag - t then some h else some b) none
      match first with
      | none => s
      | some h =>
        if h.tag ≠ t ∧ !all then s
        else
          let s := if h.tag = t then s else s.cxpGap k n
          let s := s.upSlot k (Slot.upRx n (fun r =>
            { r with tag := some (h.tag + 1), held := r.held.filter (fun x => x != h) }))
          State.cxpDrain k n fuel (s.cxpTake k n h.item)

/-- A stream packet at reception n of slot k: it takes its place in tag order across the links of the group (R203).  The
first image header that comes sets the order; packets before it are of no image that the slot takes. -/
def State.cxpPacket (k n : Nat) (p : CxpPacket) (s : State) : State :=
  let rx := (s.slot k).rxOf n
  let order := match rx.tag, p.item with
    | none, .header _ _ _ => some p.tag
    | t, _ => t
  let late (x : CxpPacket) : Bool := match order with
    | some t => (x.tag - t).msb
    | none => false
  let s := s.upSlot k (Slot.upRx n (fun r =>
    { r with tag := order, held := (r.held ++ [p]).filter (fun x => !late x) }))
  s.cxpDrain k n (rx.held.length + 1)

/-- Whether sensor link d, a device-role link, mirrors host-role link h (R206). -/
def State.mirrors (d h : Nat) (s : State) : Bool :=
  s.receives (32 + d) && (s.sport (32 + d)).mode == 1 && (fld (s.sport (32 + d)).cfg 8 5).toNat == h

/-- The copies of a stream packet that device-role links send (R206). -/
def State.copies (stream : BitVec 8) (p : CxpPacket) (s : State) : State :=
  ((List.range 32).filter (fun d => s.mirrors d p.link.toNat)).foldl (fun s d =>
    s.emit (.cxpCopy (BitVec.ofNat 5 d) stream p)) s

/-- A stream packet on a link: copied where the link is mirrored, then to the slots of its stream, or unmatched. -/
def State.cxpStream (stream : BitVec 8) (p : CxpPacket) (s : State) : Answer :=
  let i := 32 + p.link.toNat
  if !s.hostRole p.link then .next s
  else
    s.onPort i (fun s =>
      let s := s.copies stream p
      let s := match p.item with
        | .data false _ => s.portError i
        | _ => s
      match s.receivers (cxpHit p.link stream) with
      | [] => match p.item with
        | .data false _ => s
        | _ => s.unclaimed i
      | rs => rs.foldl (fun s r => s.cxpPacket r.1 r.2 p) s)

/-- CXP_IMAGE_HEADER (R204). -/
def execCxpImageHeader (link : BitVec 5) (stream tag : BitVec 8) (pfnc : BitVec 32) (tap1x1y : Bool)
    (lineLen : BitVec 24) (s : State) : Answer :=
  s.cxpStream stream { link := link, tag := tag, item := .header pfnc tap1x1y lineLen }

/-- CXP_STREAM_PACKET (R203). -/
def execCxpStreamPacket (link : BitVec 5) (stream tag : BitVec 8) (crcOk : Bool) (pixels : List Pixel) (s : State) :
    Answer :=
  s.cxpStream stream { link := link, tag := tag, item := .data crcOk pixels }

/-- An edge on the trigger input of a link: a trigger packet goes out on a host-role link (R205).  Its delay field tells
where the edge fell within a character of the uplink, which is finer than the model's time: a free value. -/
def State.cxpTrigger (link : BitVec 5) (s : State) : State :=
  if s.hostRole link && s.receives (32 + link.toNat) then (s.emit (.trigger link (s.freeVal 8))).took else s

/-- CXP_TRIGGER_EDGE (R205). -/
def execCxpTriggerEdge (link : BitVec 5) (s : State) : Answer := .next (s.cxpTrigger link)

/-- CXP_TRIGGER_RECEIVED: the link's event input of the fabric is pulsed (R205). -/
def execCxpTriggerReceived (link : BitVec 5) (s : State) : Answer :=
  if !s.hostRole link then .next s
  else s.onPort (32 + link.toNat) (fun s => s.upSpl (fun x => { x with cxpIn := setBit x.cxpIn link.toNat true }))

/-! ## GigE Vision (R208, R209) -/

/-- Whether a frame addressed to ip is for port i (R208). -/
def Port.accepts (p : Port) (ip : BitVec 32) : Bool := (p.ip != 0 && p.ip == ip) || p.groups.contains ip

/-- Whether CT_SRC names a GVSP stream. -/
def gvspHit (port : BitVec 4) (udp : BitVec 16) (src : BitVec 32) : Bool :=
  srcPort src (64 + port.toNat) && fld src 0 16 == udp

/-- A frame of len bytes on an Ethernet port: one whose FCS fails or that exceeds 9,018 bytes is not accepted (R207), and
counted as a packet in error (Table 7-2). -/
def State.etherFrame (port : BitVec 4) (len : Nat) (fcsOk : Bool) (act : State → State) (s : State) : Answer :=
  s.onPort (64 + port.toNat) (fun s => if !fcsOk || 9018 < len then s.portError (64 + port.toNat) else act s)

/-- A GVSP packet: to the receptions of its stream, or counted as unmatched. -/
def State.gvsp (port : BitVec 4) (ip : BitVec 32) (udp : BitVec 16) (len : Nat) (fcsOk : Bool)
    (act : Nat → Nat → State → State) (s : State) : Answer :=
  s.etherFrame port len fcsOk (fun s =>
    let rs := if (s.sport (64 + port.toNat)).accepts ip then s.receivers (gvspHit port udp) else []
    if rs.isEmpty then s.unclaimed (64 + port.toNat) else rs.foldl (fun s r => act r.1 r.2 s) s)

/-- GVSP_LEADER: the block before it is over; a new block is accepted or dropped whole (R208, R209).  DESIGN CHOICE (log
entry 43): a block whose payload type is not image has no line count, and counts as one line in CT_DROPFMT and in LINE; a
block dropped for its format advances the frame count of R215. -/
def execGvspLeader (port : BitVec 4) (ip : BitVec 32) (udp : BitVec 16) (block : BitVec 64) (image : Bool)
    (pfnc width height : BitVec 32) (fcsOk : Bool) (s : State) : Answer :=
  s.gvsp port ip udp 0 fcsOk (fun k n s =>
    let was := ((s.slot k).rxOf n).accept
    let s := s.closeBlock k n
    if n ≠ 0 then s
    else
      let s := (if was then s.frameEnd k else s).frameStart k
      let good := image && (pfPfnc (ctPf (s.slot k).fmt)).contains pfnc
      let s := if good then s else s.formatDrops k (if image then height.toNat else 1)
      s.upSlot k (fun sl => sl.upRx 0 (fun r =>
        { r with src := sl.src, accept := good, width := width.toNat, height := height.toNat, block := block })))

/-- GVSP_PAYLOAD: pixels of the block in progress, from pixel `first` of the block on (R208).  DESIGN CHOICE (log entry
43): payload of a block whose leader was lost is ignored and counted nowhere. -/
def execGvspPayload (port : BitVec 4) (ip : BitVec 32) (udp : BitVec 16) (block : BitVec 64) (first : BitVec 32)
    (pixels : List Pixel) (len : BitVec 16) (fcsOk : Bool) (s : State) : Answer :=
  s.gvsp port ip udp len.toNat fcsOk (fun k n s =>
    let rx := (s.slot k).rxOf n
    if rx.block = block && rx.accept then s.pieces k n false (pixels.length + 1) first.toNat pixels else s)

/-- GVSP_TRAILER: lines still missing a byte are dropped (R209). -/
def execGvspTrailer (port : BitVec 4) (ip : BitVec 32) (udp : BitVec 16) (block : BitVec 64) (fcsOk : Bool) (s : State) :
    Answer :=
  s.gvsp port ip udp 0 fcsOk (fun k n s =>
    let rx := (s.slot k).rxOf n
    if rx.block = block && rx.accept then
      let s := s.closeBlock k n
      if n = 0 then s.frameEnd k else s
    else s)

/-- PTP_EVENT_MESSAGE: a message of the PTP domain on a port that takes part is timestamped (R257). -/
def execPtpEventMessage (port : BitVec 4) (domain : BitVec 8) (fcsOk : Bool) (s : State) : Answer :=
  s.etherFrame port 0 fcsOk (fun s =>
    if s.cue.ctl.getLsbD port.toNat && fld s.cue.ctl 16 8 == domain then
      s.upCue (fun c => { c with ptpStamp := Tab.set 0 c.ptpStamp port.toNat s.tbNow })
    else s)

/-! ## Link events -/

/-- SENSOR_LINK: the link of sensor port i goes down (detector 24). -/
def execSensorLink (i : BitVec 7) (s : State) : Answer :=
  .next (if i.toNat < 80 && (s.sport i.toNat).up then
      s.linkLost i.toNat (s.armedFor 24 (fun u _ => u == i.toNat) && s.receives i.toNat)
    else s)

/-- The link PLL of a sensor port has lock: PLL 1 Ethernet, 3 CoaXPress; none serves CSI-2 (R417). -/
def State.sensorPll (i : Nat) (s : State) : Bool :=
  let kn := sportKind i
  kn.1 == 0 || !Tab.get false s.rst.pllLost (if kn.1 = 2 then 16 + kn.2 / 4 else 48 + kn.2 / 8)

/-- SENSOR_LINK_UP: the link of an enabled port has trained, its D-PHY lanes above 1.5 Gbit/s or not (R202). -/
def execSensorLinkUp (i : BitVec 7) (fast : Bool) (s : State) : Answer :=
  .next (if i.toNat < 80 && (s.sport i.toNat).en && s.sensorPll i.toNat then
      s.upSport i.toNat (fun p => { p with up := true, fast := fast })
    else s)

/-! ## Records, events, copies (R217 to R220) -/

/-- The four words of a line's record. -/
def LineJob.record (j : LineJob) (slot : Nat) (drops : BitVec 5) : Word × Word × Word × Word :=
  let t := j.time.getD 0
  (j.line, fld t 0 24, fld t 24 24,
    bit1 j.fs ++ bit1 j.fe ++ BitVec.ofNat 2 slot ++ (0#2) ++ j.row ++ j.group ++ drops)

/-- The address of a line's record (R217). -/
def LineJob.recAddr (j : LineJob) : BitVec 18 :=
  BitVec.ofNat 18 (ctRecbase j.ev + 4 * (j.line.toNat % ctReclen j.ev))

/-- Whether the unit raises its event line for the record of a line, the `written`-th since binding (R218). -/
def LineJob.raises (j : LineJob) (written : Nat) : Bool :=
  match ctEvmode j.ev with
  | 1 => true
  | 2 => written % (max 1 (ctNth j.ev)) == 0
  | 3 => j.fe
  | _ => false

/-- The staging lines of a copy (R220): the first, and their contents. -/
def LineJob.copyLines (j : LineJob) : Nat × List (BitVec 512) :=
  let p := planesOf j.fmt
  let l := (ctW j.fmt * p + 511) / 512
  let r := j.line.toNat % 2 ^ (fld j.copy 27 4).toNat
  let all := j.px.foldr (fun x v => x.toNat % 2 ^ p + 2 ^ p * v) 0
  ((fld j.copy 0 18).toNat + r * l, (List.range l).map (fun n => BitVec.ofNat 512 (all / 2 ^ (512 * n))))

/-- The record of the oldest line of slot k is written, its event raised, its copy begun (R218, R220).  A line of an
earlier binding is counted in that binding's NTH count and not in the CT_LINES and CT_DROPCOPY that the new binding set to
0 (R223).  DESIGN CHOICE (log entry 43): the line's FIFO space is freed here, when its record is written. -/
def State.recordLine (k : Nat) (words : Word × Word × Word × Word) (s : State) : State :=
  let sl := s.slot k
  match sl.jobs with
  | [] => s
  | j :: rest =>
    let a := j.recAddr
    let s := (((s.putWord a words.1).putWord (a + 1) words.2.1).putWord (a + 2) words.2.2.1).putWord (a + 3) words.2.2.2
    let copies := j.copy.msb
    let mine (n : BitVec 32) : BitVec 32 := if j.bind = sl.bind then n + 1 else n
    let written := if j.bind = sl.writtenOf then sl.written + 1 else 1
    let s := s.upSlot k (fun sl =>
      { sl with jobs := rest, fill := sl.fill - j.bytes, lines := mine sl.lines, written := written, writtenOf := j.bind,
                dropSince := if s.paired then (if s.isLead then sl.dropSince else 0) else sl.dropSince - fld words.2.2.2 0 5,
                lastRec := some (a, words.2.2.2, j.frame), lastLine := j.line,
                dropCopy := if copies && sl.copying.isSome then mine sl.dropCopy else sl.dropCopy,
                copying := if copies && sl.copying.isNone then some j.copyLines else sl.copying })
    let t : BitVec 64 := j.time.getD 0
    let s := s.upChan j.chan (fun c => { c with lastLine := if c.lastLine < t then t else c.lastLine })
    if { j with fe := words.2.2.2.getLsbD 22 }.raises written then s.raise (k / 4) else s

/-- The lead orders the record of a line that both members have in hand, with its own line time and the drops that it counts (R315). -/
def State.orderLine (k : Nat) (line : BitVec 24) (s : State) : State :=
  match (s.slot k).jobs.find? (fun j => j.line == line) with
  | none => s
  | some j =>
    let w := j.record (k % 4) (s.slot k).dropSince
    (s.upSlot k (fun sl => { sl with dropSince := sl.dropSince - fld w.2.2.2 0 5 })).orderInput
      (.lineRecord (BitVec.ofNat 6 k) w.1 w.2.1 w.2.2.1 w.2.2.2)

/-- The lead matches the occurrences of a source in order of arrival: two events, or two lines of one LINE, whose CRCs must be
equal; a line that one member lacks keeps the later ones waiting until LINEWAIT decides it (R315). -/
def State.matchSource (src : BitVec 7) : Nat → State → State
  | 0, s => s
  | n + 1, s =>
    match s.pair.mine.find? (fun x => x.1.source == src), s.pair.notices.find? (fun x => x.1.source == src) with
    | some x, some y =>
      if !src.msb && x.1.number != y.1.number then s
      else
        let s := s.upPair (fun p => { p with mine := p.mine.eraseP (fun z => z.1.source == src),
                                             notices := p.notices.eraseP (fun z => z.1.source == src) })
        if src.msb then (s.orderInput (.eventLine (fld src 0 6))).matchSource src n
        else if x.1.crc = y.1.crc then (s.orderLine src.toNat x.1.number).matchSource src n
        else s.diverge 5 x.1.number
    | _, _ => s

/-- A line of slot k has met R22 on this member of a pair: the mate reports it, the lead matches it (R315). -/
def State.matchLine (k : Nat) (j : LineJob) (s : State) : State :=
  let n : Notice := { source := BitVec.ofNat 7 k, number := j.line, crc := crc32 j.planeBytes }
  let s := s.upSlot k (fun sl => { sl with jobs := sl.jobs.map (fun x => if x.id = j.id then { x with noticed := true } else x) })
  let s := s.upPair (fun p => { p with mine := p.mine ++ [(n, s.now)] })
  if s.isLead then s.matchSource n.source s.pair.mine.length else s.sendNotice n

/-- LINE_COMPLETE: the oldest line of a slot whose planes are all written (R22). -/
def execLineComplete (slot : BitVec 6) (s : State) : Answer :=
  let sl := s.slot slot.toNat
  match sl.jobs.find? (fun j => !j.noticed) with
  | none => .next s
  | some j =>
    if j.time.isNone || j.segs ≠ 0 then .next s
    else if s.paired then .next (s.matchLine slot.toNat j)
    else .next (s.recordLine slot.toNat (j.record (slot.toNat % 4) sl.dropSince))

/-- LINE_COPY_COMPLETE: the copy in progress has reached the staging ring through port B (R220). -/
def execLineCopyComplete (slot : BitVec 6) (s : State) : Answer :=
  match (s.slot slot.toNat).copying with
  | none => .next s
  | some (first, ls) =>
    let s := (List.range ls.length).foldl (fun s n => s.portBWrite (first + n) (ls.getD n 0)) s
    .next (s.upSlot slot.toNat (fun sl => { sl with copying := none }))

end Sys2Proof.Machine
end

