-- ==== Sys2Proof/Machine/HostReel.lean ====
section
/-!
DEFINITION. The host interface: functions and their ranges (R229), claps (R237, R238), fetching and the judgement of a
slate (R239 to R244), completion records and events (R240, R248 to R250), timeouts and late results (R251).
-/

namespace Sys2Proof.Machine

/-! ## Functions, ranges, handles -/

/-- FN_BASE of function f. -/
def State.fnBase (f : Nat) (s : State) : Nat := (Tab.get 0 s.host.base f).toNat
/-- FN_COUNT. -/
def State.fnCount (f : Nat) (s : State) : Nat := (Tab.get 0 s.host.count f).toNat

/-- The function that owns channel index ch: the VF whose range holds it, else PF 0 (R229). -/
def State.ownerOf (ch : Nat) (s : State) : Nat :=
  ((List.range 64).find? (fun f => f ≠ 0 && decide (s.fnBase f ≤ ch) && decide (ch < s.fnBase f + s.fnCount f))).getD 0

/-- The handle of a channel (R230). -/
def State.handle (ch : BitVec 18) (s : State) : BitVec 32 := ch ++ (s.chan ch).gen

/-- The generation after g (R230). -/
def nextGen (g : BitVec 14) : BitVec 14 := if g = 0x3FFF then 1 else g + 1

/-! ## Slates (Tables 8-9 to 8-13) -/

/-- n bytes of a slate from byte lo on, as a number. -/
def slNum (x : BitVec 512) (lo n : Nat) : Nat := (fld x (8 * lo) (8 * n)).toNat
/-- OPCODE. -/
def slOp (x : BitVec 512) : Nat := slNum x 0 1
/-- IRQ. -/
def slIrq (x : BitVec 512) : Bool := x.getLsbD 8
/-- SEQ. -/
def slSeq (x : BitVec 512) : BitVec 16 := fld x 16 16
/-- HANDLE. -/
def slHandle (x : BitVec 512) : BitVec 32 := fld x 32 32
/-- TAG. -/
def slTag (x : BitVec 512) : BitVec 32 := fld x 64 32
/-- TARGET. -/
def slTarget (x : BitVec 512) : BitVec 32 := fld x 96 32
/-- The index of TARGET. -/
def slTindex (x : BitVec 512) : BitVec 18 := fld x 110 18
/-- The generation of TARGET. -/
def slTgen (x : BitVec 512) : BitVec 14 := fld x 96 14

/-- Opcodes that the host interface executes (Table 8-10). -/
def hostOp (op : Nat) : Bool := op == 0 || op == 4 || op == 5 || op == 6

/-- Whether an opcode is valid on a channel with ADM as given (Table 8-10). -/
def opValid (adm : Bool) (op : Nat) : Bool :=
  op == 0 || op == 6 || (!adm && decide (op ≤ 5)) || (adm && decide (0x40 ≤ op) && decide (op ≤ 0x50))

/-- Body bits that an opcode assigns, as (first bit, width) (Tables 8-12 and 8-13). -/
def bodyFields (x : BitVec 512) : List (Nat × Nat) :=
  match slOp x with
  | 0x03 => [(128, 384)]
  | 0x04 => [(128, 128)]
  | 0x05 => [(128, 128)]
  | 0x40 => [(128, 128), (256, 4), (264, 3), (272, 6), (280, 16), (296, 1)]
  | 0x42 => [(128, 224)]
  | 0x44 => [(128, 4), (136, 2), (160, 256)]
  | 0x45 =>
    match slNum x 16 1 with
    | 0 => [(128, 8), (136, 3), (192, 64)]
    | 1 => [(128, 16), (192, 128)]
    | 2 => [(128, 8), (136, 2)]
    | _ => []
  | 0x46 => [(128, 2), (136, 2)]
  | 0x47 => [(128, 96)]
  | 0x48 => [(128, 96), (224, 256)]
  | 0x49 => [(128, 96), (224, 1)]
  | 0x4B => [(128, 160), (288, 1)]
  | 0x4C => [(128, 1)]
  | 0x4D => [(128, 6), (160, 128)]
  | 0x4E => [(128, 5), (134, 2), (160, 96)]
  | 0x4F => [(128, 5), (134, 2), (160, 96)]
  | 0x50 => [(128, 5), (134, 2), (136, 8), (160, 32)]
  | _ => []

/-- Every bit that a slate may set (R241). -/
def slateMask (x : BitVec 512) : BitVec 512 :=
  let header : List (Nat × Nat) := [(0, 9), (16, 80)] ++ (if slOp x < 0x40 then [] else [(96, 32)])
  (header ++ bodyFields x).foldl (fun m f => m ||| ((BitVec.allOnes f.2).setWidth 512 <<< f.1)) 0

/-- Bytes that hold a reserved encoding (Table 8-12): an unassigned port or rate code among them. -/
def badEncodings (x : BitVec 512) : List Nat :=
  let port := slNum x 16 1
  let ports := port / 64 == 1 || (port / 64 == 2 && decide (port % 32 < 16))
  match slOp x with
  | 0x45 =>
    if 2 < slNum x 16 1 then [16]
    else if slNum x 16 1 = 0 ∧ 5 < slNum x 17 1 then [17]
    else if slNum x 16 1 = 1 ∧ 16 < slNum x 17 1 then [17]
    else []
  | 0x46 => if slNum x 17 1 = 3 then [17] else []
  | 0x4D => if slNum x 16 1 = 0 then [16] else []
  | 0x4E => if ports then [] else [16]
  | 0x4F => if ports then [] else [16]
  | 0x50 =>
    let rate := slNum x 20 4
    (if ports then [] else [16]) ++ (if 2 < slNum x 17 1 then [17] else []) ++
      (if slNum x 17 1 = 2 ∧ (rate = 0 ∨ 12 < rate) then [20] else [])
  | _ => []

/-- The first byte that step 3 rejects, if any (Table 8-11). -/
def firstOffence (adm : Bool) (x : BitVec 512) : Option Nat :=
  if !opValid adm (slOp x) then some 0
  else
    let extra := x &&& ~~~ slateMask x
    (List.range 64).find? (fun i => fld extra (8 * i) 8 != 0 || (badEncodings x).contains i)

/-! ## Records -/

/-- The 16 bytes of a completion record (Table 8-14). -/
def recordBytes (tag result detail : BitVec 32) (seq : BitVec 16) (status : BitVec 8) (phase dup : Bool) : List Byte :=
  natBytes 4 tag.toNat ++ natBytes 4 result.toNat ++ natBytes 4 detail.toNat ++ natBytes 2 seq.toNat ++
    [status, bit1 phase ++ bit1 dup ++ (0#6)]

/-- The depth of the reels of a channel. -/
def Chan.depthOf (c : Chan) : Nat := 2 ^ c.depth.toNat

/-- Advance WRITE (R240). -/
def Chan.advance (c : Chan) : Chan :=
  if c.write.toNat + 1 = c.depthOf then { c with write := 0, phase := !c.phase } else { c with write := c.write + 1 }

/-- Whether records of a channel are written at all: not while a function reset drains it (R253), and on channel 0 only
with ADM_CQ.EN (Table 8-3). -/
def State.recording (ch : BitVec 18) (s : State) : Bool :=
  if ch = 0 then s.host.admCq.getLsbD 8 else !(s.chan ch).silent

/-- Write a completion record at WRITE, and its MSI-X message (R240, R250); in Double mode it is a compared output. -/
def State.writeRecord (ch : BitVec 18) (tag result detail : BitVec 32) (seq : BitVec 16) (status : BitVec 8) (dup irq : Bool)
    (s : State) : State :=
  if !s.recording ch then s
  else
    let c := s.chan ch
    let fn : BitVec 6 := BitVec.ofNat 6 (s.ownerOf ch.toNat)
    let addr : BitVec 64 := BitVec.ofNat 64 (65536 * c.cbase.toNat + 16 * c.write.toNat)
    let w : Out := .hostWrite fn addr (recordBytes tag result detail seq status c.phase dup)
    let outs := if irq || decide (3 ≤ status.toNat) then [w, .msix fn c.vec] else [w]
    (s.upChan ch Chan.advance).output 2 (recordBytes tag result detail seq status false dup) (.record outs)

/-- The record of a slate. -/
def State.recordFor (ch : BitVec 18) (x : BitVec 512) (status : BitVec 8) (result detail : BitVec 32) (dup : Bool)
    (s : State) : State :=
  let s := s.writeRecord ch (slTag x) result detail (slSeq x) status dup (slIrq x)
  s.logResult ch 4 0 s.tbNow (BitVec.ofNat 128 (bytesNat (recordBytes (slTag x) result detail (slSeq x) status false dup)))

/-- The class of a sequence number that the window still holds is set (R243). -/
def Chan.setClass (seq : BitVec 16) (cls : BitVec 2) (c : Chan) : Chan :=
  let k := (c.high - seq).toNat
  if k < 64 then { c with win := putFld c.win (2 * k) cls } else c

/-! ## Slates in execution -/

/-- The slate that a command of opcode op works on: the oldest one with a late result to come, else the one in
execution. -/
def Chan.job (op : Nat) (c : Chan) : Option Exec :=
  match c.stale.find? (fun e => slOp e.slate == op) with
  | some e => some e
  | none => c.exec.filter (fun e => slOp e.slate == op)

/-- Change that slate's record of execution. -/
def Chan.setJob (op : Nat) (f : Exec → Exec) (c : Chan) : Chan :=
  match c.stale.findIdx? (fun e => slOp e.slate == op) with
  | some k => { c with stale := c.stale.modify k f }
  | none => { c with exec := c.exec.map f }

/-- The slate waits for an end of its own. -/
def State.await (ch : BitVec 18) (op : Nat) (s : State) : State :=
  s.upChan ch (Chan.setJob op (fun e => { e with waiting := true }))

/-- The end of a slate: its one record, or, after a timeout, a late result that is discarded and counted (R251). -/
def State.finish (ch : BitVec 18) (op : Nat) (status : BitVec 8) (result detail : BitVec 32) (s : State) : State :=
  let c := s.chan ch
  match c.stale.findIdx? (fun e => slOp e.slate == op) with
  | some k => s.upChan ch (fun c => { c with stale := c.stale.eraseIdx k, late := satInc c.late })
  | none =>
    match c.exec with
    | none => s
    | some e =>
      if slOp e.slate ≠ op then s
      else
      let s := s.upChan ch (fun c => ({ c with exec := none }.setClass (slSeq e.slate) (status.setWidth 2 + 1)))
      s.recordFor ch e.slate status result detail false

/-- The slate succeeds. -/
def State.okay (ch : BitVec 18) (op : Nat) (result : BitVec 32) (s : State) : State := s.finish ch op 0 result 0

/-- The slate fails for a reason of Table 8-15, with DETAIL[31:8]. -/
def State.fail (ch : BitVec 18) (op : Nat) (reason : BitVec 8) (detail : BitVec 24) (s : State) : State :=
  s.finish ch op 1 0 (detail ++ reason)

/-- Run the slate that a command of opcode op names, when it is there and has not yet run. -/
def State.onSlate (ch : BitVec 18) (op : Nat) (body : BitVec 512 → State → State) (s : State) : Answer :=
  match (s.chan ch).job op with
  | some e => if e.waiting then .next s else .next (body e.slate s)
  | none => .next s

/-- Runtime slates run once RUNTIME is set; those of R254 wait for ARRAY too (R437), and for ARR to be ON (R428). -/
def State.onRuntime (array : Bool) (ch : BitVec 18) (op : Nat) (body : BitVec 512 → State → State) (s : State) : Answer :=
  if s.ready 14 && (!array || (s.ready 11 && s.dom 0 == 2)) then s.onSlate ch op body else .next s

/-- STATE of a channel as Table 8-4 encodes it. -/
def ChState.code : ChState → BitVec 3
  | .free => 0
  | .opened => 1
  | .bound => 2
  | .running => 3
  | .draining => 4

/-- Bytes 0 to 23 of a context (Table 8-4). -/
def Chan.context (c : Chan) : BitVec 192 :=
  c.gen ++ c.st.code ++ bit1 c.adm ++ c.pri ++ c.dom ++ (0#5) ++ c.high ++ c.win ++ c.tout ++ c.late

/-- The state of an encoding; the ones that never occur change nothing. -/
def stateOf (old : ChState) (v : BitVec 3) : ChState :=
  match v.toNat with
  | 0 => .free
  | 1 => .opened
  | 2 => .bound
  | 3 => .running
  | 4 => .draining
  | _ => old

/-- A context with bytes 0 to 23 as given. -/
def Chan.withContext (c : Chan) (v : BitVec 192) : Chan :=
  { c with gen := fld v 178 14, st := stateOf c.st (fld v 175 3), adm := v.getLsbD 174, pri := fld v 171 3, dom := fld v 165 6,
           high := fld v 144 16, win := fld v 16 128, tout := fld v 8 8, late := fld v 0 8 }

/-- FAILED WRONG_STATE (R233). -/
def State.wrongState (ch : BitVec 18) (op : Nat) (target : BitVec 18) (s : State) : State :=
  s.fail ch op 1 ((s.chan target).st.code.setWidth 24)

/-- BAD_ARG at a byte offset. -/
def State.badArg (ch : BitVec 18) (op : Nat) (byte : Nat) (s : State) : State := s.fail ch op 4 (BitVec.ofNat 24 byte)

/-! ## The mate's maintenance reel (R319) -/

/-- This member is the mate of a pair. -/
def State.isMate (s : State) : Bool := s.paired && !s.isLead

/-- Run a command on the mate with its maintenance reel in the place of channel 0, outside the pair's lockstep: its host interface and
Keeper serve it without its Director. -/
def State.onMaint (f : State → State) (s : State) : State :=
  let own := s.chan 0
  let t := f ((((s.upChan 0 (fun _ => s.pair.maint)).upPair (fun p => { p with st := .solo })).upRst
    (fun r => { r with rdy := setBit r.rdy 14 true })))
  let m := t.chan 0
  ((t.upChan 0 (fun _ => own)).upPair (fun p => { p with st := .paired, maint := m })).upRst
    (fun r => { r with rdy := setBit r.rdy 14 (s.ready 14) })

/-- A command of opcode op on channel ch of the mate works on the maintenance reel's slate when channel 0 executes none of that opcode. -/
def State.aside (ch : BitVec 18) (op : Nat) (f : State → Answer) (s : State) : Answer :=
  if s.isMate && ch == 0 && ((s.chan 0).job op).isNone && (s.pair.maint.job op).isSome then
    .next (s.onMaint (fun t => match f t with
      | .next u => u
      | _ => t))
  else f s

/-- What the mate executes from its maintenance reel: NOP, CHANNEL_INFO, LOG_READ, ATTEST. -/
def maintOp (op : Nat) : Bool := op == 0 || op == 0x4C || op == 0x4B || op == 0x48

/-! ## Claps (R237, R238) -/

/-- Slates available to fetch. -/
def Chan.avail (c : Chan) : Nat := (c.tail.toNat + c.depthOf - c.fetch.toNat) % c.depthOf

/-- Why a clap is dropped: everything R237 lists. -/
def State.clapBad (fn : BitVec 6) (off : BitVec 21) (len : BitVec 8) (w : BitVec 64) (s : State) : Bool :=
  let i : BitVec 18 := fld off 3 18
  let c := s.chan i
  len != 8 || fld off 0 3 != 0 || s.ownerOf i.toNat != fn.toNat || decide (c.st = .free) || fld w 32 14 != c.gen ||
    fld w 46 18 != 0 || fld w 29 3 != 0 || fld w 13 3 != 0 ||
    (w.getLsbD 12 && decide (c.depthOf ≤ (fld w 0 12).toNat)) || (w.getLsbD 28 && decide (c.depthOf ≤ (fld w 16 12).toNat))

/-- CLAP: an 8-byte write at 8 x index of BAR2 (R237, R238).  In Double mode the lead's TAIL and HEAD go to the mate as an ordered
input, and the mate takes claps of its maintenance reel alone (R314, R319). -/
def execClap (fn : BitVec 6) (off : BitVec 21) (len : BitVec 8) (payload : BitVec 64) (s : State) : Answer :=
  if !s.ready 9 then .next s
  else if s.clapBad fn off len payload then
    .next (s.upHost (fun h => { h with clapDrop := Tab.upd 0 h.clapDrop fn.toNat satInc }))
  else
    let i : BitVec 18 := fld off 3 18
    let move (c : Chan) : Chan :=
      { c with tail := if payload.getLsbD 12 then fld payload 0 12 else c.tail,
               head := if payload.getLsbD 28 then fld payload 16 12 else c.head }
    if s.isMate then .next (if i = 0 then s.upPair (fun p => { p with maint := move p.maint }) else s)
    else
      let s := s.upChan i move
      let c := s.chan i
      let s := if s.paired then s.orderInput (.clap i (c.tail.setWidth 16) (c.head.setWidth 16)) else s
      .next (if payload.getLsbD 12 && c.avail ≠ 0 then s.raiseIn (48 + c.pri.toNat) else s)

/-! ## Fetching (R239) -/

/-- Free slots of the completion reel. -/
def Chan.freeSlots (c : Chan) : Nat := (c.head.toNat + c.depthOf - 1 - c.write.toNat) % c.depthOf

/-- The channel may fetch its next slate (R239); not in the safe state (R321), nor after an uncorrectable word of its
context (CTX_ECC_UE), nor the runtime's slate while RUNTIME is 0 (R254). -/
def State.mayFetch (ch : Nat) (s : State) : Bool :=
  let c := s.chan (BitVec.ofNat 18 ch)
  decide (s.pair.st ≠ .safe) && decide (c.st ≠ .free) && s.recording (BitVec.ofNat 18 ch) && decide (c.avail ≠ 0) && c.exec.isNone &&
    decide ((if ch = 0 then 2 else 1) ≤ c.freeSlots) && fld c.ue 0 3 == 0 && s.host.link && s.ready 8 && s.ready 9 &&
    (!c.blocked || s.ready 14) && !s.pair.orders.any (fun o => match o.input with
      | .slate k _ => k.toNat == ch
      | _ => false)

/-- The channel served next: priority first, rotation within it (R239). -/
def State.served (s : State) : Option Nat :=
  let able := (s.host.chans.map (·.1)).filter (fun k => s.mayFetch k)
  able.foldl (fun best k =>
    match best with
    | none => some k
    | some b =>
      let c := s.chan (BitVec.ofNat 18 k)
      let d := s.chan (BitVec.ofNat 18 b)
      if d.pri < c.pri ∨ (d.pri = c.pri ∧ c.served < d.served) then some k else best) none

/-- What the judgement of Table 8-11 decides. -/
inductive Verdict where
  | record (status : BitVec 8) (detail : BitVec 32) (dup : Bool)
  | accept
  deriving DecidableEq, Repr

/-- The judgement of a slate on channel ch (R242, R243, R244). -/
def Chan.judge (c : Chan) (ch : BitVec 18) (x : BitVec 512) : Verdict :=
  let other := (slHandle x ^^^ (ch ++ (0#14))) &&& 0xFFFFC000
  if other ≠ 0 then
    .record 3 (BitVec.ofNat 32 (4 + (lowest other).getD 0 / 8)) false
  else if fld (slHandle x) 0 14 ≠ c.gen then .record 4 0 false
  else
    match firstOffence c.adm x with
    | some i => .record 3 (BitVec.ofNat 32 i) false
    | none =>
      let d := (slSeq x - c.high).toNat
      if d = 1 then .accept
      else if d = 0 ∨ 65473 ≤ d then
        let cls : BitVec 2 := fld c.win (2 * (c.high - slSeq x).toNat) 2
        if cls = 0 then .record 5 (c.high.setWidth 32) false else .record (cls.setWidth 8 - 1) 0 true
      else .record 5 (c.high.setWidth 32) false

/-- A slate is judged on channel ch, and accepted, recorded, or cancelled while the channel drains (R235). -/
def State.takeSlate (ch : BitVec 18) (x : BitVec 512) (s : State) : State :=
  let c := s.chan ch
  match c.judge ch x with
  | .record status detail dup => s.recordFor ch x status 0 detail dup
  | .accept =>
    let s := s.upChan ch (fun c => { c with high := slSeq x, win := c.win <<< 2 })
    if c.st = .draining then (s.upChan ch (Chan.setClass (slSeq x) 2)).recordFor ch x 6 0 0 false
    else s.upChan ch (fun c => { c with exec := some { slate := x, since := s.now, data := [], asked := 0, waiting := false } })

/-- The slate is read: FETCH moves on, and the channel has been served. -/
def State.readSlate (ch : BitVec 18) (s : State) : State :=
  let c := s.chan ch
  let s := s.upChan ch (fun c =>
    { c with fetch := BitVec.ofNat 12 ((c.fetch.toNat + 1) % c.depthOf), served := s.host.stamp + 1, blocked := false })
  let s := s.upHost (fun h => { h with stamp := h.stamp + 1 })
  s.emit (.hostRead (BitVec.ofNat 6 (s.ownerOf ch.toNat))
    (BitVec.ofNat 64 (4096 * c.sbase.toNat + 64 * c.fetch.toNat)) 64)

/-- The mate takes a slate of its maintenance reel; every opcode but those of R319 ends FAILED DENIED. -/
def State.maintFetch (slate : BitVec 512) (s : State) : State :=
  if !s.mayFetch 0 then s
  else
    let s := (s.readSlate 0).takeSlate 0 slate
    match (s.chan 0).exec with
    | some e => if maintOp (slOp e.slate) then s else s.fail 0 (slOp e.slate) 2 0
    | none => s

/-- SLATE_FETCH: the next slate of the channel that is served next; a runtime slate only once RUNTIME is set (R437): until
then its channel stands back, and the others are served (R254).  Reading the context checks its words (detectors 12 and 13). -/
def execSlateFetch (ch : BitVec 18) (slate : BitVec 512) (s : State) : Answer :=
  if s.isMate then .next (if ch = 0 then s.onMaint (State.maintFetch slate) else s)
  else if s.served ≠ some ch.toNat then .next s
  else if !hostOp (slOp slate) && !s.ready 14 then .next (s.upChan ch (fun c => { c with blocked := true }))
  else
    let r := s.ctxRead ch 0 3
    if fld r.1 0 3 ≠ 0 then .next r.2
    else
      let s := r.2.readSlate ch
      .next (if s.paired then s.orderInput (.slate ch slate) else s.takeSlate ch slate)

/-! ## Event records (R249) -/

/-- A fetched slate of a channel awaits its record: in execution, or ordered and not yet delivered (R239, R314). -/
def State.holdsSlate (ch : BitVec 18) (s : State) : Bool :=
  (s.chan ch).exec.isSome || s.pair.orders.any (fun o => match o.input with
    | .slate k _ => k == ch
    | _ => false)

/-- The next event record goes to channel 0 when it has a free slot that no fetched slate holds. -/
def State.writeEvent (s : State) : State :=
  let c := s.chan 0
  let need := if s.holdsSlate 0 then 2 else 1
  if !s.host.admCq.getLsbD 8 || c.freeSlots < need then s
  else
    let lost := s.host.evLost
    let put (code : BitVec 16) (data : BitVec 32) (time : BitVec 64) (s : State) : State :=
      let c := s.chan 0
      let addr : BitVec 64 := BitVec.ofNat 64 (65536 * c.cbase.toNat + 16 * c.write.toNat)
      let bytes := recordBytes (fld time 0 32) (fld time 32 32) data code 7 c.phase false
      let s := ((s.upChan 0 Chan.advance).toHost (.hostWrite 0 addr bytes)).toHost (.msix 0 c.vec)
      if s.paired then s.orderInput .eventSlot else s
    if lost ≠ 0 then
      put 7 lost s.tbNow (s.upHost (fun h => { h with evLost := 0 }))
    else
      match s.host.evq with
      | [] => s
      | r :: rest => put r.code r.data r.time (s.upHost (fun h => { h with evq := rest }))

/-- EVENT_RECORD_WRITE (R249); on a mate the record goes to its maintenance reel. -/
def execEventRecordWrite (s : State) : Answer := .next (if s.isMate then s.onMaint State.writeEvent else s.writeEvent)

/-! ## Staging windows -/

/-- Bytes of a channel's staging window, from byte off on (R350). -/
def State.winRead (first off n : Nat) (s : State) : List Byte × State :=
  let lines := (List.range (n / 64 + 2)).map (fun k => off / 64 + k)
  let r := lines.foldl (fun (acc : List Byte × State) l =>
    if 64 * l < off + n ∧ off < 64 * l + 64 then
      let x := acc.2.bankRead ((first + l) / 16384) ((first + l) % 16384)
      (acc.1 ++ natBytes 64 x.1.toNat, x.2.2)
    else acc) ([], s)
  ((r.1.drop (off % 64)).take n, r.2)

/-- Write bytes into a channel's staging window from byte off on; whole words take fresh check bits. -/
def State.winWrite (first off : Nat) (bytes : List Byte) (s : State) : State :=
  let n := bytes.length
  (List.range (n / 64 + 2)).foldl (fun s k =>
    let l := off / 64 + k
    let lo := max off (64 * l)
    let hi := min (off + n) (64 * l + 64)
    if lo < hi then
      let lanes : BitVec 64 := BitVec.ofNat 64 ((2 ^ (hi - lo) - 1) * 2 ^ (lo - 64 * l))
      let v : BitVec 512 := BitVec.ofNat 512 (bytesNat ((bytes.drop (lo - off)).take (hi - lo)) * 2 ^ (8 * (lo - 64 * l)))
      s.portAWrite ((first + l) / 16384) ((first + l) % 16384) lanes v
    else s) s

/-- Zero whole staging lines (R232). -/
def State.winZero (first lines : Nat) (s : State) : State :=
  s.upBanks (fun k =>
    { k with mem := k.mem.filter (fun e => decide (e.1 < 64 * first) || decide (64 * (first + lines) ≤ e.1)),
             poison := k.poison.filter (fun e => decide (e.1 < 8 * first) || decide (8 * (first + lines) ≤ e.1)) })

/-! ## Timeouts (R251) -/

/-- The timeout of TOUT in ns; 0 is none. -/
def toutNs (t : BitVec 8) : Nat := (fld t 0 6).toNat * 10000 * 10 ^ (fld t 6 2).toNat

/-- The window range of a PUT that timed out holds undefined data: free values (log entry 2). -/
def State.spoilPut (c : Chan) (x : BitVec 512) (s : State) : State :=
  match c.recipe with
  | none => s
  | some r =>
    let n := slNum x 24 4
    let bytes := (List.range n).map (fun i => Config.freeBits 8 (s.free + i))
    { (s.winWrite r.win (slNum x 28 4) bytes) with free := s.free + n }

/-- A channel wants no more of what its reads bring (R251). -/
def State.dropReads (ch : BitVec 18) (s : State) : State :=
  s.upHost (fun h => { h with reads := h.reads.map (fun r => if r.ch = ch then { r with live := false } else r) })

/-- SLATE_TIMEOUT: the channel timeout fires first (R251). -/
def execSlateTimeout (ch : BitVec 18) (s : State) : Answer :=
  let c := s.chan ch
  match c.exec with
  | none => .next s
  | some e =>
    if ch = 0 || c.tout = 0 || s.now < e.since + toutNs c.tout then .next s
    else
      let op := slOp e.slate
      let s := if op = 4 && e.waiting then (s.spoilPut c e.slate).dropReads ch else s
      let s := s.upChan ch (fun c =>
        ({ c with exec := none, stale := if hostOp op then c.stale else c.stale ++ [e] }.setClass (slSeq e.slate) 3))
      .next (s.recordFor ch e.slate 2 0 0 false)

end Sys2Proof.Machine
end

