-- ==== Sys2Proof/Machine/HostWork.lean ====
section
/-!
DEFINITION. Work slates and the admin slates that need no proof (R245 to R247): their effects on channels, reels, staging
windows and the management path; DMA reads, the PCIe link, and channels that end (R230 to R235).
-/

namespace Sys2Proof.Machine

/-! ## Targets (R247) -/

/-- The checks every slate with a TARGET makes first: PF, range, generation, and a context that is stopped (CTX_ECC_UE). -/
def State.onTarget (ch : BitVec 18) (op : Nat) (x : BitVec 512) (body : BitVec 18 → State → State) (s : State) : State :=
  let t := slTindex x
  if s.ownerOf t.toNat ≠ s.ownerOf ch.toNat then s.fail ch op 2 0
  else
    let c := s.chan t
    if decide (c.st = .free) || c.gen != slTgen x then s.fail ch op 13 0
    else
      let r := s.ctxRead t 0 3
      if fld r.1 0 3 ≠ 0 && op ≠ 0x41 then r.2.wrongState ch op t else body t r.2

/-- Opcodes marked PF run on channels of PF 0 only. -/
def State.onPf (ch : BitVec 18) (op : Nat) (body : State → State) (s : State) : State :=
  if s.ownerOf ch.toNat ≠ 0 then s.fail ch op 2 0 else body s

/-- Data and messages that only the lead of a pair sends to the host. -/
def State.hostData (o : Out) (s : State) : State := if s.paired && !s.isLead then s else s.toHost o

/-! ## Transfers on the host link (Table 8-1) -/

/-- The pieces, as (address, bytes), of n bytes from address a on, each ending at a multiple of `size`. -/
def cuts (size : Nat) : Nat → Nat → Nat → List (Nat × Nat)
  | 0, _, _ => []
  | fuel + 1, a, n =>
    if n = 0 then []
    else
      let k := min n (size - a % size)
      (a, k) :: cuts size fuel (a + k) (n - k)

/-- The requests of a transfer of n bytes at host address a: none exceeds `size` nor crosses a multiple of it. -/
def hostCuts (size a n : Nat) : List (Nat × Nat) := cuts size (n / size + 2) a n

/-- Max Payload Size in bytes: at most 512 (Table 8-1). -/
def HostIf.payload (h : HostIf) : Nat := 128 * 2 ^ min 2 h.mps.toNat

/-- Max Read Request Size in bytes: at most 4,096. -/
def HostIf.readSize (h : HostIf) : Nat := 128 * 2 ^ min 5 h.mrrs.toNat

/-- Bytes written to host memory from address a on by function fn, in writes of at most Max Payload Size; the lead of a
pair sends them (DESIGN CHOICE, log entry 58: where a longer transfer is cut). -/
def State.dmaWrite (fn : BitVec 6) (a : Nat) (bytes : List Byte) (s : State) : State :=
  (hostCuts s.host.payload a bytes.length).foldl (fun s r =>
    s.hostData (.hostWrite fn (BitVec.ofNat 64 r.1) ((bytes.drop (r.1 - a)).take r.2))) s

/-- The function that owns a channel, as an identifier. -/
def State.fnOf (ch : BitVec 18) (s : State) : BitVec 6 := BitVec.ofNat 6 (s.ownerOf ch.toNat)

/-- A received TLP: an armed injection of PCIE_CE makes it fail its LCRC once (bit 6, Bad TLP, of the AER correctable
status; log entry 16). -/
def State.tlp (s : State) : State :=
  if s.armedFor 31 (fun _ _ => true) then (s.fired.occur 31 0 6 true).emit (.aerCorrectable 6) else s

/-! ## NOP, MARK, PUT, GET (R245) -/

/-- NOP on any channel. -/
def execSlateNop (ch : BitVec 18) (s : State) : Answer :=
  s.aside ch 0 (fun s => s.onSlate ch 0 (fun _ s => s.okay ch 0 0))

/-- MARK: the timebase, latched at execution; in Double mode the time both members share (log entry 17). -/
def execMark (ch : BitVec 18) (s : State) : Answer :=
  s.onSlate ch 6 (fun _ s => let t := s.dirTime; s.finish ch 6 0 (fld t 0 32) (fld t 32 32))

/-- The first bad argument of a PUT or GET (R245). -/
def xferBad (x : BitVec 512) (wlen : Nat) : Option Nat :=
  let n := slNum x 24 4
  let off := slNum x 28 4
  if slNum x 16 8 % 8 ≠ 0 then some 16
  else if n % 8 ≠ 0 ∨ n < 8 ∨ 1048576 < n then some 24
  else if off % 8 ≠ 0 ∨ 64 * wlen < off + n then some 28
  else none

/-- PUT and GET need BOUND or RUNNING and good arguments. -/
def State.xfer (ch : BitVec 18) (op : Nat) (x : BitVec 512) (body : Recipe → State → State) (s : State) : State :=
  let c := s.chan ch
  if c.st ≠ .bound ∧ c.st ≠ .running then s.wrongState ch op ch
  else
    match c.recipe with
    | none => s.badArg ch op 28
    | some r =>
      match xferBad x r.wlen with
      | some b => s.badArg ch op b
      | none => body r s

/-- The reads of a PUT in execution that are still to be issued, as far as the 768 outstanding allow (Table 8-1); the mate
of a pair issues none. -/
def State.askReads (ch : BitVec 18) (s : State) : State :=
  match (s.chan ch).exec with
  | none => s
  | some e =>
    if slOp e.slate ≠ 4 || !e.waiting || (s.paired && !s.isLead) then s
    else
      let a := slNum e.slate 16 8 + e.asked
      let rs := (hostCuts s.host.readSize a (slNum e.slate 24 4 - e.asked)).take (768 - s.host.reads.length)
      let s := rs.foldl (fun s r => s.toHost (.hostRead (s.fnOf ch) (BitVec.ofNat 64 r.1) r.2)) s
      (s.upHost (fun h => { h with reads := h.reads ++ rs.map (fun r => { ch := ch, left := r.2, live := true }) })).upChan ch
        (fun c => { c with exec := c.exec.map (fun e => { e with asked := e.asked + (rs.map (·.2)).sum }) })

/-- PUT: the reads of host memory are issued. -/
def execPut (ch : BitVec 18) (s : State) : Answer :=
  s.onSlate ch 4 (fun x s => s.xfer ch 4 x (fun _ s => (s.await ch 4).askReads ch))

/-- GET: the window goes to host memory; every write is issued before the record (R253). -/
def execGet (ch : BitVec 18) (s : State) : Answer :=
  s.onSlate ch 5 (fun x s => s.xfer ch 5 x (fun r s =>
    let d := s.winRead r.win (slNum x 28 4) (slNum x 24 4)
    (d.2.dmaWrite (s.fnOf ch) (slNum x 16 8) d.1).okay ch 5 0))

/-- Data of a PUT reaches the bank; OK when every byte is there. -/
def State.putData (ch : BitVec 18) (data : List Byte) (s : State) : State :=
  let c := s.chan ch
  match c.exec, c.recipe with
  | some e, some r =>
    if slOp e.slate ≠ 4 || !e.waiting then s
    else
      let n := slNum e.slate 24 4
      let part := data.take (n - e.data.length)
      let s := s.winWrite r.win (slNum e.slate 28 4 + e.data.length) part
      let s := s.upChan ch (fun c => { c with exec := c.exec.map (fun e => { e with data := e.data ++ part }) })
      if n ≤ e.data.length + part.length then s.okay ch 4 0 else s
  | _, _ => s

/-- Opcodes whose execution reads host memory. -/
def readsHost (op : Nat) : Bool := op == 4 || op == 0x42 || op == 0x49 || op == 0x4E

/-- The slate of a channel that has a DMA read outstanding. -/
def Chan.reading (c : Chan) : Option Exec :=
  c.exec.filter (fun e => readsHost (slOp e.slate) && (e.waiting == decide (slOp e.slate = 4)))

/-- The slate that has a DMA read outstanding ends FAILED DMA_ERROR (R252). -/
def State.failDma (ch : BitVec 18) (code : BitVec 8) (s : State) : State :=
  match (s.chan ch).reading with
  | none => s
  | some e => s.fail ch (slOp e.slate) 5 (code.setWidth 24)

/-- A DMA read fails: PCIE_UE, and the slate's end (detector 32, R252), which is an ordered input of a pair (R314). -/
def State.dmaFailed (ch : BitVec 18) (code : BitVec 8) (inj : Bool) (s : State) : State :=
  if (s.chan ch).reading.isNone then s
  else
    let info : BitVec 14 := code ++ s.fnOf ch
    let s := s.occur 32 (s.chanId ch) (info.setWidth 64) inj
    if s.paired then (if s.isLead then s.orderInput (.dmaError ch code) else s) else s.failDma ch code

/-- The oldest read outstanding for a channel. -/
def HostIf.oldestRead (ch : BitVec 18) (h : HostIf) : Option HostRd := h.reads.find? (fun r => r.ch == ch)

/-- n bytes of that read have come; 0 ends it. -/
def HostIf.readCame (ch : BitVec 18) (n : Nat) (h : HostIf) : HostIf :=
  match h.reads.findIdx? (fun r => r.ch == ch) with
  | none => h
  | some k =>
    { h with reads := match h.reads[k]? with
        | some r => if n = 0 ∨ r.left ≤ n then h.reads.eraseIdx k else h.reads.modify k (fun r => { r with left := r.left - n })
        | none => h.reads }

/-- Room among the 768: the PUTs that still have reads to issue go on. -/
def State.moreReads (s : State) : State :=
  (s.host.chans.map (·.1)).foldl (fun s k => s.askReads (BitVec.ofNat 18 k)) s

/-- DMA_READ_COMPLETION: a completion of a device read for ch, in the order of its reads; what comes for a PUT that has
ended is discarded (R251). -/
def execDmaReadCompletion (ch : BitVec 18) (status : BitVec 8) (poisoned : Bool) (data : List Byte) (s : State) : Answer :=
  let dead := match s.host.oldestRead ch with
    | some r => !r.live
    | none => false
  match (s.chan ch).reading with
  | none => .next ((s.upHost (HostIf.readCame ch data.length)).moreReads)
  | some e =>
    let s := s.tlp
    let inj := s.armedFor 32 (fun u _ => u == s.ownerOf ch.toNat)
    let s := if inj then s.fired else s
    let failed := decide (status ≠ 0) || poisoned || inj
    let s := s.upHost (HostIf.readCame ch (if failed then 0 else data.length))
    if dead then .next s.moreReads
    else if failed then .next (((s.dropReads ch).dmaFailed ch status inj).moreReads)
    else if slOp e.slate ≠ 4 then .next s
    else if s.paired then .next (if s.isLead then (s.orderInput (.putData ch data)).moreReads else s)
    else .next (s.putData ch data).moreReads

/-- DMA_COMPLETION_TIMEOUT: the oldest read of ch has had no completion in time (R252). -/
def execDmaCompletionTimeout (ch : BitVec 18) (s : State) : Answer :=
  let dead := match s.host.oldestRead ch with
    | some r => !r.live
    | none => false
  let s := s.upHost (HostIf.readCame ch 0)
  .next (if dead then s.moreReads else ((s.dropReads ch).dmaFailed ch 0xFF false).moreReads)

/-! ## The PCIe link (detector 33) -/

/-- PCIE_LINKDOWN: fetching stops, writes hold. -/
def execPcieLinkdown (ltssm : BitVec 8) (s : State) : Answer :=
  if !s.host.link then .next s
  else
    let inj := s.armedFor 33 (fun _ _ => true)
    let s := if inj then s.fired else s
    .next ((s.occur 33 0 (ltssm.setWidth 64) inj).upHost (fun h => { h with link := false }))

/-- PCIE_LINK_RETURN: the writes held issue in order. -/
def execPcieLinkReturn (s : State) : Answer :=
  let q := s.host.outq
  if Tab.get false s.rst.pllLost 0 then .next s
  else .next ({ s with out := s.out ++ q }.upHost (fun h => { h with link := true, outq := [] }))

/-! ## STOP and MSG (R233, R246) -/

/-- STOP: the recipe is told to stop at its next object boundary. -/
def execStop (ch : BitVec 18) (s : State) : Answer :=
  s.onRuntime true ch 2 (fun _ s =>
    if (s.chan ch).st ≠ .running then s.wrongState ch 2 ch else s.await ch 2)

/-- STOP_COMPLETE: the recipe has stopped: BOUND; the cue list holds CUEMAX 0 for it (R267).  On a channel that has begun to
drain meanwhile the STOP ends OK and the channel drains on (log entry 39). -/
def execStopComplete (ch : BitVec 18) (s : State) : Answer :=
  match (s.chan ch).job 2 with
  | none => .next s
  | some e =>
    if e.waiting && decide ((s.chan ch).st = .draining) then .next (s.okay ch 2 0)
    else if !e.waiting || (s.chan ch).st ≠ .running then .next s
    else
      let s := (s.upChan ch (fun c => { c with st := .bound })).upCue (fun c => { c with cueMax := Tab.set 0 c.cueMax ch.toNat 0 })
      .next (s.okay ch 2 0)

/-- Readable regions of a domain with room for 16 words: first address and how many starts (R185). -/
def Dsys.msgRooms (y : Dsys) (dom : Nat) : List (Nat × Nat) :=
  (List.range 8).filterMap (fun r =>
    let lo := Tab.get 0 y.rglo (8 * dom + r)
    let first := (fld lo 0 10).toNat
    let last := (Tab.get 0 y.rghi (8 * dom + r)).toNat
    if lo.getLsbD 23 && first ≤ last then some (256 * first, 256 * (last + 1 - first) - 15) else none)

/-- The data address of the 16 words of an MSG: in a readable region of the domain; which one is Envor's, a free value
(log entry 18). -/
def State.msgAddr (dom : BitVec 6) (s : State) : Nat :=
  let rooms := s.sys.msgRooms dom.toNat
  let v := (s.freeVal 36).toNat
  match rooms[v % max 1 rooms.length]? with
  | some r => r.1 + v / 262144 % r.2
  | none => v % 262144

/-- The TRIG 3 path of a channel, with its place in the path table. -/
def Chan.msgPath (c : Chan) : Option (Path × Nat) :=
  c.recipe.bind (fun r => r.paths.zipIdx.find? (fun p => p.1.trig == 3))

/-- Envor starts a path of a channel by a CALL from its dispatcher, with X as given and the channel in force (R187, R246,
R269); log entry 18 says what else the CALL finds. -/
def State.startPath (ch : BitVec 18) (r : Recipe) (p : Path) (x : Word) (s : State) : State :=
  if s.dir.run ≠ .running ∨ 14 ≤ s.dir.cwp.toNat then s
  else
    let w := s.dir.cwp.toNat + 1
    (s.upDir (fun d =>
      { d.setSaved w 8 (0#6 ++ d.pc) with
        cwp := d.cwp + 1
        pc := BitVec.ofNat 18 (r.prog + p.entry)
        x := x
        hold := .none })).upSys (fun y =>
      { y with
        chid := (s.chan ch).dom ++ ch
        ext := none
        rep := none
        ld := none })

/-- MSG: the 48 bytes go to Director data memory, and the path with TRIG 3 starts with X at the first word (R246). -/
def execMsg (ch : BitVec 18) (s : State) : Answer :=
  s.onRuntime true ch 3 (fun x s =>
    let c := s.chan ch
    if c.st ≠ .running then s.wrongState ch 3 ch
    else
      match c.recipe, c.msgPath with
      | some r, some (p, i) =>
        let run := c.activate i p.mingap s.now
        let s := s.upChan ch (fun _ => run.2)
        if !run.1 then s.fail ch 3 9 0xFFFFFE
        else
          let a := s.msgAddr c.dom
          let s := (List.range 16).foldl (fun s k =>
            s.putWord (BitVec.ofNat 18 (a + k)) (fld x (128 + 24 * k) 24)) s.took
          (s.await ch 3).startPath ch r p (BitVec.ofNat 24 a)
      | _, _ => s.fail ch 3 9 0xFFFFFF)

/-- MSG_ANSWER: the path answers by TRAP 0x21, or has ended otherwise (R246). -/
def execMsgAnswer (ch : BitVec 18) (s : State) : Answer :=
  match (s.chan ch).job 3 with
  | none => .next s
  | some e =>
    if !e.waiting then .next s
    else
      let w := s.dir.cwp.toNat
      if fld s.sys.tcause 0 8 = 0x21 ∧ fld (s.dir.saved w 16) 0 18 = ch then
        let answer : BitVec 32 := fld (s.dir.saved w 12) 0 8 ++ s.dir.saved w 9
        let g0 := Tab.get 0 s.dir.wreg (physReg (w + 15) 0)
        .next (if g0 = 0 then s.okay ch 3 answer else s.finish ch 3 1 answer (g0 ++ 0x09#8))
      else .next (s.fail ch 3 9 0xFFFFFE)

/-! ## Channels that begin and end (R230 to R235) -/

/-- The lowest of n indices from k on that is FREE, was never used, and belongs to function f. -/
def State.freshIndex (f : Nat) (s : State) : Nat → Nat → Option Nat
  | 0, _ => none
  | n + 1, k =>
    let c := s.chan (BitVec.ofNat 18 k)
    if c.st = .free ∧ c.freed = 0 ∧ s.ownerOf k = f then some k else s.freshIndex f n (k + 1)

/-- The FREE index of function f's range that has been free the longest (R230). -/
def State.takeIndex (f : Nat) (s : State) : Option Nat :=
  match s.freshIndex f (s.fnCount f) (s.fnBase f) with
  | some k => some k
  | none =>
    (s.host.chans.filter (fun e => decide (e.2.st = .free) && s.ownerOf e.1 == f)).foldl (fun best e =>
      match best with
      | none => some e.1
      | some b => if e.2.freed < (s.chan (BitVec.ofNat 18 b)).freed then some e.1 else some b) none

/-- The first bad argument of CREATE_CHANNEL (Table 8-12). -/
def createBad (x : BitVec 512) : Option Nat :=
  let t : BitVec 8 := BitVec.ofNat 8 (slNum x 35 1)
  if slNum x 16 8 % 4096 ≠ 0 ∨ 2 ^ 47 ≤ slNum x 16 8 then some 16
  else if slNum x 24 8 % 65536 ≠ 0 ∨ 2 ^ 47 ≤ slNum x 24 8 then some 24
  else if slNum x 32 1 < 4 ∨ 12 < slNum x 32 1 then some 32
  else if t ≠ 0 ∧ toutNs t < 50000 then some 35
  else none

/-- The context and reels that CREATE_CHANNEL writes (R231, R236); the generation and the save frame stay. -/
def Chan.created (x : BitVec 512) (c : Chan) : Chan :=
  { Chan.free with
    gen := c.gen, frame := c.frame, ue := c.ue &&& 0xF8, st := .opened, adm := x.getLsbD 296, pri := fld x 264 3,
    dom := fld x 272 6, tout := fld x 280 8, depth := fld x 256 4, sbase := fld x 140 35, phase := true, vec := fld x 288 8,
    cbase := fld x 208 31 }

/-- CREATE_CHANNEL.  DESIGN CHOICE (log entry 40): among several offences BAD_ARG comes first, then DENIED, then NO_SPACE. -/
def execCreateChannel (ch : BitVec 18) (s : State) : Answer :=
  s.onRuntime false ch 0x40 (fun x s =>
    let f := s.ownerOf ch.toNat
    match createBad x with
    | some b => s.badArg ch 0x40 b
    | none =>
      if !(Tab.get 0 s.host.dom f).getLsbD (slNum x 34 1) then s.fail ch 0x40 2 0
      else
        match s.takeIndex f with
        | none => s.fail ch 0x40 3 1
        | some k =>
          let i : BitVec 18 := BitVec.ofNat 18 k
          let s := s.upChan i (Chan.created x)
          s.okay ch 0x40 (s.handle i))

/-- A slot stops receiving for its channel: lines admitted complete under R223. -/
def State.stopSlots (ch : BitVec 18) (s : State) : State :=
  s.upIng (fun g =>
    { g with slots := (List.range 64).foldl (fun t k =>
        let sl := Tab.get Slot.reset t k
        if sl.src.msb && fld sl.chan 0 18 == ch then
          Tab.set Slot.reset t k { sl.closeRx with src := setBit sl.src 31 false }
        else t) g.slots })

/-- A channel's cue pins are released, each once its last pending entry has fired (R265). -/
def State.releasePins (ch : BitVec 18) (pins : List Nat) (s : State) : State :=
  s.upCue (fun c =>
    let mine := pins.filter (fun k => Tab.get 0 c.owner k == ch.toNat + 1)
    let c := { c with release := mine.foldl (fun t k => Tab.set false t k true) c.release }
    c.dropPins mine)

/-- The planes and the staging window of a recipe are written to zero (R232). -/
def State.zeroAlloc (r : Recipe) (s : State) : State :=
  let planes := (List.range 4).flatMap (fun b => (List.range (r.pcnt.getD b 0)).map (fun k => 1024 * b + r.pbase.getD b 0 + k))
  (s.upArr (fun a => planes.foldl (fun a p => a.putPlane p 0) a)).winZero r.win r.wlen

/-- The segments of a slot's lines, by slot and job, no longer wait at any shadow port. -/
def Arr.forget (a : Arr) (gone : List (Nat × Nat)) : Arr :=
  let is (g : Seg) : Bool := gone.any (fun x => x.1 == g.slot.toNat && x.2 == g.line)
  { a with shHead := a.shHead.filter (fun e => match e.2 with | some g => !is g | none => false),
           shQueue := (a.shQueue.map (fun (e : Nat × List Seg) => (e.1, e.2.filter (fun g => !is g)))).filter
             (fun e => !e.2.isEmpty) }

/-- The runtime zeroes a released channel's planes and window once the lines admitted for it are in them: of those still on their
way to the planes, and of a copy into the window, nothing is left to write (R223, R232). -/
def State.settleLines (ch : BitVec 18) (r : Recipe) (s : State) : State :=
  let mine (j : LineJob) : Bool := j.chan == ch && j.time.isSome
  let gone := s.ing.slots.flatMap (fun e => (e.2.jobs.filter mine).map (fun j => (e.1, j.id)))
  (s.upArr (fun a => a.forget gone)).upIng (fun i =>
    { i with slots := i.slots.map (fun (e : Nat × Slot) => (e.1,
        { e.2 with jobs := e.2.jobs.map (fun j => if mine j then { j with segs := 0, queued := true } else j),
                   copying := e.2.copying.filter (fun c => decide (c.1 < r.win) || decide (r.win + r.wlen ≤ c.1)) })) })

/-- The planes, the window, the scripts and the slots of a channel's recipe are released: planes and window are zeroed
(R232), the retained image goes. -/
def State.releaseRecipe (ch : BitVec 18) (s : State) : State :=
  match (s.chan ch).recipe with
  | none => s
  | some r =>
    let s := (((s.stopSlots ch).releasePins ch (List.range 384)).settleLines ch r).zeroAlloc r
    let s := s.upSeq (fun q =>
      { q with images := q.images.filter (fun p => p.ch ≠ some ch),
               table := r.img.dir.foldl (fun t d => Tab.set 0 t (dirIndex d).toNat 0) q.table })
    (s.upCue (fun c => { c with cueMax := Tab.set 0 c.cueMax ch.toNat 0 })).upChan ch (fun c =>
      { c with recipe := none, acts := [], out := { crew := [], mac := false, sign := false } })

/-- The channel reaches FREE and its generation advances (R230, R235); its key window is removed (R262).
Its reel descriptors stand until CREATE_CHANNEL sets them (R236). -/
def State.freeChannel (ch : BitVec 18) (s : State) : State :=
  let s := s.releaseRecipe ch
  let stamp := s.host.stamp + 1
  let s := s.upChan ch (fun c =>
    { Chan.free with
      gen := nextGen c.gen, frame := c.frame, ue := c.ue &&& 0xF8, freed := stamp, fetch := c.fetch, tail := c.tail,
      depth := c.depth, sbase := c.sbase, write := c.write, head := c.head, phase := c.phase, vec := c.vec, cbase := c.cbase })
  (s.upHost (fun h => { h with stamp := stamp })).upCue (fun c => { c with keys := Tab.set none c.keys ch.toNat none })

/-- A channel begins to drain (R234). -/
def State.startDrain (ch : BitVec 18) (by_ : Option (BitVec 18)) (silent : Bool) (s : State) : State :=
  (s.stopSlots ch).upChan ch (fun c => { c with st := .draining, destroyer := by_, silent := silent })

/-- DESTROY_CHANNEL (R233 to R235, R253): the record follows every record of the target. -/
def execDestroyChannel (ch : BitVec 18) (s : State) : Answer :=
  s.onRuntime false ch 0x41 (fun x s => s.onTarget ch 0x41 x (fun t s =>
    let c := s.chan t
    if t = 0 then s.fail ch 0x41 2 0
    else if fld c.ue 0 3 ≠ 0 then (s.okay ch 0x41 0).freeChannel t
    else
      match c.st with
      | .opened => if t ≠ ch ∧ c.exec.isSome then s else (s.okay ch 0x41 0).freeChannel t
      | .bound => if t ≠ ch ∧ c.exec.isSome then s else (s.okay ch 0x41 0).freeChannel t
      | .running => (s.startDrain t (some ch) false).await ch 0x41
      | _ => s.wrongState ch 0x41 t))

/-- Whether the channel's deadline has passed after the time of its last line recorded (R234). -/
def Chan.overdue (c : Chan) (now : BitVec 64) : Bool :=
  match c.recipe with
  | some r => c.lastLine != 0 && decide (c.lastLine.toNat + r.deadline ≤ now.toNat)
  | none => false

/-- The recipe of a draining channel is idle or has been stopped: its STOP that waits ends OK, its MSG that waits ends as
one whose path ended without an answer (R246; log entry 39). -/
def State.endWaiting (ch : BitVec 18) (s : State) : State :=
  match (s.chan ch).exec with
  | none => s
  | some e =>
    if !e.waiting then s
    else if slOp e.slate = 2 then s.okay ch 2 0
    else if slOp e.slate = 3 then s.fail ch 3 9 0xFFFFFE
    else s

/-- DRAIN_END: the recipe is idle, or the deadline has passed; slates clapped have all been fetched (R234, R235).  On a channel that
destroys itself none can be, since its DESTROY_CHANNEL holds the place of the slate in execution (log entry 39). -/
def execDrainEnd (ch : BitVec 18) (idle : Bool) (s : State) : Answer :=
  let c := s.chan ch
  let s' := s.endWaiting ch
  if c.st ≠ .draining || !(idle || c.overdue s.tbNow || c.silent) then .next s
  else if !c.silent && c.destroyer != some ch && (c.avail ≠ 0 || (s'.chan ch).exec.isSome) then .next s'
  else
    let s := s'
    let s := match c.destroyer with
      | some a => if c.silent then s else s.okay a 0x41 0
      | none => s
    .next (s.freeChannel ch)

/-- UNBIND (R233). -/
def execUnbind (ch : BitVec 18) (s : State) : Answer :=
  s.onRuntime true ch 0x43 (fun x s => s.onTarget ch 0x43 x (fun t s =>
    if (s.chan t).st ≠ .bound then s.wrongState ch 0x43 t
    else ((s.releaseRecipe t).upChan t (fun c => { c with st := .opened })).okay ch 0x43 0))

/-- CHANNEL_INFO. -/
def execChannelInfo (ch : BitVec 18) (s : State) : Answer :=
  s.aside ch 0x4C (fun s => s.onRuntime false ch 0x4C (fun x s => s.onTarget ch 0x4C x (fun t s =>
    let c := s.chan t
    let r : BitVec 32 := c.late ++ c.st.code ++ bit1 c.adm ++ c.pri ++ c.dom ++ (0#11)
    let s := if x.getLsbD 128 then s.upChan t (fun c => { c with late := 0 }) else s
    s.finish ch 0x4C 0 r (c.high.setWidth 32))))

/-- SET_RANGE (R229): the first bad argument; an empty range overlaps nothing.  DESIGN CHOICE (log entry 40): BAD_ARG reports
offset 16 for a VF that holds a channel, 20 for a bad base or an overlap, 24 for a count that leaves the index space. -/
def State.rangeBad (x : BitVec 512) (s : State) : Option Nat :=
  let vf := slNum x 16 1
  let base := slNum x 20 4
  let n := slNum x 24 4
  if s.host.chans.any (fun e => decide (e.2.st ≠ .free) && s.ownerOf e.1 == vf) then some 16
  else if 262144 ≤ base ∨ (0 < n ∧ base = 0) then some 20
  else if 262144 < base + n then some 24
  else if (List.range 64).any (fun f => f ≠ 0 && f ≠ vf && decide (0 < n) && decide (0 < s.fnCount f) &&
      decide (base < s.fnBase f + s.fnCount f) && decide (s.fnBase f < base + n)) then some 20
  else none

/-- SET_RANGE. -/
def execSetRange (ch : BitVec 18) (s : State) : Answer :=
  s.onRuntime false ch 0x4D (fun x s => s.onPf ch 0x4D (fun s =>
    match s.rangeBad x with
    | some b => s.badArg ch 0x4D b
    | none =>
      let vf := slNum x 16 1
      (s.upHost (fun h =>
        { h with base := Tab.set 0 h.base vf (fld x 160 18), count := Tab.set 0 h.count vf (fld x 192 19),
                 dom := Tab.set 0 h.dom vf (fld x 224 64) })).okay ch 0x4D 0))

/-! ## The management path (R199, R247) -/

/-- The sensor port that a management slate names; Ethernet has 16. -/
def mgmtPort (x : BitVec 512) : Option Nat :=
  let b := slNum x 16 1
  if b / 64 = 1 then some (32 + b % 32) else if b % 32 < 16 then some (64 + b % 32) else none

/-- MGMT_TX: one control packet or frame. -/
def execMgmtTx (ch : BitVec 18) (bytes : List Byte) (s : State) : Answer :=
  s.onRuntime false ch 0x4E (fun x s => s.onPf ch 0x4E (fun s =>
    match mgmtPort x with
    | none => s.badArg ch 0x4E 16
    | some p =>
      if 9018 < slNum x 20 4 then s.badArg ch 0x4E 20
      else if !s.receives p then s.fail ch 0x4E 12 0
      else (s.emit (.mgmt (fld x 128 8) (bytes.take (slNum x 20 4)))).okay ch 0x4E 0))

/-- MGMT_RX: waits for the next unmatched packet of its port.  DESIGN CHOICE (log entry 40): on channel 0 BAD_ARG reports
offset 0. -/
def execMgmtRx (ch : BitVec 18) (s : State) : Answer :=
  s.onRuntime false ch 0x4F (fun x s => s.onPf ch 0x4F (fun s =>
    if ch = 0 then s.badArg ch 0x4F 0
    else
      match mgmtPort x with
      | none => s.badArg ch 0x4F 16
      | some _ => s.await ch 0x4F))

/-- MGMT_CTL: multicast groups and the CoaXPress bit rate.  DESIGN CHOICE (log entry 40): an op that does not fit the kind
of its port ends BAD_ARG at offset 17. -/
def execMgmtCtl (ch : BitVec 18) (s : State) : Answer :=
  s.onRuntime false ch 0x50 (fun x s => s.onPf ch 0x50 (fun s =>
    match mgmtPort x with
    | none => s.badArg ch 0x50 16
    | some p =>
      let op := slNum x 17 1
      let v : BitVec 32 := fld x 160 32
      if (op = 2) ≠ (p < 64) then s.badArg ch 0x50 17
      else if op = 2 then (s.upSport p (fun q => { q with rate := v.setWidth 8 })).okay ch 0x50 0
      else if op = 1 then (s.upSport p (fun q => { q with groups := q.groups.filter (· != v) })).okay ch 0x50 0
      else if (s.sport p).groups.contains v then s.okay ch 0x50 0
      else if 16 ≤ (s.sport p).groups.length then s.fail ch 0x50 3 6
      else (s.upSport p (fun q => { q with groups := q.groups ++ [v] })).okay ch 0x50 0))

/-- A receive waiting on a port: its channel and slate, the one that has waited longest. -/
def State.receiverOf (portByte : Nat) (s : State) : Option (BitVec 18 × Exec) :=
  (s.host.chans.flatMap (fun e =>
    (e.2.stale ++ e.2.exec.toList).filterMap (fun x =>
      if slOp x.slate = 0x4F ∧ x.waiting ∧ slNum x.slate 16 1 = portByte then some (BitVec.ofNat 18 e.1, x) else none))).foldl
    (fun best x => match best with
      | none => some x
      | some b => if x.2.since < b.2.since then some x else some b) none

/-- An unmatched packet passes to the host (R199).  DESIGN CHOICE (log entry 43): one that finds no MGMT_RX waiting on its
port is lost, and counted nowhere. -/
def State.mgmtArrive (portByte : Nat) (bytes : List Byte) (s : State) : State :=
  match s.receiverOf portByte with
  | none => s
  | some (ch, e) =>
    let room := slNum e.slate 20 4
    let excess : BitVec 24 := BitVec.ofNat 24 (bytes.length - room)
    let late := !(s.chan ch).stale.isEmpty && ((s.chan ch).stale.contains e)
    let s := if late then s
      else s.dmaWrite (s.fnOf ch) (slNum e.slate 24 8) (bytes.take room)
    s.finish ch 0x4F 0 (BitVec.ofNat 32 bytes.length) (excess ++ (0#8))

/-- CXP_CONTROL_PACKET (R199); a device-role link answers link discovery and ignores every other request (R206). -/
def execCxpControlPacket (link : BitVec 5) (discovery : Bool) (bytes : List Byte) (s : State) : Answer :=
  s.onPort (32 + link.toNat) (fun s =>
    if s.hostRole link then s.mgmtArrive (64 + link.toNat) bytes
    else if discovery then s.emit (.cxpDiscovery link)
    else s)

/-- A frame is a PAUSE frame: EtherType 0x8808 and opcode 0x0001 (PRESUMED, from IEEE 802.3; log entry 43). -/
def isPause (bytes : List Byte) : Bool := (bytes.drop 12).take 4 == [0x88, 0x08, 0x00, 0x01]

/-- ETHERNET_UNMATCHED_FRAME (R199); a PAUSE frame is ignored (R207). -/
def execEthernetUnmatchedFrame (port : BitVec 4) (bytes : List Byte) (fcsOk : Bool) (s : State) : Answer :=
  s.etherFrame port (bytes.length + 4) fcsOk (fun s =>
    if isPause bytes then s else s.mgmtArrive (128 + port.toNat) bytes)

/-- ARP_REQUEST: answered for SP_IP.ADDR (R207); any other passes to the host (R199). -/
def execArpRequest (port : BitVec 4) (ip : BitVec 32) (bytes : List Byte) (fcsOk : Bool) (s : State) : Answer :=
  s.etherFrame port (bytes.length + 4) fcsOk (fun s =>
    if (s.sport (64 + port.toNat)).ip = ip && ip != 0 then s.emit (.arp port ip)
    else s.mgmtArrive (128 + port.toNat) bytes)

end Sys2Proof.Machine
end

