-- ==== Sys2Proof/Machine/Proof.lean ====
section
/-!
DEFINITION. The load-time proof of deadlines: the paths of a program as the loader costs them (R268, R269, Tables 5-17
and 6-1), the worst case W of a channel (R271), the budgets of R272, and the terms of Double mode (R318).
-/

namespace Sys2Proof.Machine

/-! ## Instructions as the loader costs them -/

/-- What a program word does to a path. -/
inductive PathOp where
  /-- Goes on; Director cycles, array cycles, and what it is: extendable, repeatable, a load (R132), of group 0xA. -/
  | plain (dir arr : Nat) (ext rep load fp : Bool)
  /-- A conditional branch, or BRA, by a displacement. -/
  | branch (disp : BitVec 6)
  | bra (disp : BitVec 8)
  | call (disp : BitVec 8)
  | ret
  | trap (n : BitVec 6)
  /-- A script call. -/
  | script (idx : BitVec 10)
  /-- REP, REPN with its count. -/
  | rep (noInt : Bool) (n : Nat)
  | ext
  /-- Not allowed on a path (R269). -/
  | banned
  /-- Raises ILLEGAL: the path ends in a trap. -/
  | illegal
  deriving DecidableEq, Repr

/-- A plain instruction of n Director cycles. -/
def PathOp.cost (n : Nat) (ext rep : Bool) : PathOp := .plain n 0 ext rep false false

/-- Group 0x0 (Table 5-7). -/
def pathSystem (sub z : Nat) : PathOp :=
  match sub with
  | 0 => .cost 1 false false
  | 3 => .cost 1 false false
  | 5 => .trap (BitVec.ofNat 6 z)
  | 7 => if z = 0 then .banned else .rep false z
  | 8 => .rep true (if z = 0 then 256 else z)
  | 9 => if z = 0 then .ext else .illegal
  | 10 => .cost 1 false false
  | 11 => .cost 1 false false
  | 1 => .banned
  | 2 => .banned
  | 4 => .banned
  | 6 => .banned
  | _ => .illegal

/-- Director cycles of group 0xA (Table 6-1). -/
def floatCycles (op kind : Nat) : Nat :=
  if op ≤ 2 then 2 else if op = 3 ∨ op = 5 then 10 else if op = 4 then 3
  else if op = 13 then (if kind ≤ 1 then 1 else 2) else 1

/-- Group 0xD (Table 5-15), with the costs of R269 and Table 5-17 (log entry 41). -/
def pathArray (op : Nat) : PathOp :=
  match op with
  | 0 => .plain 2 13 false false false false
  | 1 => .cost 2 false false
  | 2 => .cost 2 false false
  | 3 => .plain 1 1 false false false false
  | 4 => .plain 1 1 false false false false
  | 5 => .cost 3 false false
  | 6 => .cost 3 false false
  | 7 => .banned
  | 8 => .banned
  | 9 => .plain 1 32818 false false false false
  | 10 => .plain 1 32818 false false false false
  | _ => .illegal

/-- A must-be-0 field is not 0, a form is unassigned or breaks a rule of its own: groups 0x0, 0x4, 0xD and 0xE (R118, R125,
R131, R149, R260, R296, Tables 5-7 and 5-15). -/
def formIllegal (g f : Nat) : Bool :=
  let sub := f / 64
  let z := f % 64
  match g with
  | 0 =>
    match sub with
    | 3 => if 32 ≤ z then z.testBit 4 else decide (8 ≤ z)
    | 4 => decide (4 ≤ z)
    | 10 => srIllegal z
    | 11 => srIllegal z
    | _ => (sub ≤ 2 || sub == 6 || sub == 9) && z != 0
  | 4 => (f / 16 == 2 && ldModifies false (BitVec.ofNat 4 f)) || (f / 16 == 4 && ldModifies true (BitVec.ofNat 4 f))
  | 13 =>
    match sub with
    | 3 => if z < 48 then z % 16 != 0 else z.testBit 3
    | 4 => z.testBit 0
    | 5 => z / 8 == 3
    | 6 => z / 8 == 3
    | _ => if sub = 0 ∨ sub = 7 ∨ sub = 8 then z != 0 else decide (8 ≤ z)
  | 14 =>
    let ways := f % 16
    match f / 16 with
    | 0x38 => ways != 9
    | 0x39 => ways != 2
    | 0x3A => ways != 5
    | 0x3B => ways != 6
    | 0x3E => ways != 12
    | 0x3F => ways != 12
    | _ => false
  | _ => false

/-- A program word by its major group (Table 5-5). -/
def pathOp (w : BitVec 14) : PathOp :=
  let f := (fld w 0 10).toNat
  if formIllegal (fld w 10 4).toNat f then .illegal
  else match (fld w 10 4).toNat with
  | 0 => pathSystem (f / 64) (f % 64)
  | 1 => .plain 1 0 true true true false
  | 2 => .cost 1 true true
  | 3 => .cost 1 true true
  | 4 =>
    let op := f / 16
    if 12 ≤ f % 16 ∨ (13 ≤ op ∧ op < 16) ∨ 32 ≤ op then .illegal
    else .plain 1 0 false true (op == 0 || op == 2 || op == 4) false
  | 5 => if 25 ≤ f / 8 ∨ (23 ≤ f / 8 ∧ f % 8 = 7) then .illegal else .cost 1 false true
  | 6 => .cost 1 true true
  | 7 => if 12 ≤ f / 64 then .illegal else .cost 1 false true
  | 8 => .branch (fld w 0 6)
  | 9 =>
    match f / 256, f / 32 % 8 with
    | 0, _ => .bra (fld w 0 8)
    | 1, _ => .call (fld w 0 8)
    | 2, 0 => if f / 8 % 4 = 0 then .banned else .illegal
    | 2, 1 => if f / 8 % 4 = 0 then .banned else .illegal
    | 2, 2 => if f % 32 = 0 then .ret else .illegal
    | _, _ => .illegal
  | 10 =>
    let op := f / 64
    if 14 ≤ op ∨ (op = 13 ∧ 6 ≤ f / 8 % 8) then .illegal
    else .plain (floatCycles op (f / 8 % 8)) 0 false true false true
  | 11 => if 4 ≤ f / 64 ∨ f / 8 % 8 ≠ 0 then .illegal else .cost (if f / 64 < 2 then 1 else 14) false true
  | 12 => .script (fld w 0 10)
  | 13 => pathArray (f / 64)
  | 14 => .cost 64 false false
  | _ => .illegal

/-! ## Paths (R269) -/

/-- Director cycles (E_CUE for each cue service call among them), cue service calls and array cycles of a way through the
code. -/
structure Way where
  dir : Nat
  cues : Nat
  arr : Nat
  deriving DecidableEq, Repr

/-- The weight in Director cycles as R271 takes it, with the cue service calls. -/
def Way.weight (w : Way) : Nat := w.dir + 30 * w.cues

/-- One way after another. -/
def Way.plus (a b : Way) : Way := { dir := a.dir + b.dir, cues := a.cues + b.cues, arr := a.arr + b.arr }

/-- The worse of two: the longer in Director cycles, the larger in array cycles. -/
def worse : Option Way → Option Way → Option Way
  | none, b => b
  | a, none => a
  | some a, some b =>
    let m := max a.arr b.arr
    some (if a.weight < b.weight then { b with arr := m } else { a with arr := m })

/-- What the code from one word on can do: whether it breaks R269, its ways to a RET and to the end of the path, the
windows it needs, and the longest charged count of an atomic script it calls. -/
structure Flow where
  bad : Bool
  ret : Option Way
  fin : Option Way
  need : Nat
  atomic : Nat
  deriving DecidableEq, Repr

/-- Code that breaks R269: it leaves the image's program, goes backward, or holds an instruction that R269 bans. -/
def Flow.broken : Flow := { bad := true, ret := none, fin := none, need := 0, atomic := 0 }

/-- A path that ends here after n Director cycles. -/
def Flow.ends (n need : Nat) : Flow :=
  { bad := false, ret := none, fin := some { dir := n, cues := 0, arr := 0 }, need := need, atomic := 0 }

/-- Code that no path reaches: it binds nothing. -/
def Flow.unreached : Flow := { bad := false, ret := none, fin := none, need := 0, atomic := 0 }

/-- Go on with f after a way w. -/
def Flow.after (w : Way) (f : Flow) : Flow := { f with ret := f.ret.map w.plus, fin := f.fin.map w.plus }

/-- Both ways of a branch. -/
def Flow.or (a b : Flow) : Flow :=
  { bad := a.bad || b.bad, ret := worse a.ret b.ret, fin := worse a.fin b.fin, need := max a.need b.need,
    atomic := max a.atomic b.atomic }

/-- A call of f, going on with k: what f returns is followed by k, and f may end the path. -/
def Flow.call (f k : Flow) : Flow :=
  let through := match f.ret with
    | some w => k.after w
    | none => Flow.unreached
  let both := Flow.or through { f with ret := none }
  { both with need := max (f.need + 1) through.need }

/-- A way of n Director cycles and m array cycles. -/
def way (n m : Nat) : Way := { dir := n, cues := 0, arr := m }

/-- The charged count of a script at FMAX and whether it is atomic, from its table entry; nothing for no entry. -/
def scriptCost (t : BitVec 320) : Nat × Bool :=
  if !t.msb then (0, false) else (tFc t + tFs t * (if tFmax t = 0 then 0 else tFmax t - tCntm1 t), !tKind t)

/-- The code after one word: the flow k words further on. -/
def after (rs : List Flow) (k : Int) : Flow := if k < 0 then .broken else rs.getD k.toNat .broken

/-- An instruction that goes on at k, with its cost. -/
def Flow.step (dir arr : Nat) (k : Flow) : Flow := k.after (way dir arr)

/-- A direct address with a literal that R128 does not allow. -/
def litIllegal (w : BitVec 14) (lit : Option (BitVec 14)) : Bool :=
  match lit with
  | some l => (fld w 10 4 == 1 || fld w 10 4 == 2) && fld l 8 6 != 0
  | none => false

/-- The flow from a word on; `ws` and `rs` are the words after it and their flows, extra the cost of an EXT pair read, lit
its literal. -/
def flowAt (entry : Nat → BitVec 320) (w : BitVec 14) (extra : Nat) (lit : Option (BitVec 14)) (ws : List (BitVec 14))
    (rs : List Flow) : Flow :=
  match pathOp w with
  | .plain n m ext _ _ _ =>
    if (lit.isSome && !ext) || litIllegal w lit then .ends 1 0 else Flow.step (n + extra) m (after rs 0)
  | .branch d =>
    let k := (disp6 lit d).toInt
    ((after rs 0).after (way (1 + extra) 0)).or ((after rs k).after (way (2 + extra) 0))
  | .bra d => (after rs (disp8 lit d).toInt).after (way (2 + extra) 0)
  | .call d => ((after rs (disp8 lit d).toInt).call (after rs 0)).after (way (2 + extra) 0)
  | .ret => { Flow.ends 0 0 with ret := some (way 2 0), fin := none }
  | .trap n =>
    if n = Config.cueTrap then
      let f := (after rs 0).after { dir := 30, cues := 1, arr := 0 }
      { f with need := max 2 f.need }
    else .ends 1 2
  | .script i =>
    let c := scriptCost (entry i.toNat)
    let f := Flow.step 1 c.1 (after rs 0)
    { f with atomic := if c.2 then max c.1 f.atomic else f.atomic }
  | .rep _ n =>
    match ws with
    | v :: _ =>
      match pathOp v with
      | .plain c _ _ true _ _ => Flow.step (1 + n * c) 0 (after rs 1)
      | .ext =>
        match ws[2]? with
        | some u =>
          match pathOp u with
          | .plain c _ true true _ _ =>
            if litIllegal u ws[1]? then .ends 1 0 else Flow.step (1 + n * (c + 1)) 0 (after rs 3)
          | _ => .ends 1 0
        | none => .broken
      | _ => .ends 1 0
    | [] => .broken
  | .ext => .ends 1 0
  | .banned => .broken
  | .illegal => .ends 1 0

/-- The flows of every word of a program, EXT pairs read with the instruction they extend (R127). -/
def flows (entry : Nat → BitVec 320) : List (BitVec 14) → List Flow
  | [] => []
  | w :: ws =>
    let rs := flows entry ws
    (match pathOp w, ws with
      | .ext, l :: v :: rest =>
        (match pathOp v with
          | .plain _ _ true _ _ _ => flowAt entry v 1 (some l) rest (rs.drop 2)
          | .branch _ => flowAt entry v 1 (some l) rest (rs.drop 2)
          | .bra _ => flowAt entry v 1 (some l) rest (rs.drop 2)
          | .call _ => flowAt entry v 1 (some l) rest (rs.drop 2)
          | _ => .ends 1 0)
      | _, _ => flowAt entry w 0 none ws rs) :: rs

/-! ## The longest stretch that takes no interrupt (R163, R271) -/

/-- The Director cycles from the start of an instruction to the first point after it where R163 allows an interrupt, rs
those of the words after it: past a load the next instruction is part of it (R132), and a REPN runs to its last
repetition. -/
def stretchAt (w : BitVec 14) (extra : Nat) (ws : List (BitVec 14)) (rs : List Nat) : Nat :=
  let slot (load : Bool) (k : Nat) : Nat := if load then rs.getD k 0 else 0
  match pathOp w with
  | .plain n _ _ _ load _ => n + extra + slot load 0
  | .branch _ => 2 + extra
  | .bra _ => 2 + extra
  | .call _ => 2 + extra
  | .ret => 2
  | .trap _ => 5
  | .rep noInt n =>
    match ws with
    | v :: _ =>
      match pathOp v with
      | .plain c _ _ true load _ => if noInt || load then 1 + n * c + slot load 1 else 1 + c
      | .ext =>
        match ws[2]?.map pathOp with
        | some (.plain c _ true true load _) =>
          if noInt || load then 1 + n * (c + 1) + slot load 3 else 1 + (c + 1)
        | _ => 1
      | _ => 1
    | [] => 1
  | _ => 3

/-- The stretches that begin at every word of a program, EXT pairs read with the instruction they extend. -/
def stretches : List (BitVec 14) → List Nat
  | [] => []
  | w :: ws =>
    let rs := stretches ws
    (match pathOp w, ws with
      | .ext, _ :: v :: rest => stretchAt v 1 rest (rs.drop 2)
      | _, _ => stretchAt w 0 ws rs) :: rs

/-- The longest of a program. -/
def stretchOf (prog : List (BitVec 14)) : Nat := (stretches prog).foldl max 0

/-- A path record (Table 9-5) and what the loader finds of its code; none when it breaks R269. -/
def pathInfo (fs : List Flow) (r : BitVec 128) : Option (Path × Nat) :=
  let f := fs.getD (fld r 64 32).toNat .broken
  match f.fin with
  | some w =>
    if f.bad || f.ret.isSome then none
    else some ({ trig := (fld r 0 8).toNat, k := (fld r 8 8).toNat, entry := (fld r 64 32).toNat, fp := r.getLsbD 16,
                 mingap := (fld r 32 32).toNat, cueMax := (fld r 96 32).toNat, tDir := w.dir, cues := w.cues, tArr := w.arr,
                 need := 1 + f.need }, f.atomic)
  | none => none

/-! ## The worst case (R271), in thirds of a nanosecond -/

/-- e(j) of one path: Director and array cycles at 5/3 ns each. -/
def Path.e (p : Path) : Nat :=
  5 * (96 + p.tDir + 30 * p.cues + 60 + (if p.fp then 73 else 0) + p.tArr + 32)

/-- A spacing as a fraction of ns; none is unbounded. -/
abbrev Spacing := Option (Nat × Nat)

/-- p(j) of one path (R270): NTH x 10^6 / LRATE, or MINGAP; a line path with no slot bound counts its own previous
activation only (log entry 20). -/
def State.spacing (r : Recipe) (p : Path) (s : State) : Spacing :=
  if p.trig = 0 then
    match r.inputs[p.k]? with
    | none => none
    | some k =>
      let sl := s.slot k
      some ((if ctEvmode sl.ev = 2 then ctNth sl.ev else 1) * 1000000, ctLrate sl.lim)
  else some (p.mingap, 1)

/-- ceil(r / p) + 1 for r in thirds of ns; none when p is 0. -/
def Spacing.hits (p : Spacing) (r : Nat) : Option Nat :=
  match p with
  | none => some 2
  | some (n, d) => if n = 0 then none else some ((r * d + 3 * n - 1) / (3 * n) + 1)

/-- A channel as the proof sees it: its slowest path's e and p, and what R271 and R272 sum. -/
structure Load where
  ch : Nat
  pri : Nat
  e : Nat
  p : Spacing
  atomic : Nat
  stretch : Nat
  need : Nat
  deriving DecidableEq, Repr

/-- The slowest path of a recipe. -/
def Recipe.slowest (r : Recipe) : Option Path :=
  r.paths.foldl (fun b p => match b with
    | none => some p
    | some q => if q.e < p.e then some p else some q) none

/-- The view of a channel with its recipe. -/
def State.loadOf (ch : Nat) (c : Chan) (r : Recipe) (s : State) : Load :=
  { ch := ch, pri := c.pri.toNat, e := (r.slowest.map Path.e).getD 0,
    p := match r.slowest with | some p => s.spacing r p | none => none,
    atomic := r.atomic, stretch := r.stretch, need := r.paths.foldl (fun m p => max m p.need) 0 }

/-- The channels with a recipe. -/
def State.loads (s : State) : List (Load × ChState) :=
  s.host.chans.filterMap (fun e => e.2.recipe.map (fun r => (s.loadOf e.1 e.2 r, e.2.st)))

/-- DMAX of a channel: the largest of its bound slots (R271). -/
def State.dmaxOf (r : Recipe) (s : State) : Nat := r.inputs.foldl (fun m k => max m (fld (s.slot k).dmax 0 24).toNat) 0

/-- The iteration of R271; none is a failure with the r reached. -/
def respond (bk : Nat) (hp : List Load) (limit : Nat) : Nat → Nat → Option Nat × Nat
  | 0, r => (none, r)
  | fuel + 1, r =>
    match hp.foldl (fun acc j => match acc, j.p.hits r with
        | some a, some h => some (a + h * j.e)
        | _, _ => none) (some bk) with
    | none => (none, 0)
    | some r' => if r' = r then (some r, r) else if limit < r' then (none, r') else respond bk hp limit fuel r'

/-- The longest stretch of the programs that images other than recipes have brought. -/
def State.patchStretch (s : State) : Nat :=
  ((s.seq.images.filter (fun p => p.ch.isNone)).map (fun p => stretchOf p.img.prog)).foldl max 0

/-- bk and the channels of hp for channel ch with recipe r (R271). -/
def State.terms (ch : Nat) (c : Chan) (r : Recipe) (s : State) : Nat × List Load :=
  let me := s.loadOf ch c r
  let all := s.loads
  let hp := me :: (all.filter (fun j => decide (j.2 = .running) && j.1.ch != ch && decide (me.pri ≤ j.1.pri))).map (·.1)
  let atomic := ((all.filter (fun j => decide (j.1.pri < me.pri))).map (fun j => j.1.atomic)).foldl max 1064
  let stretch := (all.map (fun j => j.1.stretch)).foldl max (max 180 (max me.stretch s.patchStretch))
  (5 * (atomic + stretch), hp)

/-- The proof of one channel: W in ns, or DETAIL[31:8] of its failure (R271, Table 8-15). -/
def State.proveOne (ch : BitVec 18) (s : State) : Except (BitVec 24) Nat :=
  let c := s.chan ch
  match c.recipe with
  | none => .error 0xFFFFFF
  | some r =>
    let terms := s.terms ch.toNat c r
    let bk := terms.1
    let hp := terms.2
    let dmax := 3 * s.dmaxOf r + (if s.paired then 3 * s.pair.linewait + 5 * s.pair.lag else 0)
    let acc := 40 + (if s.paired then 3 * s.pair.cmptmo else 0)
    let w (x : Nat) : Nat := (dmax + x + acc + 600 + 2) / 3
    let micros (x : Nat) : BitVec 24 := BitVec.ofNat 24 (min 0xFFFFFF (w x / 1000))
    if hp.any (fun j => match j.p with | some (0, _) => true | _ => false) then .error 0xFFFFFF
    else
      let first := bk + (hp.map (fun j => j.e)).sum
      match respond bk hp (3 * r.deadline) (3 * r.deadline + 2) first with
      | (none, x) => .error (micros x)
      | (some x, _) => if w x ≤ r.deadline then .ok (w x) else .error (micros x)

/-- The window budget of R272 with channel ch among the RUNNING ones. -/
def State.windowsFit (ch : BitVec 18) (s : State) : Bool :=
  let on := (s.loads.filter (fun j => decide (j.2 = .running) || j.1.ch == ch.toNat)).map (·.1)
  let pris := (List.range 8).filter (fun p => on.any (fun j => j.pri == p))
  let each (p : Nat) : Nat := 1 + (on.filter (fun j => j.pri == p)).foldl (fun m j => max m j.need) 0
  decide ((pris.map each).sum ≤ 12)

/-- The largest CUEMAX of a recipe's paths (R267). -/
def Recipe.cueMax (r : Recipe) : Nat := r.paths.foldl (fun m p => max m p.cueMax) 0

/-- The sum of CUEMAX with what is pending for every other channel (R272). -/
def State.cuesFit (ch : BitVec 18) (s : State) : Bool :=
  let mine (k : Nat) (c : Chan) : Bool := decide (c.st = .running) || decide (c.st = .draining) || k == ch.toNat
  let sum := (s.host.chans.map (fun e => match e.2.recipe with
    | some r => if mine e.1 e.2 then r.cueMax else 0
    | none => 0)).sum
  let others := s.cue.pend.filter (fun e => !mine e.ch.toNat (s.chan e.ch))
  decide (sum + others.length ≤ 8192)

/-- The RUNNING channels other than ch whose hp or bk differs between the state before a change and s (R272). -/
def State.altered (ch : BitVec 18) (before s : State) : List Nat :=
  (s.host.chans.filter (fun e => decide (e.2.st = .running) && e.1 != ch.toNat &&
    (match e.2.recipe with
      | some r => before.terms e.1 e.2 r != s.terms e.1 e.2 r
      | none => false))).map (·.1)

/-- The proof of channel ch as it stands in s, and, after a change from the state `before`, that of every RUNNING channel
whose hp or bk the change alters (R272). -/
def State.prove (ch : BitVec 18) (before : Option State) (s : State) : Except (BitVec 24) Nat :=
  if !s.windowsFit ch || !s.cuesFit ch then .error 0
  else
    match s.proveOne ch with
    | .error d => .error d
    | .ok w =>
      let others := match before with
        | some b => State.altered ch b s
        | none => []
      others.foldl (fun r k => match r, s.proveOne (BitVec.ofNat 18 k) with
        | .ok w, .ok _ => .ok w
        | .ok _, .error d => .error d
        | .error d, _ => .error d) (.ok w)

/-- START (R233, R272): RUNNING with the proof holding for the bindings in force; the cue list takes CUEMAX (R267). -/
def execStart (ch : BitVec 18) (s : State) : Answer :=
  s.onRuntime true ch 1 (fun _ s =>
    if (s.chan ch).st ≠ .bound then s.wrongState ch 1 ch
    else
      let s' := s.upChan ch (fun c => { c with st := .running })
      match s'.prove ch (some s) with
      | .error d => s.fail ch 1 8 d
      | .ok w =>
        let top := match (s.chan ch).recipe with | some r => r.cueMax | none => 0
        let s' := s'.upCue (fun c => { c with cueMax := Tab.set 0 c.cueMax ch.toNat top })
        let s' := s'.upChan ch (fun c => { c with recipe := c.recipe.map (fun r => { r with proven := w }) })
        s'.okay ch 1 (BitVec.ofNat 32 w))

end Sys2Proof.Machine
end

