-- ==== Sys2Proof/Machine/HostBind.lean ====
section
/-!
DEFINITION. BIND_INPUT with the checks of Table 7-6 and the ingest delay bound of R225, and BIND_OUTPUT (Table 8-12).
-/

namespace Sys2Proof.Machine

/-! ## The ingest budget (R224, R225) -/

/-- Kilosegments per second that a slot demands of each tile it reaches. -/
def Slot.demand (sl : Slot) : Nat := ctLrate sl.lim * planesOf sl.fmt

/-- Whether a slot's columns and rows reach the tile at (tile row, tile column). -/
def Slot.reaches (sl : Slot) (tr tc : Nat) : Bool :=
  let x := ctXdst sl.place
  let cols := decide (x / 32 ≤ tc) && decide (tc ≤ (x + ctW sl.fmt - 1) / 32)
  cols && (List.range (ctRows sl.place)).any (fun n => (ctRow0 sl.place + n) % 512 / 32 == tr)

/-- The bound slots. -/
def Ing.bound (i : Ing) : List Slot :=
  (List.range 64).filterMap (fun k => let sl := Tab.get Slot.reset i.slots k; if sl.src.msb then some sl else none)

/-- The summed demand on a tile. -/
def tileDemand (ss : List Slot) (tr tc : Nat) : Nat := ((ss.filter (fun s => s.reaches tr tc)).map Slot.demand).sum

/-- B_t. -/
def tileBurst (ss : List Slot) (tr tc : Nat) : Nat :=
  ((ss.filter (fun s => s.reaches tr tc)).map (fun s => 2 * planesOf s.fmt)).sum

/-- The tiles of the array. -/
def allTiles : List (Nat × Nat) := (List.range 256).map (fun t => (t / 16, t % 16))

/-- Bridge latency of Table 7-1 in ns. -/
def Slot.bridge (sl : Slot) : Nat := match (fld sl.src 29 2).toNat with | 0 => 20 | 1 => 24 | _ => 16

/-- The bound D of R225, in sixths of a nanosecond. -/
def Slot.delay (ss : List Slot) (sl : Slot) : Nat :=
  let write (t : Nat × Nat) : Nat :=
    let free := 150000 - tileDemand ss t.1 t.2
    4 * ((tileBurst ss t.1 t.2 * 150000 + free - 1) / max 1 free)
  let worst := ((allTiles.filter (fun t => sl.reaches t.1 t.2)).map write).foldl max 0
  6 * sl.bridge + 5 * (300 + (lineBytes sl.fmt + 15) / 16) + 10 * worst + 40

/-- FIFO check of one slot: code 0x08. -/
def Slot.fifoFits (ss : List Slot) (sl : Slot) : Bool :=
  decide ((2 + (ctLrate sl.lim * sl.delay ss + 5999999) / 6000000) * lineBytes sl.fmt ≤ 16384)

/-! ## Field checks -/

/-- Code 0x01 SOURCE. -/
def Slot.badSource (sl : Slot) : Bool :=
  let kind := (fld sl.src 29 2).toNat
  let port := (fld sl.src 24 5).toNat
  kind == 3 || (kind == 2 && decide (16 ≤ port)) || 
    (kind == 1 && fld sl.src 22 2 != 3 && port % 2 ^ (fld sl.src 22 2).toNat != 0)

/-- Code 0x02 FORMAT. -/
def Slot.badFormat (sl : Slot) : Bool :=
  let keep := ctKeep sl.fmt
  let w := ctW sl.fmt
  let rows := ctRows sl.place
  let noCode := match (fld sl.src 29 2).toNat with
    | 0 => (pfDt (ctPf sl.fmt)).isEmpty
    | _ => (pfPfnc (ctPf sl.fmt)).isEmpty
  fld sl.src 22 2 == 3 || fld sl.src 20 2 != 0 || decide (9 ≤ ctPf sl.fmt) || keep == 0 || decide (17 ≤ keep) ||
    w == 0 || decide (513 ≤ w) || fld sl.fmt 0 3 != 0 || (fld sl.place 30 2).getLsbD 1 || fld sl.place 10 2 != 0 ||
    rows == 0 || decide (513 ≤ rows) || fld sl.lim 24 4 != 0 || ctLrate sl.lim == 0 || fld sl.dmax 24 8 != 0 ||
    fld sl.dmax 0 24 == 0 || (ctEvmode sl.ev == 2 && ctNth sl.ev == 0) || ctRecbase sl.ev % (4 * ctReclen sl.ev) != 0 ||
    decide (13 ≤ (fld sl.copy 27 4).toNat) || fld sl.copy 18 9 != 0 || noCode

/-- Code 0x03 GEOMETRY. -/
def Slot.badGeometry (sl : Slot) : Bool :=
  decide (512 < ctXdst sl.place + ctW sl.fmt) ||
    (!ctFrame sl.place && decide (512 < ctRow0 sl.place + ctRows sl.place))

/-- Staging lines of the copy ring. -/
def Slot.ringLines (sl : Slot) : Nat :=
  2 ^ (fld sl.copy 27 4).toNat * ((ctW sl.fmt * planesOf sl.fmt + 511) / 512)

/-- The power domain of a sensor port (Table 15-4). -/
def portDomain (p : Nat) : Nat := if p < 32 then 5 + p / 8 else if p < 64 then 9 + (p - 32) / 8 else 13 + (p - 64) / 4

/-- The corner-turn unit of slot k is not ON (R428). -/
def State.unitOff (k : Nat) (s : State) : Bool := s.dom (1 + k / 16) != 2

/-- The port that a CT_SRC names is not ON (R428). -/
def State.portOff (src : BitVec 32) (s : State) : Bool :=
  s.dom (portDomain (32 * (fld src 29 2).toNat + (fld src 24 5).toNat)) != 2

/-- The first check of Table 7-6 that refuses the binding of slot k as sl, whose CT_COPY.OFF counts from the window. -/
def State.bindCode (k : Nat) (sl : Slot) (t : BitVec 18) (wlen : Nat) (s : State) : Option (BitVec 24) :=
  let old := s.slot k
  let ss := ({ s.ing with slots := Tab.set Slot.reset s.ing.slots k sl } : Ing).bound
  let mine := if sl.src.msb then ss else sl :: ss
  let held := match (s.chan (fld old.chan 0 18)).recipe with
    | some r => r.inputs.contains k
    | none => false
  let taken := (held || old.src.msb || !old.jobs.isEmpty) && fld old.chan 0 18 != t
  if sl.badSource || s.unitOff k || s.portOff sl.src then some 1
  else if sl.badFormat then some 2
  else if sl.badGeometry then some 3
  else if ctPcnt3 sl.alloc < ctPlane0 sl.fmt + planesOf sl.fmt * ctDepth sl.lim then some 4
  else if taken then some 5
  else if allTiles.any (fun p => decide (135000 < tileDemand mine p.1 p.2)) then some 6
  else if mine.any (fun x => decide (6 * (fld x.dmax 0 24).toNat < x.delay mine)) then some 7
  else if mine.any (fun x => !x.fifoFits mine) then some 8
  else if sl.copy.msb && decide (wlen < (fld sl.copy 0 18).toNat + sl.ringLines) then some 9
  else none

/-- The slot that BIND_INPUT asks for: its registers, counters at 0, a full token bucket (log entry 21). -/
def Slot.rebound (x : BitVec 512) (t : BitVec 18) (r : Recipe) (old : Slot) : Slot :=
  let w (i : Nat) : BitVec 32 := fld x (160 + 32 * i) 32
  { old.closeRx with
    src := w 0, fmt := w 1, roi := w 2, place := w 3, lim := w 4, dmax := w 5, ev := w 6, copy := w 7,
    chan := t.setWidth 32, alloc := BitVec.ofNat 32 (1024 * r.pcnt.getD 3 0 + r.pbase.getD 3 0),
    lines := 0, dropOvf := 0, dropRate := 0, dropInc := 0, dropFmt := 0, dropAlloc := 0, dropCopy := 0, arrival := 0,
    tokens := 2000000, frame := 0, index := 0, dropSince := 0, bind := old.bind + 1, rx := { Rx.empty with src := w 0 } }

/-- RECBASE and its ring lie in a writable region of the domain (Table 8-12). -/
def Dsys.ringWritable (y : Dsys) (dom : BitVec 6) (ev : BitVec 32) : Bool :=
  let first := ctRecbase ev / 256
  let last := (ctRecbase ev + 4 * ctReclen ev - 1) / 256
  (List.range 8).any (fun r =>
    let lo := Tab.get 0 y.rglo (8 * dom.toNat + r)
    let hi := Tab.get 0 y.rghi (8 * dom.toNat + r)
    lo.getLsbD 22 && decide ((fld lo 0 10).toNat ≤ first) && decide (last ≤ hi.toNat))

/-- Change the recipe of a channel. -/
def State.upRecipe (t : BitVec 18) (f : Recipe → Recipe) (s : State) : State :=
  s.upChan t (fun c => { c with recipe := c.recipe.map f })

/-- A change that stands when the target is not RUNNING or the proof holds with it; else FAILED DEADLINE and nothing
changes (R272). -/
def State.withProof (ch : BitVec 18) (op : Nat) (t : BitVec 18) (result : BitVec 32) (s s' : State) : State :=
  if (s.chan t).st ≠ .running then s'.okay ch op result
  else
    match s'.prove t (some s) with
    | .error d => s.fail ch op 8 d
    | .ok w => (s'.upRecipe t (fun r => { r with proven := w })).okay ch op result

/-- BIND_INPUT. -/
def execBindInput (ch : BitVec 18) (s : State) : Answer :=
  s.onRuntime true ch 0x44 (fun x s => s.onTarget ch 0x44 x (fun t s =>
    let c := s.chan t
    match c.recipe with
    | none => s.wrongState ch 0x44 t
    | some r =>
      if c.st ≠ .bound ∧ c.st ≠ .running then s.wrongState ch 0x44 t
      else
        let k := 4 * slNum x 16 1 + slNum x 17 1
        let sl := (s.slot k).rebound x t r
        if !s.sys.ringWritable c.dom sl.ev then s.badArg ch 0x44 44
        else
          match s.bindCode k sl t r.wlen with
          | some code => s.fail ch 0x44 7 code
          | none =>
            let abs := { sl with copy := putFld sl.copy 0 (BitVec.ofNat 18 (r.win + (fld sl.copy 0 18).toNat)) }
            let s' := (s.upSlot k (fun _ => abs)).upRecipe t (fun r =>
              { r with inputs := if r.inputs.contains k then r.inputs else r.inputs ++ [k] })
            let d := (sl.delay (s'.ing.bound) + 5) / 6
            s.withProof ch 0x44 t (BitVec.ofNat 32 d) s'))

/-- KIND 0 of BIND_OUTPUT: the channel's cue pins in one bank. -/
def State.bindPins (t : BitVec 18) (bank : Nat) (mask : BitVec 64) (s : State) : State :=
  let keys := (List.range 64).map (fun p => 64 * bank + p)
  let on := keys.filter (fun k => mask.getLsbD (k % 64))
  let off := keys.filter (fun k => !mask.getLsbD (k % 64))
  let s := s.upCue (fun c =>
    { c with owner := on.foldl (fun w k => Tab.set 0 w k (t.toNat + 1)) c.owner,
             release := on.foldl (fun w k => Tab.set false w k false) c.release,
             keys := match Tab.get none c.keys t.toNat with
               | none => Tab.set none c.keys t.toNat (some { high := 0xFFFFFF, marks := 0 })
               | some _ => c.keys })
  s.releasePins t off

/-- BIND_OUTPUT. -/
def execBindOutput (ch : BitVec 18) (s : State) : Answer :=
  s.onRuntime false ch 0x45 (fun x s => s.onTarget ch 0x45 x (fun t s =>
    let c := s.chan t
    if c.st ≠ .bound ∧ c.st ≠ .running then s.wrongState ch 0x45 t
    else
      match slNum x 16 1 with
      | 0 =>
        let bank := slNum x 17 1
        let mask : BitVec 64 := fld x 192 64
        let taken := (List.range 64).any (fun p =>
          mask.getLsbD p && (let o := Tab.get 0 s.cue.owner (64 * bank + p); o != 0 && o != t.toNat + 1))
        if taken then s.fail ch 0x45 2 0 else s.withProof ch 0x45 t 0 (s.bindPins t bank mask)
      | 1 =>
        let n := slNum x 17 1
        let list := (List.range n).map (fun i => (fld x (192 + 8 * i) 8 : BitVec 8))
        s.withProof ch 0x45 t 0 (s.upChan t (fun c => { c with out := { c.out with crew := list } }))
      | _ =>
        s.withProof ch 0x45 t 0 (s.upChan t (fun c =>
          { c with out := { c.out with mac := x.getLsbD 136, sign := x.getLsbD 137 } }))))

end Sys2Proof.Machine
end

