-- ==== Sys2Proof/Machine/Purge.lean ====
section
/-!
DEFINITION. The Director reset (R183, R254), the recipe purge and the wipe (R389, R396), and the tamper response.
-/

namespace Sys2Proof.Machine

/-! ## The Director reset (R183, R254) -/

/-- Every slate that the runtime was executing ends FAILED RUNTIME_RESET; late results will not come (R254). -/
def State.failRuntime (s : State) : State :=
  let s := s.upHost (fun h => { h with chans := h.chans.map (fun (e : Nat × Chan) => (e.1, { e.2 with stale := [], destroyer := none })) })
  let s := s.upSeq (fun q => { q with waiting := none })
  let s := s.upCrew (fun c => { c with own := c.own.map (fun x => { x with ch := none }) })
  s.host.chans.foldl (fun s e =>
    match e.2.exec with
    | some x => if hostOp (slOp x.slate) then s else s.fail (BitVec.ofNat 18 e.1) (slOp x.slate) 10 0
    | none => s) s

/-- A Director reset: warm reset values, the memories kept, PC 0 in maintenance state; the halt line is released for its
own stop and for the pair's safe state, which it ends (R321); AFSTAT is the micro-sequencer's and stands (R149); RUNTIME clears, and event 0x0008 follows once it is set again (R183, R254, R442). -/
def State.resetDirector (s : State) : State :=
  let s := s.failRuntime
  let y := s.sys
  let safe := decide (s.pair.st = .safe)
  { s with
    pair := if safe then { s.pair with st := .solo } else s.pair,
    dir := { Dir.reset with run := if s.ready 12 then .running else .held, cyc := s.dir.cyc },
    sys := { Dsys.reset 2 with dfault := y.doubled, afEn := y.afEn, afFlags := y.afFlags, dmem := y.dmem, pmem := y.pmem, dpoison := y.dpoison, ppoison := y.ppoison },
    cue := { s.cue with latch := 0 },
    spl := { s.spl with halt := setBit (if safe then setBit s.spl.halt 2 false else s.spl.halt) 1 false },
    rst := { s.rst with rdy := setBit s.rst.rdy 14 false, report := true } }

/-- DIRECTOR_RESET: HI_DRESET written with GO by the host through PF 0, or by the runtime (R183, Table 8-3); discarded while
a power-on or warm reset holds, which the Director not yet released stands for (R430). -/
def execDirectorReset (byHost : Bool) (fn : BitVec 6) (value : BitVec 32) (s : State) : Answer :=
  if s.dir.run = .held || (byHost && (fn != 0 || !value.getLsbD 0 || !s.ready 9)) then .next s else .next s.resetDirector

/-! ## The purge (R396) -/

/-- The images that hold words: those in force and one that waits for its commit. -/
def Seq.holding (q : Seq) : List Placed := q.images ++ (q.waiting.map (·.p)).toList

/-- The word after the highest vendor word of patch RAM (R90). -/
def Seq.vendorTop (q : Seq) : Nat :=
  (q.holding.filter (fun p => p.ch.isNone)).foldl (fun m p => max m (p.base + p.img.words.length)) 0x2000

/-- Program memory without the words of an image. -/
def Dsys.dropProgram (y : Dsys) (p : Placed) : Dsys :=
  let out (a : Nat) : Bool := decide (a < p.pbase) || decide (p.pbase + p.img.prog.length ≤ a)
  { y with pmem := y.pmem.filter (fun e => out e.1), ppoison := y.ppoison.filter (fun e => out e.1) }

/-- The banks that a purge zeroes. -/
def purgedBank (b : Nat) : Bool := b < 10 || b == 14

/-- The recipe purge: steps 2 and 3 of R396. -/
def State.purge (s : State) : State :=
  let recipes := s.seq.images.filter (fun p => p.ch.isSome)
  let s := s.upSeq (fun q =>
    { q with run := none, queue := [], park := [], reqs := [], table := q.table.filter (fun e => decide (e.1 < 256)),
             cs := q.cs.filter (fun e => decide (e.1 < q.vendorTop)), images := q.images.filter (fun p => p.ch.isNone) })
  let s := s.upSys (fun y => recipes.foldl Dsys.dropProgram y)
  let s := s.upArr (fun a => { a with mem := [], poison := [], halo := [] })
  let s := s.upBanks (fun k =>
    { k with mem := k.mem.filter (fun e => !purgedBank (e.1 / 1048576)),
             poison := k.poison.filter (fun e => !purgedBank (e.1 / 131072)), tables := k.tables.filter (fun e => e.1 == 15) })
  let s := s.upRst (fun r =>
    { r with rdy := setBit (setBit r.rdy 7 false) 11 false, initArray := true, initBanks := true })
  let s := if s.dir.run = .held then s.failRuntime else s.resetDirector
  s.host.chans.foldl (fun s e =>
    if e.2.adm || decide (e.2.st = .free) then s
    else (s.stopSlots (BitVec.ofNat 18 e.1)).freeChannel (BitVec.ofNat 18 e.1)) s

/-! ## The wipe (R389) -/

/-- Zero what the secure region holds for the Keeper, and the key registers; streams go Insecure and sessions end (R396, R402). -/
def Keep.wiped (k : Keep) : Keep :=
  { k with dk := [], log := [], pos := 0, seqs := [], macs := [], since := [], keys := false, sess := [],
           ide := k.ide.map (fun (e : Nat × IdeStream) => (e.1, { e.2 with keyed := 0, live := 0 })) }

/-- The secure region and the spare of bank 15 are zero; a copy or a test in that bank ends (R353, R356, R389). -/
def Banks.wiped (k : Banks) : Banks :=
  let k := if Tab.get 0 k.phase 15 = 2 then k.abandon 15 else if Tab.get 0 k.phase 15 = 1 then k.endBorrow 15 else k
  { k with mem := k.mem.filter (fun e => decide (e.1 < 15 * 1048576) || decide (15 * 1048576 + 524288 ≤ e.1)),
           poison := k.poison.filter (fun e => decide (8 * e.1 < 15 * 1048576) || decide (15 * 1048576 + 524288 ≤ 8 * e.1)),
           spareDirty := Tab.set false k.spareDirty 15 false }

/-- A wipe (R389). -/
def State.wipe (s : State) : State := (s.upKeep Keep.wiped).upBanks Banks.wiped

/-- Life-cycle state as a code (R390): no two valid copies agreeing is SCRAPPED. -/
def Lc.code : Lc → BitVec 3
  | .blank => 0
  | .provisioned => 1
  | .deployed => 2
  | .returned => 3
  | .scrapped => 4

/-- Event data of code 0x0004 (Table 14-9). -/
def keepEvent (kind : BitVec 4) (src : BitVec 8) (lc : Lc) : BitVec 32 :=
  kind ++ (0#4) ++ src ++ (0#5) ++ lc.code ++ (0#8)

/-- The response to a tamper source under main power (R396), with event line 62 (Table 1-4) after the Director reset. -/
def State.tamperNow (src : Nat) (inj : Bool) (s : State) : State :=
  let bit : BitVec 8 := setBit 0 src true
  let s := s.upKeep (fun k => { k with keys := false, tampered := true, src := k.src ||| bit })
  let s := s.purge.wipe
  let s := s.postEvent 4 (keepEvent 1 bit s.keep.lc) false
  (s.occur 43 0 (((1#4) ++ s.keep.vbsrc ++ bit : BitVec 20).setWidth 64) inj).raiseIn 62

/-- TAMPER: a source of Table 14-6 trips under main power; before the Keeper is ready it is found at its check (R398). -/
def execTamper (src : BitVec 3) (s : State) : Answer :=
  if 6 ≤ src.toNat then .next s
  else
    let inj := s.armedFor 43 (fun u _ => u == src.toNat)
    let s := if inj then s.fired else s
    if s.ready 3 then .next (s.tamperNow src.toNat inj)
    else .next (s.upKeep (fun k => { k with active := setBit k.active src.toNat true }))

/-- VBAT_TAMPER: a source trips under VBAT alone: the region is wiped and the latch holds the source (R397). -/
def execVbatTamper (src : BitVec 3) (s : State) : Answer :=
  if src = 0 ∨ src = 4 ∨ src = 5 then
    .next (s.wipe.upKeep (fun k => { k with vbLatch := setBit k.vbLatch src.toNat true }))
  else .next s

/-- VBAT_LOST: VBAT falls below 1.6 V: the retained region and the latch are lost (R397). -/
def execVbatLost (s : State) : Answer := .next (s.upKeep (fun k => { k with vbGone := true, vbLatch := 0 }))

end Sys2Proof.Machine
end

