-- ==== Sys2Proof/Machine/Keeper.lean ====
section
/-!
DEFINITION. The Keeper: tokens and life cycle (R390 to R394, R406), its commands (Table 14-5), measurements and the
attestation report (R399, R401), and the judgement of an image's envelope (R405, R407, R497).
-/

namespace Sys2Proof.Machine

/-! ## Identity and measurements -/

/-- Length of the certificate chain in bytes, at most 3,072 (R388). -/
def chainLen : Nat := (Config.provisioned 12 1).toNat % 3072 + 1

/-- The public key of DIK, an uncompressed point of 97 bytes, and the chain (R387, R388). -/
def dikBytes : List Byte := natBytes 97 (Config.provisioned 776 2).toNat
/-- The certificate chain: the device certificate stored at provisioning, and the alias certificate, which carries measurements 1, 2
and 6. -/
def chainBytes (cert : List Byte) (m1 m2 m6 : BitVec 384) : List Byte :=
  natBytes chainLen (Config.crypto 24576 388 (natBytes 48 m1.toNat ++ natBytes 48 m2.toNat ++ natBytes 48 m6.toNat ++ cert)).toNat

/-- Digests of the vendor images of a KIND, in load order. -/
def Seq.vendorDigests (q : Seq) (kind : Nat) : List Byte :=
  (q.images.filter (fun p => p.ch.isNone && p.img.kind.toNat == kind)).flatMap (fun p => natBytes 48 p.img.digest.toNat)

/-- What a recipe image in force adds to measurement 9: DOMAIN, VERSION, digest. -/
def Image.entry9 (i : Image) : List Byte := natBytes 1 i.domain.toNat ++ natBytes 4 i.version.toNat ++ natBytes 48 i.digest.toNat

/-- Insert an image in the order of measurement 9: DOMAIN, then digest. -/
def insert9 (i : Image) : List Image → List Image
  | [] => [i]
  | j :: js => if i.domain < j.domain ∨ (i.domain = j.domain ∧ i.digest ≤ j.digest) then i :: j :: js else j :: insert9 i js

/-- JTAG debug is permitted (R414, Table 14-2). -/
def Keep.debug (k : Keep) : Bool :=
  match k.lc with
  | .blank => true
  | .provisioned => true
  | .deployed => k.right 1
  | .returned => true
  | .scrapped => false

/-- Measurement n (Table 14-7): 2, 6 and 7 as recorded, the others from what they cover as it stands. -/
def State.measurement (n : Nat) (s : State) : BitVec 384 :=
  let k := s.keep
  let of_ (bs : List Byte) : BitVec 384 := Config.crypto 384 (200 + n) bs
  match n with
  | 1 => Config.provisioned 384 3
  | 2 => Tab.get 0 k.meas 2
  | 3 => Config.provisioned 384 4
  | 4 => of_ (s.seq.vendorDigests 0)
  | 5 => of_ (s.seq.vendorDigests 1)
  | 6 => Tab.get 0 k.meas 6
  | 7 => Tab.get 0 k.meas 7
  | 8 => of_ (natBytes 1 k.lc.code.toNat ++ natBytes 1 (if k.debug then 1 else 0) ++
      (match k.mtoken with | some (r, c, _) => natBytes 1 r.toNat ++ natBytes 4 c.toNat | none => natBytes 5 0))
  | 9 => of_ (((s.seq.images.filter (fun p => p.ch.isSome)).foldl (fun l p => insert9 p.img l) []).flatMap Image.entry9)
  | _ => of_ [bit1 k.tampered ++ bit1 k.vblost ++ (0#6), k.src, k.vbsrc]

/-- The chain of R388 as it stands. -/
def State.chain (s : State) : List Byte := chainBytes s.keep.cert (s.measurement 1) (s.measurement 2) (s.measurement 6)

/-- The Keeper measurement digest of Double mode (R399). -/
def State.pairDigest (s : State) : BitVec 384 :=
  Config.crypto 384 220 ([2, 3, 4, 5, 6, 7, 9].flatMap (fun n => natBytes 48 (s.measurement n).toNat))

/-- The state forbids attestation and SPDM (Table 14-2). -/
def Keep.mute (k : Keep) : Bool := decide (k.lc = .blank) || decide (k.lc = .scrapped)

/-! ## Keeper commands (Table 14-5) -/

/-- A KP_CMD ends: BUSY clears, CODE, event line 62. -/
def State.kpEnd (code : BitVec 8) (s : State) : State :=
  (s.upKeep (fun k => { k with code := code, busy := false })).raiseIn 62

/-- A KP_CMD with GO: served once KEEPER is set, ignored while another runs; fails TAMPERED while tampered.  With BUSY set
by a register write, the command is the end of that one: its token has been fetched (log entry 34). -/
def State.kpDo (op : BitVec 8) (body : State → BitVec 8 × State) (s : State) : State :=
  if !s.ready 3 || (s.keep.busy && s.keep.kpOp != op) then s
  else
    let s := if s.keep.busy then s else s.upKeep (fun k => { k with cmdOp := op })
    if s.keep.tampered then s.kpEnd 9
    else
      let r := body s
      r.2.kpEnd r.1

/-- The same as an outcome. -/
def State.kpRun (op : BitVec 8) (body : State → BitVec 8 × State) (s : State) : Answer := .next (s.kpDo op body)

/-- The layout of a token holds: ranges and must-be-0 fields (Table 14-4). -/
def tokenMade (t : Token) : Bool :=
  t.readOk && t.formatOk && decide (1 ≤ t.kind.toNat) && decide (t.kind.toNat ≤ 7) &&
    decide (t.length.toNat = 240 + t.body.length) && decide (t.length.toNat ≤ 4096) && (t.kind == 1 || t.body.isEmpty) &&
    (if t.kind = 7 then decide (1 ≤ t.domain.toNat) && decide (t.domain.toNat ≤ 63) else t.domain == 0) &&
    (if t.kind = 6 then fld t.rights 2 6 == 0 && decide (1 ≤ t.validity.toNat) && decide (t.validity.toNat ≤ 2592000)
     else t.rights == 0 && t.validity == 0) &&
    (t.kind == 2 || t.key == 0)

/-- The checks of R393 that every token meets: its layout, this device, a counter above the stored one. -/
def tokenFits (t : Token) (k : Keep) : Bool :=
  tokenMade t && t.ident == deviceIdent && decide (k.counter < t.counter)

/-- The state that a token of a KIND leads to from a state (Table 14-3). -/
def nextLc (kind : BitVec 8) (from_ : Lc) : Option Lc :=
  match kind.toNat, from_ with
  | 1, .blank => some .provisioned
  | 2, .provisioned => some .deployed
  | 3, .deployed => some .returned
  | 4, .returned => some .provisioned
  | 5, .blank => some .scrapped
  | 5, .provisioned => some .scrapped
  | 5, .returned => some .scrapped
  | 5, .deployed => some .scrapped
  | _, _ => none

/-- The further effect of a transition (Table 14-3). -/
def Keep.further (k : Keep) (t : Token) : Keep :=
  match t.kind.toNat with
  | 1 => { k with provisioned := true, cert := t.body }
  | 2 => { k with ownerKey := some (Config.crypto 384 390 (natBytes 97 t.key.toNat)) }
  | 3 => { k with domOwner := [], floors := [], ownerKey := none }
  | 5 => { k with provisioned := false, cert := [], domOwner := [] }
  | _ => k

/-- An injection or a debug instruction whose permission has gone ends (R414, R451). -/
def State.recheck (s : State) : State :=
  let s := s.recheckInj
  let gone (i : BitVec 8) : Bool := if s.keep.lc = .scrapped then i != 1 else fld i 5 3 == 4 && !s.keep.debug
  s.upRst (fun r => if gone r.jir then { r with jir := 0xFF } else r)

/-- Some channel that is not admin-capable is not FREE (R392). -/
def State.channelsLeft (s : State) : Bool := s.host.chans.any (fun e => !e.2.adm && decide (e.2.st ≠ .free))

/-- KP_TRANSITION: KP_CMD.OP = TRANSITION (R391, R392). -/
def execKpTransition (tok : Token) (s : State) : Answer :=
  s.kpRun 1 (fun s =>
    let k := s.keep
    if s.channelsLeft then (0x0A, s)
    else if s.spl.sess.isSome || k.sess.any (fun e => e.2.isSome) then (0x0C, s)
    else if k.lc = .scrapped then (7, s)
    else if !tokenFits tok k || decide (5 < tok.kind.toNat) then (8, s)
    else
      match nextLc tok.kind k.lc with
      | none => (7, s)
      | some l =>
        if !(tok.kind == 5 && decide (k.lc ≠ .deployed)) && !tok.sigOk then (1, s)
        else
          let s := s.purge.wipe.upKeep (fun k =>
            let k := k.further tok
            { k with lc0 := (l, true), lc1 := (l, true), lc2 := (l, true), counter := tok.counter, keys := decide (l ≠ .scrapped) })
          (0, ((s.postEvent 4 (keepEvent 3 0 l) false).upErr (fun e => { e with armed := none })).recheck))

/-- KP_MTOKEN: a maintenance token takes effect (R394). -/
def execKpMtoken (tok : Token) (s : State) : Answer :=
  s.kpRun 2 (fun s =>
    let k := s.keep
    if !tokenFits tok k || tok.kind != 6 then (8, s)
    else if k.lc ≠ .deployed then (7, s)
    else if !tok.sigOk then (1, s)
    else
      let end_ := s.tbNow.toNat + 1000000000 * tok.validity.toNat
      let s := s.upKeep (fun k => { k with mtoken := some (tok.rights, tok.counter, end_), counter := tok.counter })
      (0, (s.postEvent 4 (keepEvent 5 0 s.keep.lc) false).recheck))

/-- The maintenance token in force ends (R394, R451). -/
def State.endToken (s : State) : State :=
  match s.keep.mtoken with
  | none => s
  | some _ =>
    let s := s.upKeep (fun k => { k with mtoken := none })
    (s.postEvent 4 (keepEvent 6 0 s.keep.lc) false).recheck

/-- MTOKEN_END runs. -/
def State.kpEndToken (s : State) : State := s.kpDo 3 (fun s => (0, s.endToken))

/-- KP_MTOKEN_END. -/
def execKpMtokenEnd (s : State) : Answer := .next s.kpEndToken

/-- MTOKEN_EXPIRY: VALIDITY seconds of timebase have elapsed (R394). -/
def execMtokenExpiry (s : State) : Answer :=
  match s.keep.mtoken with
  | some (_, _, t) => .next (if t ≤ s.tbNow.toNat then s.endToken else s)
  | none => .next s

/-- KP_DOMAIN_RELEASE (R406). -/
def execKpDomainRelease (tok : Token) (s : State) : Answer :=
  s.kpRun 4 (fun s =>
    let d := tok.domain.toNat
    if !tokenFits tok s.keep || tok.kind != 7 then (8, s)
    else if s.host.chans.any (fun e => e.2.dom.toNat == d && decide (e.2.st ≠ .free)) then (0x0A, s)
    else if !tok.sigOk || (Tab.get none s.keep.domOwner d).isNone then (1, s)
    else
      (0, s.upKeep (fun k => { k with domOwner := Tab.set none k.domOwner d none, dk := Tab.set 0 k.dk d 0,
                                      counter := tok.counter })))

/-- IDENTITY runs: the DIK public key and the chain go to KP_ADDR; SCRAPPED has destroyed what they rest on, and leaves them open. -/
def State.kpIdentity (s : State) : State :=
  s.kpDo 5 (fun s =>
    let bytes := dikBytes ++ s.chain
    if s.keep.lc = .scrapped then
      (0, s.took.toHost (.hostWrite 0 s.keep.kaddr (natBytes bytes.length (s.freeVal (8 * bytes.length)).toNat)))
    else (0, s.toHost (.hostWrite 0 s.keep.kaddr bytes)))

/-- KP_IDENTITY. -/
def execKpIdentity (s : State) : Answer := .next s.kpIdentity

/-! ## ATTEST (R401, Table 14-8) -/

/-- Every byte of the report before the signature. -/
def State.attestBody (nonce : BitVec 256) (s : State) : List Byte :=
  let k := s.keep
  let chain := s.chain
  let pad := (4 - chain.length % 4) % 4
  let total := 768 + chain.length + pad + 96
  natBytes 2 1 ++ natBytes 2 total ++ natBytes 16 s.ident.toNat ++ natBytes 1 k.lc.code.toNat ++
    [(0#5) ++ bit1 k.mtoken.isSome ++ bit1 k.vblost ++ bit1 k.tampered] ++ natBytes 2 10 ++ natBytes 8 s.tbNow.toNat ++
    natBytes 32 nonce.toNat ++ natBytes 2 chain.length ++ natBytes 62 0 ++
    ((List.range 10).flatMap (fun i => natBytes 16 (i + 1) ++ natBytes 48 (s.measurement (i + 1)).toNat)) ++
    chain ++ natBytes pad 0

/-- A signature by AK over bytes, from the key registers as they stand. -/
def State.signAk (bs : List Byte) (s : State) : BitVec 768 := s.keep.signAk bs

/-- ATTEST. -/
def execAttest (ch : BitVec 18) (s : State) : Answer :=
  s.aside ch 0x48 (fun s => s.onRuntime false ch 0x48 (fun x s =>
    if s.keep.mute then s.fail ch 0x48 11 7
    else
      let body := s.attestBody (fld x 224 256)
      let report := body ++ natBytes 96 (s.signAk body).toNat
      if slNum x 24 4 < report.length then s.badArg ch 0x48 24
      else
        (s.dmaWrite (s.fnOf ch) (slNum x 16 8) report).okay ch 0x48
          (BitVec.ofNat 32 report.length)))

/-! ## Images (R404, R405, R407, R497) -/

/-- Key of a rollback floor. -/
def floorKey (i : Image) : Nat := 64 * i.kind.toNat + (if i.kind = 2 then i.domain.toNat else 0)

/-- The hash of the signer key that R405 requires is not the one the image carries. -/
def Keep.wrongSigner (k : Keep) (i : Image) : Bool :=
  if i.kind = 2 then
    match Tab.get none k.domOwner i.domain.toNat with
    | some h => h != i.signer
    | none => false
  else i.signer != Config.provisioned 384 5

/-- The life-cycle state forbids the load (Table 14-2). -/
def Keep.forbidsLoad (k : Keep) (kind : BitVec 8) : Bool :=
  if kind = 2 then k.lc ≠ .provisioned && k.lc ≠ .deployed else k.lc = .scrapped

/-- The first check of R497 that the image fails. -/
def Keep.judge (k : Keep) (slateKind : BitVec 8) (i : Image) : Option (BitVec 8) :=
  if k.tampered then some 9
  else if k.forbidsLoad slateKind then some 7
  else if !i.envelopeOk || 2 < i.kind.toNat then some 0x0B
  else if i.kind = 2 && (i.domain == 0 || decide (63 < i.domain.toNat)) then some 6
  else if k.wrongSigner i then some 4
  else if !i.sigOk then some 1
  else if !i.wrappedFor.contains deviceIdent then some 3
  else if !i.tagOk then some 2
  else if i.version < Tab.get 0 k.floors (floorKey i) then some 5
  else none

/-- What a commit changes: the floor, the owner that a first image claims, DK_d (R405, R407). -/
def Keep.committed (k : Keep) (i : Image) : Keep :=
  let k := { k with floors := Tab.set 0 k.floors (floorKey i) i.version }
  if i.kind = 2 then
    { k with domOwner := Tab.set none k.domOwner i.domain.toNat (some i.signer), dk := Tab.set 0 k.dk i.domain.toNat i.dk }
  else k

end Sys2Proof.Machine
end

