-- ==== Sys2Proof/Machine/CrewScan.lean ====
section
/-!
DEFINITION. The crew register block (Tables 10-11 and 18-9) and discovery (R287 to R289): CREW_SCAN, the SCAN, IDENT, MGT and MGTR
frames, the assignment of addresses and the report.
-/

namespace Sys2Proof.Machine

/-! ## The crew register block -/

/-- An offset of the block that names a register (Table 18-9). -/
def crewRegNamed (o : Nat) : Bool :=
  o % 8 == 0 && (decide (o < 0x130) || (decide (0x200 ≤ o) && decide (o < 0x280)) || (decide (0x800 ≤ o) && decide (o < 0x1800)) ||
    (decide (0x2000 ≤ o) && decide (o < 0x2800) && decide (o % 0x80 < 0x50)))

/-- An offset that names a register with a field to write. -/
def crewRegWritable (o : Nat) : Bool :=
  crewRegNamed o && (decide (o < 0x80) || o == 0x100 || o == 0x108 || o == 0x110 || o == 0x118 || o == 0x120 ||
    (decide (0x200 ≤ o) && decide (o < 0x280)) || (decide (0x800 ≤ o) && decide (o < 0x1000)))

/-- A write to the block; fn and source are what REG_RSVD logs.  EN = 1 in a domain that is not ON stays 0 (R428). -/
def State.writeCrewReg (o : Nat) (v : BitVec 32) (fn source : Nat) (s : State) : State :=
  if o % 8 ≠ 0 then s
  else if o < 0x80 then
    let p : BitVec 4 := BitVec.ofNat 4 (o / 8)
    let b := 17 + o / 8 / 4
    let on := v.msb && s.dom b == 2
    let s := if v.msb && !on then s.upGaf (fun g => { g with domRef := setBit g.domRef b true }) else s
    let s := s.upPort p (fun q => { q with en := on })
    if on then s.train p
    else if (s.port p).up then s.linkFailed p
    else s.upPort p (fun q => { q with train := false })
  else if o = 0x100 then s.upCrew (fun c => { c with bypOpen := v.getLsbD 0 })
  else if o = 0x108 then s.upCrew (fun c => { c with addr := v &&& 0xC00000FF })
  else if o = 0x110 then s.upCrew (fun c => { c with remote := v.msb, tmaster := v.getLsbD 30, tparent := fld v 24 4 })
  else if o = 0x118 then
    let s := if v.getLsbD 0 then s.crewSwap else s
    if v.getLsbD 1 then s.crewRelease else s
  else if o = 0x120 then s.upCrew (fun c => { c with hxmap := v &&& 0xCFCFCFCF })
  else if 0x200 ≤ o ∧ o < 0x280 then
    let s := s.writeGrp (BitVec.ofNat 4 ((o - 0x200) / 8)) v
    if fld v 16 6 = (0 : BitVec 6) then s.regRsvd fn (0xC0000 + o) source else s
  else if 0x800 ≤ o ∧ o < 0x1000 then s.writeCrewRts (BitVec.ofNat 8 ((o - 0x800) / 8)) v
  else s

/-! ## Scan records (Table 10-7) -/

/-- The identifier under which the crew knows this device: the lead's for a paired mate (R319). -/
def State.crewIdent (s : State) : BitVec 128 := if s.isMate then s.pair.partner else s.ident

/-- The port words of this device's record; a pair's are the lead's. -/
def State.recordPorts (s : State) : BitVec 256 := if s.paired then s.pair.ports else s.portWords

/-- This device's scan record, with the parent's address (log entry 46) and the hop count. -/
def State.scanRecord (parent : BitVec 8) (hops : Nat) (s : State) : BitVec 512 :=
  let a := s.crew.addr
  let flags : BitVec 8 := (0#3) ++ bit1 s.paired ++ bit1 (!a.msb) ++ bit1 (!s.crew.remote) ++ (0#1) ++ bit1 (a.getLsbD 30)
  let head : BitVec 168 := s.crew.inc ++ flags ++ parent ++ BitVec.ofNat 8 hops ++ fld a 0 8 ++ s.crewIdent
  putFld (head.setWidth 512) 256 s.recordPorts

/-- Words of a payload, lowest first. -/
def wordsOf (n : Nat) (v : Nat) : List (BitVec 32) := (List.range n).map (fun i => BitVec.ofNat 32 (v / 2 ^ (32 * i)))

/-- The number that n payload words from word k on hold. -/
def frameNat (f : Frame) (k n : Nat) : Nat := (List.range n).foldr (fun i v => (f.word (k + i)).toNat + 4294967296 * v) 0

/-- Ports that scan frames use: up, and not the pair port. -/
def State.scanPorts (s : State) : List (BitVec 4) :=
  ((List.range 16).map (BitVec.ofNat 4)).filter (fun p =>
    if s.paired then p != 15 && s.pair.ports.getLsbD (16 * p.toNat + 15) else s.portUp p)

/-- The SCAN frame of a scan. -/
def State.scanFrame (ident : BitVec 128) (num : BitVec 16) (hops : BitVec 32) (s : State) : Frame :=
  s.mkFrame 7 0 0 (num.setWidth 34) (wordsOf 4 ident.toNat ++ [hops])

/-- A frame that is not this device's passes on from port p to port q; a pair's lead alone passes it. -/
def State.passOn (p q : BitVec 4) (f : Frame) (s : State) : State :=
  if s.isMate then s else if s.portUp q then s.cross p q f none else s.crewCount q 3 1

/-! ## Taking part in a scan (R287) -/

/-- The scan of this device began less than 10 ms ago (R287). -/
def State.scanning (s : State) : Option Scan := s.crew.scan.filter (fun x => decide (s.now < x.since + 10000000))

/-- The own CREW_SCAN that loses to a scanner with a lower identifier completes FAILED DENIED. -/
def State.loseScan (s : State) : State :=
  match s.crew.own with
  | some o =>
    match o.ch with
    | some ch => (s.upCrew (fun c => { c with own := none })).fail ch 0x47 2 0
    | none => s
  | none => s

/-- CREW_SCAN (R287): the scan number advances and SCAN goes out on every port. -/
def execCrewScan (ch : BitVec 18) (s : State) : Answer :=
  s.onRuntime false ch 0x47 (fun _ s => s.onPf ch 0x47 (fun s =>
    let lost := match s.scanning with
      | some x => !x.mine && decide (x.ident < s.crewIdent)
      | none => false
    if lost then s.fail ch 0x47 2 0
    else
      let num := s.crew.scanNum + 1
      let part : Scan := { ident := s.crewIdent, num := num, mine := true, parent := 0, hops := 0, from_ := 0, since := s.now }
      let own : OwnScan :=
        { num := num, ch := some ch, lastIdent := s.now, records := [s.scanRecord (fld s.crew.addr 0 8) 0], loading := false,
          due := [], swapped := 0 }
      let s := s.upCrew (fun c => { c with scanNum := num, scan := some part, own := some own })
      let s := s.scanPorts.foldl (fun s p => s.sendFrame p (s.scanFrame s.crewIdent num 1) none) s
      s.await ch 0x47))

/-- A SCAN that this device takes part in: it is passed on, and IDENT goes to the parent, whose address is the SCAN's SRC. -/
def State.joinScan (p : BitVec 4) (ident : BitVec 128) (num : BitVec 16) (hops : BitVec 32) (parent : BitVec 8) (s : State) :
    State :=
  let x : Scan :=
    { ident := ident, num := num, mine := false, parent := p, hops := hops, from_ := setBit 0 p.toNat true, since := s.now }
  let s := s.upCrew (fun c => { c with scan := some x })
  let s := (s.scanPorts.filter (· != p)).foldl (fun s q => s.sendFrame q (s.scanFrame ident num (hops + 1)) none) s
  s.sendFrame p (s.mkFrame 8 0 0 (num.setWidth 34) (wordsOf 16 (s.scanRecord parent hops.toNat).toNat)) none

/-- A SCAN frame (R287): within 10 ms of the current scan only one of a lower scanner, which makes an own scan lose. -/
def State.takeScan (p : BitVec 4) (f : Frame) (s : State) : State :=
  let ident : BitVec 128 := BitVec.ofNat 128 (frameNat f 0 4)
  let num : BitVec 16 := fld f.tsf 0 16
  let known := match s.crew.scan with
    | some x => x.ident == ident && x.num == num
    | none => false
  if known then s.upCrew (fun c => { c with scan := c.scan.map (fun x => { x with from_ := setBit x.from_ p.toNat true }) })
  else
    match s.scanning with
    | some x =>
      if x.ident = ident then s.joinScan p ident num (f.word 4) f.src
      else if ident < x.ident then (if x.mine then s.loseScan else s).joinScan p ident num (f.word 4) f.src
      else s
    | none => s.joinScan p ident num (f.word 4) f.src

/-- The scan that a frame's TSF names, if it is the one in which this device takes part. -/
def State.scanOf (f : Frame) (s : State) : Option Scan := s.crew.scan.filter (fun x => x.num == fld f.tsf 0 16 && !x.mine)

/-- The own scan that a frame's TSF names. -/
def State.ownOf (f : Frame) (s : State) : Option OwnScan := s.crew.own.filter (fun x => x.num == fld f.tsf 0 16)

/-- A frame passes to the parent of the scan it names. -/
def State.toParent (p : BitVec 4) (f : Frame) (s : State) : State :=
  match s.scanOf f with
  | some x => s.passOn p x.parent f
  | none => s

/-- An IDENT frame: the scanner keeps its record, another device passes it to its parent. -/
def State.takeIdent (p : BitVec 4) (f : Frame) (s : State) : State :=
  match s.ownOf f with
  | some o =>
    if o.loading then s
    else s.upCrew (fun c => { c with own := some { o with lastIdent := s.now,
                                                          records := o.records ++ [BitVec.ofNat 512 (frameNat f 0 16)] } })
  | none => s.toParent p f

/-- One write record of an MGT frame (R288): its status, and its effect. -/
def State.mgtRecord (lo hi : BitVec 32) (s : State) : Byte × State :=
  let o := (fld hi 16 16).toNat
  if !s.crew.remote then (0xFF, s)
  else if fld hi 0 16 ≠ (0 : BitVec 16) ∨ !crewRegNamed o then (1, s)
  else (0, if crewRegWritable o then s.writeCrewReg o lo 0 1 else s)

/-- The records of an MGT frame are applied by a device that it names, with an MGTR reply (R288). -/
def State.applyMgt (parent : BitVec 4) (num : BitVec 16) (f : Frame) (s : State) : State :=
  let target : BitVec 128 := BitVec.ofNat 128 (frameNat f 0 4)
  if target ≠ s.crewIdent ∧ target ≠ BitVec.allOnes 128 then s
  else
    let n := (f.payload.length - 4) / 2
    let r := (List.range n).foldl (fun (acc : List Byte × State) i =>
      let y := acc.2.mgtRecord (f.word (4 + 2 * i)) (f.word (5 + 2 * i))
      (acc.1 ++ [y.1], y.2)) ([], s)
    r.2.sendFrame parent (r.2.mkFrame 0xA 0 0 (num.setWidth 34) (wordsOf 4 target.toNat ++ wordsOf ((n + 3) / 4) (bytesNat r.1))) none

/-- An MGT frame: it is applied by the devices it names, and passed down the scan tree. -/
def State.takeMgt (p : BitVec 4) (f : Frame) (s : State) : State :=
  match s.scanOf f with
  | none => s
  | some x =>
    (s.scanPorts.filter (fun q => x.from_.getLsbD q.toNat && q != x.parent)).foldl (fun s q => s.passOn p q f)
      (s.applyMgt x.parent x.num f)

/-! ## The end of a scan: addresses, routes, report (R287, R289) -/

/-- Identifier of a record. -/
def recIdent (r : BitVec 512) : BitVec 128 := fld r 0 128
/-- HOPS. -/
def recHops (r : BitVec 512) : BitVec 8 := fld r 136 8
/-- ADDR. -/
def recAddr (r : BitVec 512) : BitVec 8 := fld r 128 8
/-- FLAGS bit i: 0 pinned, 1 pin conflict, 2 REMOTE = 0, 3 no address. -/
def recFlag (r : BitVec 512) (i : Nat) : Bool := r.getLsbD (152 + i)

/-- Insert a record by hop count, then identifier. -/
def insertRec (r : BitVec 512) : List (BitVec 512) → List (BitVec 512)
  | [] => [r]
  | x :: xs =>
    if recHops r < recHops x ∨ (recHops r = recHops x ∧ recIdent r ≤ recIdent x) then r :: x :: xs else x :: insertRec r xs

/-- The records in report order: the scanner's first. -/
def reportOrder : List (BitVec 512) → List (BitVec 512)
  | [] => []
  | own :: rest => own :: rest.foldl (fun l r => insertRec r l) []

/-- Two pinned devices hold one address: the one with the higher identifier is treated as unpinned and flagged. -/
def flagConflicts (rs : List (BitVec 512)) : List (BitVec 512) :=
  rs.map (fun r =>
    let beaten := rs.any (fun x => recFlag x 0 && recAddr x == recAddr r && decide (recIdent x < recIdent r))
    setBit r 153 (recFlag r 0 && beaten))

/-- A device keeps its address: pinned without a conflict, or REMOTE = 0 (R289). -/
def keepsAddr (r : BitVec 512) : Bool := (recFlag r 0 && !recFlag r 1) || recFlag r 2

/-- The lowest address that none of `held` is. -/
def lowestFree (held : List (BitVec 8)) : Option (BitVec 8) :=
  ((List.range 256).find? (fun n => !held.contains (BitVec.ofNat 8 n))).map (BitVec.ofNat 8)

/-- Addresses in report order (R289): each record with its address and flags after assignment. -/
def assignAddrs (held : List (BitVec 8)) : List (BitVec 512) → List (BitVec 512)
  | [] => []
  | r :: rs =>
    if keepsAddr r then r :: assignAddrs (if recFlag r 3 then held else recAddr r :: held) rs
    else
      match lowestFree held with
      | some a => setBit (putFld r 128 a) 155 false :: assignAddrs (a :: held) rs
      | none => setBit r 155 true :: assignAddrs held rs

/-- Records in groups of at most 62 (Table 10-5). -/
def chunks62 {α : Type} : Nat → List α → List (List α)
  | 0, _ => []
  | n + 1, l => if l.isEmpty then [] else l.take 62 :: chunks62 n (l.drop 62)

/-- The scanner sends write records to a device, on every port on which it sent SCAN. -/
def State.sendMgt (target : BitVec 128) (num : BitVec 16) (recs : List (BitVec 16 × BitVec 32)) (s : State) : State :=
  (chunks62 8 recs).foldl (fun s l =>
    let words := wordsOf 4 target.toNat ++ l.flatMap (fun r => [r.2, r.1 ++ (0#16)])
    s.scanPorts.foldl (fun s p => s.sendFrame p (s.mkFrame 9 0 0 (num.setWidth 34) words) none) s) s

/-- PARENT of a record. -/
def recParent (r : BitVec 512) : BitVec 8 := fld r 144 8

/-- Whether the link at a port of the device with record r closes a ring over the scan tree: it is up and joins the device neither
to its parent nor to a child.  Each ring has one such link, and both its ends see it (R292; log entry 32). -/
def closesRing (rs : List (BitVec 512)) (r : BitVec 512) (port : BitVec 4) : Bool :=
  let w : BitVec 16 := fld r (256 + 16 * port.toNat) 16
  let far : BitVec 8 := fld w 0 8
  w.msb && !(recHops r != 0 && far == recParent r) &&
    !rs.any (fun x => recHops x == recHops r + 1 && recAddr x == far && recParent x == recAddr r)

/-- The route entries that Envor computes for one device, whose record is r: VALID and PORT no rule gives, free values (log entry 32);
VCUP is set for the links that close a ring (R292). -/
def State.routesFor (rs : List (BitVec 512)) (r : BitVec 512) (addrs : List (BitVec 8)) (s : State) :
    List (BitVec 8 × BitVec 32) × State :=
  addrs.foldl (fun (acc : List (BitVec 8 × BitVec 32) × State) a =>
    let v : BitVec 5 := acc.2.freeVal 5
    let port : BitVec 4 := fld v 0 4
    let e : BitVec 8 := bit1 v.msb ++ bit1 (closesRing rs r port) ++ (0#2) ++ port
    (acc.1 ++ [(a, e.setWidth 32)], acc.2.took)) ([], s)

/-- One device takes its address and its standby routes; with the state, how many MGT frames went to it. -/
def State.equip (rs : List (BitVec 512)) (num : BitVec 16) (addrs : List (BitVec 8)) (r : BitVec 512) (s : State) : State × Nat :=
  let old := (rs.find? (fun x => recIdent x == recIdent r)).getD r
  let routes := s.routesFor rs old (addrs.filter (· != recAddr r))
  let keep := keepsAddr r || recFlag r 3
  let value : BitVec 32 := 0x80000000 ||| (recAddr r).setWidth 32
  if recIdent r = s.crewIdent then
    let s := if keep then routes.2 else routes.2.writeCrewReg 0x108 value 0 0
    (routes.1.foldl (fun s x => s.writeCrewRts x.1 x.2) s, 0)
  else
    let recs := (if keep then [] else [(0x0108, value)]) ++ routes.1.map (fun x => (0x0800 + 8 * x.1.setWidth 16, x.2))
    (routes.2.sendMgt (recIdent r) num recs, (chunks62 8 recs).length)

/-- The write of one register everywhere: on the scanner, and by an MGT frame to every device. -/
def State.everywhere (num : BitVec 16) (o : BitVec 16) (v : BitVec 32) (s : State) : State :=
  (s.writeCrewReg o.toNat v 0 0).sendMgt (BitVec.allOnes 128) num [(o, v)]

/-- Once every MGTR is in, SWAP is written everywhere (R293). -/
def State.swapRoutes (s : State) : State :=
  match s.crew.own with
  | some o =>
    if o.loading && o.swapped == 0 && o.due.all (fun d => d.2 == 0) then
      (s.upCrew (fun c => { c with own := some { o with swapped := s.now + 1 } })).everywhere o.num 0x118 1
    else s
  | none => s

/-- An MGTR frame: the scanner counts it, another device passes it to its parent. -/
def State.takeMgtr (p : BitVec 4) (f : Frame) (s : State) : State :=
  match s.ownOf f with
  | some o =>
    let target : BitVec 128 := BitVec.ofNat 128 (frameNat f 0 4)
    (s.upCrew (fun c => { c with own := some { o with
      due := o.due.map (fun d => if d.1 = target then (d.1, d.2 - 1) else d) } })).swapRoutes
  | none => s.toParent p f

/-- 1 ms after SWAP, RELEASE is written everywhere (R293). -/
def State.scanTick (s : State) : State :=
  match s.crew.own with
  | some o =>
    if o.swapped ≠ 0 ∧ o.swapped + 1000000 ≤ s.now + 1 then
      (s.upCrew (fun c => { c with own := none })).everywhere o.num 0x118 2
    else s
  | none => s

/-- SCAN_COLLECT_END: no IDENT for 1 ms: addresses are assigned, routes loaded, the report written, and the slate ends; the change of
routes goes on once every MGTR is in (R287, R293). -/
def execScanCollectEnd (s : State) : Answer :=
  match s.crew.own with
  | none => .next s
  | some o =>
    match o.ch with
    | none => .next s
    | some ch =>
      if s.now < o.lastIdent + 1000000 then .next s
      else
        match (s.chan ch).job 0x47 with
        | none => .next s
        | some e =>
          let report := assignAddrs [] (flagConflicts (reportOrder o.records))
          let addrs := (report.filter (fun r => !recFlag r 3)).map recAddr
          let x := report.foldl (fun (acc : State × List (BitVec 128 × Nat)) r =>
            let y := acc.1.equip o.records o.num addrs r
            (y.1, acc.2 ++ [(recIdent r, y.2)])) (s, [])
          let s := x.1
          let bytes := (report.flatMap (fun r => natBytes 64 r.toNat)).take (slNum e.slate 24 4)
          let s := if bytes.isEmpty then s
            else s.dmaWrite (s.fnOf ch) (slNum e.slate 16 8) bytes
          let s := (s.upCrew (fun c => { c with own := some { o with ch := none, loading := true, due := x.2 } })).swapRoutes
          .next (s.okay ch 0x47 (BitVec.ofNat 32 bytes.length))

/-! ## Frames of discovery -/

/-- What a received crew frame does here, discovery included. -/
def State.scanDeliver (p : BitVec 4) (f : Frame) (s : State) : State :=
  match f.type.toNat with
  | 7 => s.takeScan p f
  | 8 => s.takeIdent p f
  | 9 => s.takeMgt p f
  | 10 => s.takeMgtr p f
  | _ => s.crewDeliver p f

/-- A frame of discovery arrives; an ordered input of a pair's lead (R314). -/
def State.scanArrive (type : BitVec 4) (p : BitVec 4) (w : Wire) (s : State) : Answer :=
  s.arrive type p w (fun f s =>
    (if s.paired then (if s.isLead then s.orderInput (.crewFrame p f) else s) else s.scanDeliver p f).returnCredit p f)

/-- SCAN_FRAME. -/
def execScanFrame (p : BitVec 4) (w : Wire) (s : State) : Answer := s.scanArrive 7 p w
/-- IDENT_FRAME. -/
def execIdentFrame (p : BitVec 4) (w : Wire) (s : State) : Answer := s.scanArrive 8 p w
/-- MGT_FRAME. -/
def execMgtFrame (p : BitVec 4) (w : Wire) (s : State) : Answer := s.scanArrive 9 p w
/-- MGTR_FRAME. -/
def execMgtrFrame (p : BitVec 4) (w : Wire) (s : State) : Answer := s.scanArrive 10 p w

end Sys2Proof.Machine
end

