-- ==== Sys2Proof/Machine/DirFloat.lean ====
section
/-!
DEFINITION. Group 0xA: scalar binary32 (R112, R142, R143, R164, R169, R170), with FP_LAZY and FDIRTY (R191, R192).
-/

namespace Sys2Proof.Machine

/-- A group 0xA instruction of n cycles: f gives what it writes and the flags it raises.  An enabled flag traps after the
count, nothing written (R170); otherwise FPCR.FLAGS and FDIRTY take what it raised (R191). -/
def State.float (n : Nat) (f : Dir → (Dir → Dir) × FFlags) (s : State) : Answer :=
  .next (s.issue { Info.plain n with fp := true } (fun t =>
    let r := f t.dir
    if r.2 &&& fld t.dir.fpcr 8 5 ≠ 0 then
      .trap (t.upDir (fun d => { d with cyc := d.cyc + n })) 70 (r.2.setWidth 24)
    else
      .done ((t.upDir (fun d => let d' := r.1 d; { d' with fpcr := d'.fpcr ||| r.2.setWidth 24 })).upSys
        (fun y => { y with fdirty := true }))))

/-- The rounding attribute in force. -/
def Dir.mode (d : Dir) : FMode := rmMode (fld d.fpcr 16 3)

/-- An operation whose result goes to Fd. -/
def toF (dst : BitVec 3) (r : Nat × FFlags) : (Dir → Dir) × FFlags := (fun d => d.setFr dst (BitVec.ofNat 32 r.1), r.2)

/-- The code in Fn. -/
def Dir.fn (d : Dir) (i : BitVec 3) : Nat := (d.fr i).toNat

/-- FADD: Fd + Fs (Table 5-13). -/
def execFadd (dst src : BitVec 3) (s : State) : Answer :=
  s.float 2 (fun d => toF dst (fAdd fmt32 d.mode (d.fn dst) (d.fn src)))

/-- FSUB: Fd - Fs (Table 5-13). -/
def execFsub (dst src : BitVec 3) (s : State) : Answer :=
  s.float 2 (fun d => toF dst (fSub fmt32 d.mode (d.fn dst) (d.fn src)))

/-- FMUL (Table 5-13). -/
def execFmul (dst src : BitVec 3) (s : State) : Answer :=
  s.float 2 (fun d => toF dst (fMul fmt32 d.mode (d.fn dst) (d.fn src)))

/-- FDIV: Fd / Fs (Table 5-13). -/
def execFdiv (dst src : BitVec 3) (s : State) : Answer :=
  s.float 10 (fun d => toF dst (fDiv fmt32 d.mode (d.fn dst) (d.fn src)))

/-- FFMA: Fs x F7 + Fd, a = Fs, b = F7, c = Fd (Table 5-13). -/
def execFfma (dst src : BitVec 3) (s : State) : Answer :=
  s.float 3 (fun d => toF dst (fFma fmt32 d.mode (d.fn src) (d.fn 7) (d.fn dst)))

/-- FSQRT (Table 5-13). -/
def execFsqrt (dst src : BitVec 3) (s : State) : Answer :=
  s.float 10 (fun d => toF dst (fSqrt fmt32 d.mode (d.fn src)))

/-- FMOV: no flag. -/
def execFmov (dst src : BitVec 3) (s : State) : Answer :=
  s.float 1 (fun _ => (fun d => d.setFr dst (d.fr src), 0))

/-- FNEG: the sign inverted, no flag. -/
def execFneg (dst src : BitVec 3) (s : State) : Answer :=
  s.float 1 (fun _ => (fun d => d.setFr dst (d.fr src ^^^ 0x80000000), 0))

/-- FABS: the sign cleared, no flag. -/
def execFabs (dst src : BitVec 3) (s : State) : Answer :=
  s.float 1 (fun _ => (fun d => d.setFr dst (d.fr src &&& 0x7FFFFFFF), 0))

/-- A compare of F0 with Fs into window register g; an unordered compare writes 0 but in FCUN. -/
def floatCmp (kind : Nat) (g src : BitVec 3) (d : Dir) : (Dir → Dir) × FFlags :=
  let r := fCmp fmt32 kind (d.fn 0) (d.fn src)
  (fun d => d.setG g (if r.1 then 1 else 0), r.2)

/-- FCEQ (quiet). -/
def execFceq (g src : BitVec 3) (s : State) : Answer :=
  s.float 1 (floatCmp 0 g src)

/-- FCLT (signalling). -/
def execFclt (g src : BitVec 3) (s : State) : Answer :=
  s.float 1 (floatCmp 1 g src)

/-- FCLE (signalling). -/
def execFcle (g src : BitVec 3) (s : State) : Answer :=
  s.float 1 (floatCmp 2 g src)

/-- FCUN (quiet). -/
def execFcun (g src : BitVec 3) (s : State) : Answer :=
  s.float 1 (floatCmp 3 g src)

/-- FIN f: Ff := PH[7:0] : A. -/
def execFin (f : BitVec 3) (s : State) : Answer :=
  s.float 1 (fun _ => (fun d => d.setFr f (fld d.ph 0 8 ++ d.a), 0))

/-- FOUT f: A := Ff[23:0]; PH := Ff[31:24]. -/
def execFout (f : BitVec 3) (s : State) : Answer :=
  s.float 1 (fun _ => (fun d => { d with a := fld (d.fr f) 0 24, ph := (fld (d.fr f) 24 8).setWidth 24 }, 0))

/-- FCVTI f: A as a signed integer. -/
def execFcvti (f : BitVec 3) (s : State) : Answer :=
  s.float 2 (fun _ => (fun d => d.setFr f (fOfInt d.a.toInt), 0))

/-- FCVTU f: A as an unsigned integer. -/
def execFcvtu (f : BitVec 3) (s : State) : Answer :=
  s.float 2 (fun _ => (fun d => d.setFr f (fOfInt d.a.toNat), 0))

/-- FTOI f (R143). -/
def execFtoi (f : BitVec 3) (s : State) : Answer :=
  s.float 2 (fun d =>
    let r := fConvert d.mode true (d.fn f)
    (fun d => { d with a := r.1 }, r.2))

/-- FTOU f (R143). -/
def execFtou (f : BitVec 3) (s : State) : Answer :=
  s.float 2 (fun d =>
    let r := fConvert d.mode false (d.fn f)
    (fun d => { d with a := r.1 }, r.2))

end Sys2Proof.Machine
end

