-- ==== Sys2Proof/Machine/DirFlow.lean ====
section
/-!
DEFINITION. Groups 0x8 and 0x9: branches, calls, jumps and RET (R122, R123, R140, R141).
-/

namespace Sys2Proof.Machine

/-- An instruction of control transfer: not repeatable. -/
def Info.flow (ext illegal : Bool) : Info := { Info.plain 1 with rep := false, ext := ext, illegal := illegal }

/-- A conditional branch (R140): the register is tested in all 24 bits. -/
def State.branch (z : Bool) (g : BitVec 3) (disp : BitVec 6) (s : State) : Answer :=
  let lit := s.literal
  .next (s.issue (Info.flow true false) (fun t =>
    if decide (t.dir.g g = 0) == z then .jump t (t.dir.pc + 1 + disp6 lit disp) else .done t))

/-- A CALL to a target (R122, R123, R180, R181): LK of the new window holds the return address, KIND 0. -/
def callTo (target : Dir → BitVec 18) (t : State) : Res :=
  if 14 ≤ t.dir.cwp.toNat then .deflect t
  else
    let w := t.dir.cwp.toNat + 1
    .jump (t.upDir (fun d => { d.setSaved w 8 (0#6 ++ (d.pc + 1)) with cwp := d.cwp + 1 })) (target t.dir)

/-- BNZ: taken when G is not 0. -/
def execBnz (g : BitVec 3) (disp : BitVec 6) (s : State) : Answer :=
  s.branch false g disp

/-- BZ: taken when G is 0. -/
def execBz (g : BitVec 3) (disp : BitVec 6) (s : State) : Answer :=
  s.branch true g disp

/-- BRA (Table 5-12). -/
def execBra (disp : BitVec 8) (s : State) : Answer :=
  .next (s.issue (Info.flow true false) (fun t => .jump t (t.dir.pc + 1 + disp8 s.literal disp)))

/-- CALL: the window moves and LK takes the address after the CALL word. -/
def execCall (disp : BitVec 8) (s : State) : Answer :=
  .next (s.issue (Info.flow true false) (callTo (fun d => d.pc + 1 + disp8 s.literal disp)))

/-- JMP g: bits [23:18] of G are ignored. -/
def execJmp (z : BitVec 2) (g : BitVec 3) (s : State) : Answer :=
  .next (s.issue (Info.flow false (z != 0)) (fun t => .jump t (fld (t.dir.g g) 0 18)))

/-- CALL g: G of the caller's window. -/
def execCallIndirect (z : BitVec 2) (g : BitVec 3) (s : State) : Answer :=
  .next (s.issue (Info.flow false (z != 0)) (callTo (fun d => fld (d.g g) 0 18)))

/-- RET: PC := LK.RETPC; ILLEGAL when LK.KIND = 1 or CWP = 0 (R123). -/
def execRet (z : BitVec 5) (s : State) : Answer :=
  let w := s.dir.cwp.toNat
  let lk := s.dir.saved w 8
  .next (s.issue (Info.flow false (z != 0 || decide (w = 0) || lk.msb)) (fun t =>
    .jump (t.upDir (fun d => { d with cwp := d.cwp - 1 })) (fld lk 0 18)))

end Sys2Proof.Machine
end

