-- ==== Sys2Proof/Machine/SpliceMem.lean ====
section
/-!
DEFINITION. Queue controllers and Splice memories (R371 to R374), captures (R383) and the configuration check (R382).
-/

namespace Sys2Proof.Machine

/-- Controller q. -/
def Splice.queue (x : Splice) (q : Nat) : QCfg := Tab.get QCfg.reset x.qcfg q

/-- DEPTH. -/
def QCfg.depth (c : QCfg) : Nat := c.depthM1.toNat + 1

/-- The fabric-side ports of controller q act: enabled, and its block not held by a session (R379). -/
def Splice.queueLive (x : Splice) (q : Nat) : Bool :=
  (x.queue q).en && !x.heldBlk.getLsbD (x.queue q).owner.toNat

/-- FULL of controller q; one without a configuration is at rest (R372, R379). -/
def Splice.queueFull (x : Splice) (q : Nat) : Bool := (x.queue q).named && decide ((x.queue q).depth ≤ Tab.get 0 x.qfill q)

/-- INFO of the Splice memory detectors: queue 4, word 12. -/
def qInfo (q w : Nat) : BitVec 64 := BitVec.ofNat 64 (q + 16 * w)

/-- A read of word w of memory q: the word as stored, whether it is uncorrectable, and the detectors (R374).  Two flipped
bits are free ones (log entry 2). -/
def State.qRead (q w : Nat) (s : State) : BitVec 36 × Bool × State :=
  let fits (u a : Nat) : Bool := u == q && a == w
  let s := if s.armedFor 27 fits then s.fired.occur 27 0 (qInfo q w) true else s
  let inj := s.armedFor 28 fits
  let s := if inj then
      (let i := (s.freeVal 8).toNat % 36
       let j := (i + 1 + (s.took.freeVal 8).toNat % 35) % 36
       (s.took.took.upSpl (fun x =>
        { x with qmem := Tab.upd 0 x.qmem (4096 * q + w) (fun v => v ^^^ ((1#36 <<< i) ||| (1#36 <<< j))),
                 qpoison := Tab.set false x.qpoison (4096 * q + w) true })).fired)
    else s
  let bad := Tab.get false s.spl.qpoison (4096 * q + w)
  (Tab.get 0 s.spl.qmem (4096 * q + w), bad, if bad then s.occur 28 0 (qInfo q w) inj else s)

/-- A write of a word, with fresh check bits. -/
def State.qWrite (q w : Nat) (v : BitVec 36) (s : State) : State :=
  s.upSpl (fun x => { x with qmem := Tab.set 0 x.qmem (4096 * q + w) v,
                             qpoison := Tab.set false x.qpoison (4096 * q + w) false })

/-- A mesh or host write of some of the bytes of a word: an uncorrectable word stays so until it is written whole (R459). -/
def State.qPart (q w : Nat) (v : BitVec 36) (whole : Bool) (s : State) : State :=
  let bad := !whole && Tab.get false s.spl.qpoison (4096 * q + w)
  (s.qWrite q w v).upSpl (fun x => { x with qpoison := Tab.set false x.qpoison (4096 * q + w) bad })

/-- RD and RDVALID after a cycle. -/
def State.qOut (q : Nat) (rd : Option (BitVec 36)) (s : State) : State :=
  s.upSpl (fun x =>
    match rd with
    | some v => { x with qrd := Tab.set 0 x.qrd q v, qvalid := Tab.set false x.qvalid q true }
    | none => { x with qvalid := Tab.set false x.qvalid q false })

/-- A FIFO pop: the oldest word, or an empty pop counted in QC_UNF (Table 13-7). -/
def State.fifoPop (q : Nat) (s : State) : State :=
  let n := Tab.get 0 s.spl.qfill q
  if n = 0 then (s.upSpl (fun x => { x with qunf := Tab.upd 0 x.qunf q satInc })).qOut q none
  else
    let h := Tab.get 0 s.spl.qhead q
    let r := s.qRead q h
    (r.2.2.upSpl (fun x =>
      { x with qhead := Tab.set 0 x.qhead q ((h + 1) % (x.queue q).depth), qfill := Tab.set 0 x.qfill q (n - 1) })).qOut q
      (some r.1)

/-- A FIFO push: appended, or dropped and counted in QC_OVF when full (Table 13-7).  Words lie in a ring of DEPTH places
from word 0 (log entry 13). -/
def State.fifoPush (q : Nat) (v : BitVec 36) (s : State) : State :=
  let n := Tab.get 0 s.spl.qfill q
  let d := (s.spl.queue q).depth
  if d ≤ n then s.upSpl (fun x => { x with qovf := Tab.upd 0 x.qovf q satInc })
  else
    (s.qWrite q ((Tab.get 0 s.spl.qhead q + n) % d) v).upSpl (fun x => { x with qfill := Tab.set 0 x.qfill q (n + 1) })

/-- One cycle of a FIFO: it pops first and then pushes (R372). -/
def State.fifo (q : Nat) (push : Option (BitVec 36)) (pop : Bool) (s : State) : State :=
  let s := if pop then s.fifoPop q else s.qOut q none
  match push with
  | some v => s.fifoPush q v
  | none => s

/-- One push of a DELAY controller: the word of DEPTH pushes earlier, or 0 (Table 13-7). -/
def State.delayPush (q : Nat) (v : BitVec 36) (s : State) : State :=
  let n := Tab.get 0 s.spl.qpush q
  let d := (s.spl.queue q).depth
  let r := if n < d then ((0 : BitVec 36), s) else (let r := s.qRead q (n % d); (r.1, r.2.2))
  ((r.2.qWrite q (n % d) v).upSpl (fun x => { x with qpush := Tab.set 0 x.qpush q (n + 1) })).qOut q (some r.1)

/-- Whether controller q acts in a mode. -/
def State.qMode (q : BitVec 4) (mode : BitVec 2) (s : State) : Bool :=
  s.spl.queueLive q.toNat && (s.spl.queue q.toNat).mode == mode

/-- QUEUE_PUSH: PUSH with WD, and POP in the same cycle when `pop` (R371, R372). -/
def execQueuePush (q : BitVec 4) (wd : BitVec 36) (pop : Bool) (s : State) : Answer :=
  .next (if s.qMode q 0 then s.fifo q.toNat (some wd) pop else s)

/-- QUEUE_POP. -/
def execQueuePop (q : BitVec 4) (s : State) : Answer :=
  .next (if s.qMode q 0 then s.fifo q.toNat none true else s)

/-- QUEUE_RAM_READ: word ADDR to RD (Table 13-7). -/
def execQueueRamRead (q : BitVec 4) (addr : BitVec 12) (s : State) : Answer :=
  .next (if s.qMode q 1 then (let r := s.qRead q.toNat addr.toNat; r.2.2.qOut q.toNat (some r.1)) else s)

/-- QUEUE_RAM_WRITE: WD at ADDR. -/
def execQueueRamWrite (q : BitVec 4) (addr : BitVec 12) (wd : BitVec 36) (s : State) : Answer :=
  .next (if s.qMode q 1 then s.qWrite q.toNat addr.toNat wd else s)

/-- QUEUE_DELAY_PUSH. -/
def execQueueDelayPush (q : BitVec 4) (wd : BitVec 36) (s : State) : Answer :=
  .next (if s.qMode q 2 then s.delayPush q.toNat wd else s)

/-! ## Captures and the configuration check -/

/-- A capture: flip-flops and pin inputs; ignored while one is held (R383).  The pin inputs come from outside: a free
value (log entry 2). -/
def State.capture1 (s : State) : State :=
  if s.spl.capDone then s
  else
    let pins := s.freeVal 384
    s.took.upSpl (fun x => { x with capFf := x.ff, capPin := pins, capDone := true })

/-- SPLICE_CAPTURE: a rising edge of CAP_TRIG. -/
def execSpliceCapture (s : State) : Answer := .next s.capture1

/-- A write of SPL_CAPCTL; GO takes a capture, DONE is cleared by a 1. -/
def State.writeCapCtl (value : BitVec 32) (s : State) : State :=
  if !s.ready 5 then s
  else if s.spl.capDone then (if value.msb then s.upSpl (fun x => { x with capDone := false }) else s)
  else if value.getLsbD 0 then s.capture1 else s

/-- SPL_CAPCTL_GO. -/
def execSplCapctlGo (value : BitVec 32) (s : State) : Answer := .next (s.writeCapCtl value)

/-- CRAM_CHECK: the check of a block that no session holds; a mismatch is logged and nothing changes (R382). -/
def execCramCheck (b : BitVec 6) (mismatch : Bool) (s : State) : Answer :=
  if s.spl.heldBlk.getLsbD b.toNat then .next s
  else
    let inj := s.armedFor 29 (fun u _ => u == b.toNat)
    let s := if inj then s.fired else s
    .next (if mismatch || inj then s.occur 29 0 (b.setWidth 64) inj else s)

end Sys2Proof.Machine
end

