-- ==== Sys2Proof/Machine/SpliceCfg.lean ====
section
/-!
DEFINITION. Configuration of the Splice fabric (R375 to R381): the assembly of frames, their checks in the order of Table
13-10, and what BEGIN, the configuration frames, START and ABORT do.
-/

namespace Sys2Proof.Machine

/-- A configuration frame in its words. -/
structure CfgFrame where
  hdr : BitVec 128
  pay : List (BitVec 64)
  crc : BitVec 64
  deriving DecidableEq, Repr

/-- TYPE. -/
def CfgFrame.type (f : CfgFrame) : Nat := (fld f.hdr 120 8).toNat
/-- SESSION. -/
def CfgFrame.session (f : CfgFrame) : BitVec 8 := fld f.hdr 112 8
/-- FRAMENO. -/
def CfgFrame.num (f : CfgFrame) : BitVec 16 := fld f.hdr 96 16
/-- TARGET. -/
def CfgFrame.target (f : CfgFrame) : Nat := (fld f.hdr 80 16).toNat
/-- Payload word k. -/
def CfgFrame.word (f : CfgFrame) (k : Nat) : BitVec 64 := f.pay.getD k 0

/-- LENGTH of the frame whose words begin a list. -/
def cfgLength (ws : List (BitVec 64)) : Nat := (fld (ws.getD 1 0) 6 10).toNat

/-- The frame that a list of words completes. -/
def cfgComplete (ws : List (BitVec 64)) : Option CfgFrame :=
  if 2 ≤ ws.length ∧ ws.length = cfgLength ws + 3 then
    some { hdr := ws.getD 1 0 ++ ws.getD 0 0, pay := (ws.drop 2).dropLast, crc := ws.getLastD 0 }
  else none

/-- The CRC of a frame: over header and payload bytes, little-endian (R377). -/
def CfgFrame.crcOf (f : CfgFrame) : BitVec 32 :=
  crc32 (natBytes 16 f.hdr.toNat ++ f.pay.flatMap (fun w => natBytes 8 w.toNat))

/-- The number of payload words of a type (Table 13-9). -/
def lengthOk (type n : Nat) : Bool :=
  match type with
  | 1 => n == 2
  | 2 => n == 148
  | 3 => 1 ≤ n && n ≤ 512
  | 4 => n == 64
  | 5 => n == 1
  | 6 => 1 ≤ n && n ≤ 512
  | 7 => n == 2
  | 8 => n == 1
  | 9 => n == 0
  | _ => false

/-- TARGET of a type. -/
def targetOk (type t : Nat) : Bool :=
  match type with
  | 2 => t < 64
  | 4 => t < 6
  | 5 => t < 16
  | 7 => t < 6
  | _ => t == 0

/-- Block input select j of a BLOCK payload. -/
def CfgFrame.insel (f : CfgFrame) (j : Nat) : BitVec 16 := fld (f.word (j / 4)) (16 * (j % 4)) 16

/-- Product term i of a BLOCK payload: a contiguous little-endian bit stream in words 12 to 131. -/
def CfgFrame.pterm (f : CfgFrame) (i : Nat) : BitVec 96 :=
  let lo := 96 * i
  let w (k : Nat) : BitVec 64 := f.word (12 + lo / 64 + k)
  fld (w 1 ++ w 0 : BitVec 128) (lo % 64) 96

/-- Macrocell m of a BLOCK payload. -/
def CfgFrame.cellWord (f : CfgFrame) (m : Nat) : BitVec 64 := f.word (132 + m)

/-- SEG and driver enable of a ROUTE word. -/
def routeSeg (w : BitVec 64) : BitVec 16 := fld w 48 16
/-- Driver enable. -/
def routeEn (w : BitVec 64) : BitVec 8 := fld w 40 8

/-- The pin that an I/O track serves, as 64 bank + pin. -/
def ioPin (g : BitVec 16) : Nat := 64 * ioBank g + ioTrack g % 64

/-- Whether a driver enable of an I/O track names only one block's macrocells. -/
def enabledFrom (g : BitVec 16) (en : BitVec 8) (block : Nat) : Bool :=
  (List.range 8).all (fun s => !en.getLsbD s || ioBlock (ioBank g) s == block)

/-- USED and OWNER of an I/O cell word. -/
def ioOwner (w : BitVec 64) : Option Nat := if w.msb then some (fld w 57 6).toNat else none

/-- Whether a BLOCK payload holds no reserved encoding. -/
def CfgFrame.blockOk (f : CfgFrame) : Bool :=
  (List.range 48).all (fun j =>
    let v := f.insel j
    if v.msb then hardInValid (fld v 0 15).toNat else fld v 0 7 == 0) &&
  (List.range 16).all (fun m => mcValid m (f.cellWord m))

/-- Whether a ROUTE word is well formed, with the I/O cells as they stand. -/
def Splice.routeOk (x : Splice) (w : BitVec 64) : Bool :=
  let g := routeSeg w
  let en := routeEn w
  fld w 0 40 == 0 && segValid g && (List.range 8).all (fun s => !en.getLsbD s || (segSource g s).isSome) &&
    (if segKind g = 2 then
      (match ioOwner (Tab.get 0 x.io (ioPin g)) with
       | some o => enabledFrom g en o
       | none => true)
     else true)

/-- Whether an I/O cell word of a pin is well formed, with the I/O tracks as they stand. -/
def Splice.ioOk (x : Splice) (bank pin : Nat) (w : BitVec 64) : Bool :=
  fld w 0 48 == 0 &&
    (match ioOwner w with
     | some o => [mkIo bank pin, mkIo bank (pin + 64)].all (fun g => enabledFrom g (Tab.get 0 x.seg g.toNat) o)
     | none => true)

/-- Hard output of a HARDOUT word. -/
def houtNum (w : BitVec 64) : Nat := (fld w 48 16).toNat
/-- Its driver, as 16 block + macrocell. -/
def houtCell (w : BitVec 64) : Nat := (fld w 38 10).toNat

/-- FORMAT (0x03). -/
def Splice.formatOk (x : Splice) (f : CfgFrame) : Bool :=
  lengthOk f.type f.pay.length && targetOk f.type f.target && fld f.hdr 0 70 == 0 &&
  (match f.type with
   | 1 => fld (f.word 1) 1 63 == 0 && (!(f.word 1).getLsbD 0 || f.word 0 == BitVec.allOnes 64)
   | 2 => f.blockOk
   | 3 => f.pay.all x.routeOk
   | 4 => (List.range 64).all (fun p => x.ioOk f.target p (f.word p))
   | 5 => fld (f.word 0) 62 2 != 3 && fld (f.word 0) 0 43 == 0
   | 6 => f.pay.all (fun w => hardOutValid (houtNum w) && fld w 0 37 == 0)
   | 8 => fld (f.word 0) 32 32 == 0
   | _ => true)

/-- Safe state of pin p in a SAFE payload. -/
def CfgFrame.safe (f : CfgFrame) (p : Nat) : BitVec 2 := fld (f.word 1 ++ f.word 0 : BitVec 128) (2 * p) 2

/-- Whether an owner is outside a session's blocks. -/
def outside (blocks : BitVec 64) : Option Nat → Bool
  | some b => !blocks.getLsbD b
  | none => false

/-- The driver that hard output n has after words of a HARDOUT frame, 0 for none. -/
def driverAfter (x : Splice) (ws : List (BitVec 64)) (n : Nat) : Nat :=
  ws.foldl (fun d w => if houtNum w = n then (if w.getLsbD 37 then houtCell w + 1 else 0) else d) (Tab.get 0 x.hard n)

/-- Words of a list each with those before it. -/
def withBefore {α : Type} (ws : List α) : List (List α × α) :=
  (List.range ws.length).filterMap (fun k => (ws[k]?).map (fun w => (ws.take k, w)))

/-- Whether an IOCELL word for a pin of another block is exempt (Table 13-10, SCOPE). -/
def ioExempt (blocks : BitVec 64) (old w : BitVec 64) : Bool :=
  outside blocks (ioOwner old) && outside blocks (ioOwner w) && old == w

/-- SCOPE (0x04) of a partial session. -/
def Splice.scopeOk (x : Splice) (blocks : BitVec 64) (f : CfgFrame) : Bool :=
  match f.type with
  | 2 => blocks.getLsbD f.target
  | 3 => f.pay.all (fun w =>
      let g := routeSeg w
      if segKind g = 2 then !outside blocks (ioOwner (Tab.get 0 x.io (ioPin g))) else blocks.getLsbD (segOwner g))
  | 4 => (List.range 64).all (fun p =>
      let old := Tab.get 0 x.io (64 * f.target + p)
      let w := f.word p
      ioExempt blocks old w || (!outside blocks (ioOwner old) && !outside blocks (ioOwner w)))
  | 5 =>
    let old := x.queue f.target
    (!old.named || blocks.getLsbD old.owner.toNat) && blocks.getLsbD (fld (f.word 0) 56 6).toNat
  | 6 => (withBefore f.pay).all (fun e =>
      (match driverAfter x e.1 (houtNum e.2) with
       | 0 => true
       | d + 1 => blocks.getLsbD (d / 16)) &&
      (!e.2.getLsbD 37 || blocks.getLsbD (houtCell e.2 / 16)))
  | 7 => (List.range 64).all (fun p =>
      !outside blocks (ioOwner (Tab.get 0 x.io (64 * f.target + p))) ||
        f.safe p == Tab.get 0 x.safeMram (64 * f.target + p))
  | _ => true

/-- CONTENTION (0x05): WHERE of the first word that has it. -/
def Splice.contention (x : Splice) (f : CfgFrame) : Option (BitVec 16) :=
  match f.type with
  | 3 => (f.pay.find? (fun w => decide (1 < ones (routeEn w)))).map routeSeg
  | 6 => ((withBefore f.pay).find? (fun e =>
      let d := driverAfter x e.1 (houtNum e.2)
      e.2.getLsbD 37 && d != 0 && d != houtCell e.2 + 1)).map (fun e => BitVec.ofNat 16 (0x8000 + houtNum e.2))
  | _ => none

/-- The session CRC (Table 13-9, START). -/
def sessionCrc (crcs : List (BitVec 32)) : BitVec 32 := crc32 (crcs.flatMap (fun c => natBytes 4 c.toNat))

/-- The verdict on a frame: the code and WHERE of its rejection, in the order of Table 13-10. -/
def Splice.judge (x : Splice) (f : CfgFrame) : Option (BitVec 8 × Option (BitVec 16)) :=
  if f.crc ≠ f.crcOf.setWidth 64 then some (1, none)
  else
    let order := match x.sess with
      | none => f.type == 1 && f.num == 0
      | some e => f.type != 1 && f.session == e.num && f.num == e.next
    if !order then some (2, none)
    else if !x.formatOk f then some (3, none)
    else
      match x.sess with
      | none => none
      | some e =>
        if !e.full && !x.scopeOk e.blocks f then some (4, none)
        else
          match x.contention f with
          | some w => some (5, some w)
          | none => if f.type = 8 ∧ fld (f.word 0) 0 32 ≠ sessionCrc e.crcs then some (6, none) else none

/-! ## What accepted frames do -/

/-- Keep the entries whose key does not belong to a block of the set. -/
def dropKeys {α : Type} (t : Tab α) (gone : Nat → Bool) : Tab α := t.filter (fun e => !gone e.1)

/-- The flip-flops of blocks. -/
def blockFfs (blocks : BitVec 64) : BitVec 1024 :=
  (List.range 64).foldl (fun m b => if blocks.getLsbD b then m ||| (0xFFFF#1024 <<< (16 * b)) else m) 0

/-- A session on these blocks, or on all, owns queue controller q (R375, R379). -/
def Splice.ownsQueue (x : Splice) (blocks : BitVec 64) (full : Bool) (q : Nat) : Bool :=
  full || ((x.queue q).named && blocks.getLsbD (x.queue q).owner.toNat)

/-- R379: flip-flops cleared and held, pins to their safe states, ports idle, configuration memory cleared. -/
def Splice.clearBlocks (x : Splice) (blocks : BitVec 64) (full : Bool) : Splice :=
  let mine (b : Nat) : Bool := full || blocks.getLsbD b
  let pinMine (k : Nat) : Bool := full || (match ioOwner (Tab.get 0 x.io k) with | some o => mine o | none => false)
  { x with
    insel := dropKeys x.insel (fun k => mine (k / 48)), pt := dropKeys x.pt (fun k => mine (k / 80)),
    mc := dropKeys x.mc (fun k => mine (k / 16)),
    seg := dropKeys x.seg (fun k =>
      let g := BitVec.ofNat 16 k
      if segKind g = 2 then pinMine (ioPin g) else mine (segOwner g)),
    io := dropKeys x.io pinMine, hard := x.hard.filter (fun e => !mine ((e.2 - 1) / 16)),
    qcfg := x.qcfg.filter (fun e => !mine e.2.owner.toNat),
    qvalid := dropKeys x.qvalid (x.ownsQueue blocks full), qrd := dropKeys x.qrd (x.ownsQueue blocks full),
    ff := x.ff &&& ~~~ blockFfs blocks, heldBlk := x.heldBlk ||| blocks, run := x.run &&& ~~~ blocks }

/-- An accepted BEGIN (R376, R379). -/
def Splice.begin (x : Splice) (byHost : Bool) (f : CfgFrame) : Splice :=
  let blocks := f.word 0
  let full := (f.word 1).getLsbD 0
  let e : Sess := { byHost := byHost, num := f.session, next := 1, blocks := blocks, full := full,
                    crcs := [fld f.crc 0 32], given := 0, safe := [] }
  let x := x.clearBlocks blocks full
  { x with sess := some e, partHost := if byHost then x.partHost else [], partEnvor := if byHost then [] else x.partEnvor }

/-- An accepted configuration frame within session e. -/
def Splice.applyFrame (x : Splice) (e : Sess) (f : CfgFrame) : Splice × Sess :=
  match f.type with
  | 2 =>
    let b := f.target
    ({ x with insel := (List.range 48).foldl (fun t j => Tab.set 0 t (48 * b + j) (f.insel j)) x.insel,
              pt := (List.range 80).foldl (fun t i => Tab.set 0 t (80 * b + i) (f.pterm i)) x.pt,
              mc := (List.range 16).foldl (fun t m => Tab.set 0 t (16 * b + m) (f.cellWord m)) x.mc },
      { e with given := setBit e.given b true })
  | 3 => ({ x with seg := f.pay.foldl (fun t w => Tab.set 0 t (routeSeg w).toNat (routeEn w)) x.seg }, e)
  | 4 => ({ x with io := (List.range 64).foldl (fun t p => Tab.set 0 t (64 * f.target + p) (f.word p)) x.io }, e)
  | 5 =>
    let w := f.word 0
    let c : QCfg := { mode := fld w 62 2, owner := fld w 56 6, depthM1 := fld w 44 12, en := w.getLsbD 43, named := true }
    ({ x with qcfg := Tab.set QCfg.reset x.qcfg f.target c }, e)
  | 6 =>
    let put (t : Tab Nat) (w : BitVec 64) : Tab Nat := Tab.set 0 t (houtNum w) (if w.getLsbD 37 then houtCell w + 1 else 0)
    ({ x with hard := f.pay.foldl put x.hard }, e)
  | 7 =>
    let put (t : Tab Nat) (p : Nat) : Tab Nat := Tab.set 0 t (64 * f.target + p) ((f.safe p).toNat + 1)
    let mine (p : Nat) : Bool := e.full || !outside e.blocks (ioOwner (Tab.get 0 x.io (64 * f.target + p)))
    (x, { e with safe := ((List.range 64).filter mine).foldl put e.safe })
  | _ => (x, e)

/-- START (R372, R380): blocks released, safe states in effect and in MRAM, queue pointers and DELAY counts zero. -/
def Splice.start (x : Splice) (e : Sess) : Splice :=
  let put (t : Tab (BitVec 2)) : Tab (BitVec 2) := e.safe.foldl (fun t p => Tab.set 0 t p.1 (BitVec.ofNat 2 (p.2 - 1))) t
  let mine := x.ownsQueue e.blocks e.full
  { x with heldBlk := x.heldBlk &&& ~~~ e.blocks, run := (x.run &&& ~~~ e.blocks) ||| (e.given &&& e.blocks),
           safe := put x.safe, safeMram := put x.safeMram, sess := none, qhead := dropKeys x.qhead mine,
           qfill := dropKeys x.qfill mine, qpush := dropKeys x.qpush mine, qvalid := dropKeys x.qvalid mine }

/-- A complete frame of a writer is judged and, when accepted, applied (R378).  ABORT leaves the blocks of its session as its BEGIN
cleared them (R381). -/
def Splice.frame (x : Splice) (byHost : Bool) (f : CfgFrame) : Splice :=
  match x.judge f with
  | some (c, w) => { x with code := c, where_ := w.getD x.where_ }
  | none =>
    match x.sess with
    | none => x.begin byHost f
    | some e =>
      if f.type = 8 then x.start e
      else if f.type = 9 then { x.clearBlocks e.blocks e.full with sess := none }
      else
        let r := x.applyFrame e f
        { r.1 with sess := some { r.2 with next := e.next + 1, crcs := e.crcs ++ [fld f.crc 0 32] } }

/-- A word at the configuration port (R376): the writer that does not own an open session is turned away. -/
def Splice.cfgWord (x : Splice) (byHost : Bool) (w : BitVec 64) : Splice :=
  if (match x.sess with | some e => e.byHost != byHost | none => false) then { x with code := 7 }
  else
    let ws := (if byHost then x.partHost else x.partEnvor) ++ [w]
    let keep (x : Splice) (l : List (BitVec 64)) : Splice :=
      if byHost then { x with partHost := l } else { x with partEnvor := l }
    match cfgComplete ws with
    | some f => (keep x []).frame byHost f
    | none => keep x ws

/-- The configuration of every running block as bytes: what measurement 7 covers (Table 14-7). -/
def Splice.runBytes (x : Splice) : List Byte :=
  let on (b : Nat) : Bool := x.run.getLsbD b
  let put (n k v : Nat) : List Byte := natBytes 4 k ++ natBytes n v
  natBytes 8 x.run.toNat ++
    (x.insel.filter (fun e => on (e.1 / 48))).flatMap (fun e => put 2 e.1 e.2.toNat) ++
    (x.pt.filter (fun e => on (e.1 / 80))).flatMap (fun e => put 12 e.1 e.2.toNat) ++
    (x.mc.filter (fun e => on (e.1 / 16))).flatMap (fun e => put 8 e.1 e.2.toNat) ++
    (x.seg.filter (fun e => segKind (BitVec.ofNat 16 e.1) == 2 || on (segOwner (BitVec.ofNat 16 e.1)))).flatMap
      (fun e => put 1 e.1 e.2.toNat) ++
    (x.io.filter (fun e => on (fld e.2 57 6).toNat)).flatMap (fun e => put 8 e.1 e.2.toNat) ++
    (x.hard.filter (fun e => on ((e.2 - 1) / 16))).flatMap (fun e => put 2 e.1 e.2) ++
    (x.qcfg.filter (fun e => on e.2.owner.toNat)).flatMap (fun e => put 4 e.1 (4096 * e.2.mode.toNat + e.2.depthM1.toNat))

/-- Edges at the balls of the pins configured before or after between two fabrics; under EXTEST and INTEST the boundary-scan register
drives the pins (R492). -/
def State.emitBalls (old : Splice) (s : State) : State :=
  if s.rst.jir = 0 ∨ s.rst.jir = 3 then s
  else
    ((s.spl.io ++ old.io).map (·.1)).eraseDups.foldl (fun s k =>
      let c := s.cue.value k
      match s.spl.drives k c with
      | some v =>
        if old.drives k c = some v then s
        else s.emit (.edge (BitVec.ofNat 3 (k / 64)) (BitVec.ofNat 6 (k % 64)) v s.cue.tb)
      | none => s) s

/-- Words at the configuration port; an accepted START, which releases blocks, updates measurement 7 (R380, R399). -/
def State.cfgWords (byHost : Bool) (ws : List (BitVec 64)) (s : State) : State :=
  if !s.ready 5 then s else
  let was := s.spl
  let old := was.heldBlk
  let s := (s.upSpl (fun x => ws.foldl (fun x w => x.cfgWord byHost w) x)).emitBalls was
  if old &&& ~~~ s.spl.heldBlk = 0 then s
  else s.upKeep (fun k => { k with meas := Tab.set 0 k.meas 7 (Config.crypto 384 207 s.spl.runBytes) })

/-- A frame of a type, word by word; words of another type are no such frame. -/
def State.cfgFrame (type : Nat) (byHost : Bool) (ws : List (BitVec 64)) (s : State) : Answer :=
  .next (if (fld (ws.getD 1 0) 56 8).toNat = type then s.cfgWords byHost ws else s)

/-- SPL_CFGIN_WORD: one word of a configuration frame (R376). -/
def execSplCfginWord (byHost : Bool) (w : BitVec 64) (s : State) : Answer := .next (s.cfgWords byHost [w])

/-- CFG_BEGIN (R379). -/
def execCfgBegin (byHost : Bool) (ws : List (BitVec 64)) (s : State) : Answer := s.cfgFrame 1 byHost ws

/-- CFG_BLOCK (R377). -/
def execCfgBlock (byHost : Bool) (ws : List (BitVec 64)) (s : State) : Answer := s.cfgFrame 2 byHost ws

/-- CFG_ROUTE (R377). -/
def execCfgRoute (byHost : Bool) (ws : List (BitVec 64)) (s : State) : Answer := s.cfgFrame 3 byHost ws

/-- CFG_IOCELL (R377). -/
def execCfgIocell (byHost : Bool) (ws : List (BitVec 64)) (s : State) : Answer := s.cfgFrame 4 byHost ws

/-- CFG_QUEUE (R377). -/
def execCfgQueue (byHost : Bool) (ws : List (BitVec 64)) (s : State) : Answer := s.cfgFrame 5 byHost ws

/-- CFG_HARDOUT (R377). -/
def execCfgHardout (byHost : Bool) (ws : List (BitVec 64)) (s : State) : Answer := s.cfgFrame 6 byHost ws

/-- CFG_SAFE (R377). -/
def execCfgSafe (byHost : Bool) (ws : List (BitVec 64)) (s : State) : Answer := s.cfgFrame 7 byHost ws

/-- CFG_START (R380). -/
def execCfgStart (byHost : Bool) (ws : List (BitVec 64)) (s : State) : Answer := s.cfgFrame 8 byHost ws

/-- CFG_ABORT (R381). -/
def execCfgAbort (byHost : Bool) (ws : List (BitVec 64)) (s : State) : Answer := s.cfgFrame 9 byHost ws

end Sys2Proof.Machine
end

