-- ==== Sys2Proof/Machine/FabricCycle.lean ====
section
/-!
DEFINITION. One cycle of the Splice clock (R358, R365, R369, R371, R383, Tables 13-4 to 13-7).
-/

namespace Sys2Proof.Machine

/-! ## Hard inputs (Table 13-4) -/

/-- The hard input numbers that some block input selects. -/
def Splice.selected (x : Splice) : List Nat :=
  (x.insel.filterMap (fun e => if e.2.msb then some (fld e.2 0 15).toNat else none)).eraseDups

/-- The value at hard input n as it is registered at the end of a Splice cycle; pins are the sampled pin inputs, and us
says that the timebase has passed a whole microsecond. -/
def State.hardIn (pins : BitVec 384) (us : Bool) (n : Nat) (s : State) : Bool :=
  let x := s.spl
  let word (v : Word) (lo : Nat) : Bool := v.getLsbD (n - lo)
  if n < 0x180 then pins.getLsbD n
  else if n < 0x300 then s.cue.value (n - 0x180)
  else if n < 0x308 then x.sevIn.getLsbD (n - 0x300)
  else if n = 0x308 then x.halt != 0
  else if n = 0x309 then us
  else if n < 0x330 then x.cxpIn.getLsbD (n - 0x310)
  else if n < 0x400 then
    match x.op with
    | none => false
    | some r =>
      if n = 0x330 then true
      else if n < 0x337 then r.op.getLsbD (n - 0x331)
      else if n < 0x358 then word r.a 0x340
      else if n < 0x370 then word r.x 0x358
      else word r.y 0x370
  else
    let q := (n - 0x400) / 64
    let i := n % 64
    if i < 36 then (Tab.get 0 x.qrd q).getLsbD i
    else if i = 36 then Tab.get 0 x.qfill q == 0
    else if i = 37 then x.queueFull q
    else Tab.get false x.qvalid q

/-! ## The cycle -/

/-- What hard outputs ask of queue controller q in one cycle, from the fabric x before it (Table 13-7).  Whether a RAM read in the cycle
of a write of its word sees the word before or after it is left open (log entry 13). -/
def State.queueCycle (x : Splice) (q : Nat) (s : State) : State :=
  let o (i : Nat) : Bool := x.hardVal (0x100 + 64 * q + i)
  let wd : BitVec 36 := BitVec.ofNat 36 (x.hardWord (0x100 + 64 * q) 36)
  let addr := x.hardWord (0x100 + 64 * q + 38) 12
  if !x.queueLive q then s.qOut q none
  else
    match (x.queue q).mode.toNat with
    | 0 => s.fifo q (if o 36 then some wd else none) (o 37)
    | 1 =>
      if o 37 then
        let r := s.qRead q addr
        if o 50 then
          ((r.2.2.qWrite q addr wd).took).qOut q (some (if s.freeVal 1 = 1 then wd else r.1))
        else r.2.2.qOut q (some r.1)
      else (if o 50 then s.qWrite q addr wd else s).qOut q none
    | 2 => if o 36 then s.delayPush q wd else s.qOut q none
    | _ => s

/-- The effect of hard output n, high in this cycle; rose says that it was 0 in the cycle before (Table 13-5). -/
def State.hardOut (x : Splice) (n : Nat) (rose : Bool) (s : State) : State :=
  if n < 8 then (if rose then s.raiseIn (32 + n) else s)
  else if 0x10 ≤ n ∧ n < 0x30 then
    if rose then s.cxpTrigger (BitVec.ofNat 5 (n - 0x10)) else s
  else if n = 0x30 then
    let d0 : Word := BitVec.ofNat 24 (x.hardWord 0x31 24)
    let d1 : Word := BitVec.ofNat 24 (x.hardWord 0x49 24)
    match execOpcodeAnswer d0 d1 s with
    | .next s => s
    | _ => s
  else if n = 0x70 then (if rose then s.capture1 else s)
  else s

/-- The driver enable of a segment as the configuration memory presents it in a cycle: an armed SEGMENT_CONFLICT adds bit 7 to that of
the segment it names, at its next use. -/
def State.presented (s : State) (g : Nat) (en : BitVec 8) : BitVec 8 :=
  if s.armedFor 26 (fun _ a => a == g) then en ||| 0x80 else en

/-- Segments whose enable has more than one bit: the lowest-numbered source drives, and SEGMENT_CONFLICT logs the SEG (R363).  A segment
with a source is used in every cycle (log entry 50). -/
def State.conflicts (s : State) : State :=
  let inj := s.armedFor 26 (fun _ a => Tab.get 0 s.spl.seg a != 0)
  let bad := s.spl.seg.filter (fun e => decide (1 < ones (s.presented e.1 e.2)))
  let s := if inj then s.fired else s
  match bad with
  | [] => s
  | e :: _ => s.occurN bad.length 26 0 (BitVec.ofNat 64 e.1) inj

/-- One Splice cycle. -/
def State.spliceCycle (us : Bool) (s : State) : State :=
  let s := s.conflicts
  let x := s.spl
  let sel := x.selected
  let sample := sel.any (fun n => decide (n < 0x180))
  let pins : BitVec 384 := if sample then s.freeVal 384 else 0
  let s := if sample then s.took else s
  let high := (x.hard.filter (fun e => x.hardVal e.1)).map (fun e => e.1)
  let hin : Tab Bool := sel.foldl (fun t n => Tab.set false t n (s.hardIn pins us n)) []
  let ff : BitVec 1024 := x.mc.foldl (fun f e => setBit f e.1 (x.nextFf e.1)) 0
  let s := high.foldl (fun s n => s.hardOut x n (!Tab.get false x.hout n)) s
  let s := x.qcfg.foldl (fun s e => s.queueCycle x e.1) s
  let s := s.upSpl (fun y => { y with ff := ff, hin := hin, sevIn := 0, cxpIn := 0,
                                      hout := high.foldl (fun t n => Tab.set false t n true) [] })
  s.emitBalls x

end Sys2Proof.Machine
end

