-- ==== Sys2Proof/Machine/Analyse.lean ====
section
/-!
DEFINITION. The loader's judgement of one script over its own words: the checks RSVD to DEFINE of Table 3-14 and the
derived fields of the script table entry (R58, R62, R71 to R74, R79 to R81, R498, R502, Table 3-6).
-/

namespace Sys2Proof.Machine

/-! ## What is linear in L -/

/-- k + m L, with L the count loaded from the COUNT argument (R74). -/
structure Lin where
  k : Int
  m : Int
  deriving DecidableEq, Repr

/-- A constant. -/
def Lin.const (n : Int) : Lin := { k := n, m := 0 }
/-- Sum. -/
def Lin.plus (a b : Lin) : Lin := { k := a.k + b.k, m := a.m + b.m }
/-- The bound of both: the larger part of each (log entry 23). -/
def Lin.join (a b : Lin) : Lin := { k := max a.k b.k, m := max a.m b.m }
/-- The smaller part of each. -/
def Lin.meet (a b : Lin) : Lin := { k := min a.k b.k, m := min a.m b.m }
/-- a is at most b for every L from 1 on. -/
def Lin.le (a b : Lin) : Bool := decide (a.k + a.m ≤ b.k + b.m) && decide (a.m ≤ b.m)
/-- The larger of two for every L from 1 on, or the larger part of each. -/
def Lin.sup (a b : Lin) : Lin := if a.le b then b else if b.le a then a else a.join b
/-- The smaller of two for every L from 1 on, or the smaller part of each. -/
def Lin.inf (a b : Lin) : Lin := if a.le b then a else if b.le a then b else a.meet b
/-- Product where it is linear. -/
def Lin.times (a b : Lin) : Lin := { k := a.k * b.k, m := a.k * b.m + a.m * b.k }
/-- Whether a product is not linear. -/
def Lin.curved (a b : Lin) : Bool := a.m != 0 && b.m != 0
/-- The value at L. -/
def Lin.at (a : Lin) (l : Nat) : Int := a.k + a.m * l

/-! ## Malformed microwords (R62, Tables 2-2, 2-3, 3-2, 3-4, R38) -/

/-- Whether a microword is malformed. -/
def MicroW.malformed (w : MicroW) : Bool :=
  let t := w.tgt
  fld w 119 9 != 0 || decide (6 ≤ w.seq) ||
    (w.seq == 4 && (if t.msb then fld t 3 9 != 0 else t.getLsbD 12 || fld t 0 12 == 0)) ||
    w.ra.1 == 7 || w.rb.1 == 7 || w.wa.1 == 7 || decide (6 ≤ w.cf) || decide (11 ≤ w.csel) || decide (10 ≤ w.sdist) ||
    w.kadr == 3 || w.kop == 7 || w.msk == 3 || (w.kop == 4 && (w.lg || w.lq || w.ls)) ||
    (w.bnd == 3 && decide (6 < w.sdist)) || (w.chk && w.seq == 5)

/-! ## What a microword reads and writes (R498) -/

/-- Registers as bits 0 C, 1 T, 2 F, 3 G, 4 Q, 5 S, 6 K: those that the microword reads; M is exempt (R72).  A
sample takes F as it stands at the end of the microword, so after a load of F in it (log entry 22). -/
def MicroW.regsRead (w : MicroW) : Nat :=
  let c := if !w.readsC then 0
    else match w.csel with
      | 0 => 1 | 1 => 2 | 3 => 4 | 4 => 8 | 5 => 16 | 6 => 32 | 7 => 64 | 8 => 64 | _ => 0
  let k := if (w.readsB && w.kadr != 0) || w.kop == 3 || w.kop == 4 || w.kop == 5 then 64 else 0
  c ||| k ||| (if w.kop = 4 then 56 else 0) ||| (if w.tree ≠ 0 ∧ !w.lf then 4 else 0)

/-- Those that it writes; a write under the mask counts, SAT does not write every K (log entry 22). -/
def MicroW.regsWritten (w : MicroW) : Nat :=
  (if w.cf ≠ 0 then 1 else 0) ||| (if w.lt then 2 else 0) ||| (if w.lf then 4 else 0) ||| (if w.lg then 8 else 0) |||
    (if w.lq then 16 else 0) ||| (if w.ls then 32 else 0) ||| (if w.kop = 1 ∨ w.kop = 2 then 64 else 0)

/-- An access to a plane: a write or a read, REL, ARG, address, and the planes that K can add (R40). -/
structure Access where
  write : Bool
  rel : Nat
  arg : Nat
  addr : BitVec 12
  below : Int
  above : Int
  deriving DecidableEq, Repr

/-- The accesses of a microword. -/
def MicroW.accesses (w : MicroW) : List Access :=
  let mk (write : Bool) (p : Nat × Nat × BitVec 12) (lo hi : Int) : Access :=
    { write := write, rel := p.1, arg := p.2.1, addr := p.2.2, below := lo, above := hi }
  (if w.readsA then [mk false w.ra 0 0] else []) ++
    (if w.readsB then [mk false w.rb (if w.kadr = 2 then 63 else 0) (if w.kadr = 1 then 63 else 0)] else []) ++
    (if w.we then [mk true w.wa 0 0] else [])

/-- The address adds an index. -/
def Access.plusIx (x : Access) : Bool := x.rel == 2 || x.rel == 5
/-- The address subtracts an index. -/
def Access.minusIx (x : Access) : Bool := x.rel == 3 || x.rel == 6
/-- The address is in an argument's region. -/
def Access.isArg (x : Access) : Bool := decide (4 ≤ x.rel)
/-- Sub-bank. -/
def Access.sub (x : Access) : Nat := (fld x.addr 10 2).toNat
/-- A. -/
def Access.off (x : Access) : Nat := (fld x.addr 0 10).toNat
/-- The range it belongs to: an argument's region, a static range, or ABS of a sub-bank. -/
def Access.space (x : Access) : Nat := if x.isArg then x.arg else if x.rel = 0 then 12 + x.sub else 8 + x.sub

/-! ## The script and its control flow -/

/-- A script: its words, the offset of the first within the image, whether it is resumable, and L at FMAX. -/
structure Scr where
  ws : List MicroW
  org : Nat
  resumable : Bool
  lmax : Nat
  deriving DecidableEq, Repr

/-- Word i. -/
def Scr.word (x : Scr) (i : Nat) : MicroW := x.ws.getD i 0
/-- The number of words. -/
def Scr.n (x : Scr) : Nat := x.ws.length
/-- The target of word i within the script. -/
def Scr.target (x : Scr) (i : Nat) : Int := ((x.word i).tgt.toNat : Int) - x.org
/-- Target as a word number. -/
def Scr.tgt (x : Scr) (i : Nat) : Nat := (x.target i).toNat

/-- The words that can follow word i. -/
def Scr.succ (x : Scr) (i : Nat) : List Nat :=
  match (x.word i).seq with
  | 1 => [x.tgt i]
  | 2 => [x.tgt i, i + 1]
  | 3 => [x.tgt i, i + 1]
  | 5 => []
  | _ => [i + 1]

/-- A transfer that Table 3-14 FLOW forbids whatever path leads to it. -/
def Scr.badTarget (x : Scr) (i : Nat) : Bool :=
  let t := x.target i
  match (x.word i).seq with
  | 1 => decide (t ≤ i) || decide (x.n ≤ t)
  | 2 => decide (t ≤ i) || decide (x.n ≤ t)
  | 3 => decide ((i : Int) < t) || decide (t < 0)
  | _ => false

/-- One pass of a forward analysis over the words in order: `f i a` gives what each successor receives. -/
def flowPass {α : Type} (n : Nat) (join : α → α → α) (f : Nat → α → List (Nat × α)) (vs : List (Option α)) :
    List (Option α) :=
  (List.range n).foldl (fun vs i =>
    match vs.getD i none with
    | none => vs
    | some a => (f i a).foldl (fun vs e =>
        vs.set e.1 (match vs.getD e.1 none with | none => some e.2 | some b => some (join b e.2))) vs) vs

/-- Several passes; back edges nest at most as deep as there are counters. -/
def flowPasses {α : Type} (n : Nat) (join : α → α → α) (f : Nat → α → List (Nat × α)) : Nat → List (Option α) → List (Option α)
  | 0, vs => vs
  | k + 1, vs => flowPasses n join f k (flowPass n join f vs)

/-- The solution of a forward analysis with value a at the first word; none where no path leads. -/
def Scr.solve {α : Type} (x : Scr) (join : α → α → α) (f : Nat → α → List (Nat × α)) (a : α) : List (Option α) :=
  flowPasses x.n join f 12 ((List.replicate x.n none).set 0 (some a))

/-- The words that some path reaches. -/
def Scr.reach (x : Scr) : List Nat :=
  let r := x.solve (fun _ _ => ()) (fun i _ => (x.succ i).map (fun j => (j, ()))) ()
  (List.range x.n).filter (fun i => (r.getD i none).isSome)

/-! ## Counters and indices (R64, R68) -/

/-- What is known of a counter before a word: the counts it may have been loaded with, none unless every path loaded it;
whether that count is still to run; the values of its index. -/
structure Ctr where
  bound : Option (Lin × Lin)
  live : Bool
  lo : Lin
  hi : Lin
  deriving DecidableEq, Repr

/-- A counter as a script starts. -/
def Ctr.start : Ctr := { bound := none, live := false, lo := .const 0, hi := .const 0 }

/-- What holds on both ways. -/
def Ctr.join (a b : Ctr) : Ctr :=
  { bound := match a.bound, b.bound with | some p, some q => some (p.1.meet q.1, p.2.join q.2) | _, _ => none,
    live := a.live && b.live, lo := a.lo.inf b.lo, hi := a.hi.sup b.hi }

/-- The counts that a LOOP of this counter runs; a counter whose count has run out wraps and runs 4,096 times
(log entry 23). -/
def Ctr.runs (c : Ctr) : Lin × Lin :=
  match c.bound with
  | none => (.const 1, .const 1)
  | some p => if c.live then p else (p.1, p.2.join (.const 4096))

/-- The count that an LDLC loads, in terms of L. -/
def MicroW.loads (w : MicroW) : Lin := if w.tgt.msb then { k := 0, m := 1 } else .const (fld w.tgt 0 12).toNat

/-- What the successors of word i receive. -/
def Scr.ctrStep (x : Scr) (i : Nat) (cs : List Ctr) : List (Nat × List Ctr) :=
  let w := x.word i
  let c := cs.getD w.lcsel Ctr.start
  match w.seq with
  | 4 => [(i + 1, cs.set w.lcsel { bound := some (w.loads, w.loads), live := true, lo := .const 0, hi := .const 0 })]
  | 3 =>
    let r := c.runs
    let back : Ctr := if c.live then { c with lo := .const 1, hi := r.2.plus (.const (-1)) }
      else { c with lo := .const 0, hi := .const 4095 }
    let on : Ctr := if c.live then { c with live := false, lo := r.1, hi := r.2 }
      else { c with lo := .const 0, hi := .const 4095 }
    [(x.tgt i, cs.set w.lcsel back), (i + 1, cs.set w.lcsel on)]
  | _ => (x.succ i).map (fun j => (j, cs))

/-- The counters before each word. -/
def Scr.ctrs (x : Scr) : List (Option (List Ctr)) :=
  x.solve (List.zipWith Ctr.join) x.ctrStep (List.replicate 4 Ctr.start)

/-- Counter n before word i. -/
def ctrAt (cs : List (Option (List Ctr))) (i n : Nat) : Ctr := ((cs.getD i none).getD []).getD n Ctr.start

/-- The loops: target and LOOP word, among the words named. -/
def Scr.loops (x : Scr) (among : List Nat) : List (Nat × Nat) :=
  (among.filter (fun i => (x.word i).seq == 3)).map (fun i => (x.tgt i, i))

/-- Every word of the script (R502). -/
def Scr.all (x : Scr) : List Nat := List.range x.n

/-- Check 0x06 LOOP fails: a counter used without an LDLC on some path to it, or, over all the script's words, a reload
inside the counter's own loop or loops that overlap. -/
def Scr.badLoop (x : Scr) (reach : List Nat) (cs : List (Option (List Ctr))) : Bool :=
  let ls := x.loops x.all
  reach.any (fun i =>
    let w := x.word i
    (w.seq == 3 && (ctrAt cs i w.lcsel).bound.isNone) ||
      (w.accesses.any (fun a => a.plusIx || a.minusIx) && (ctrAt cs i w.isel).bound.isNone)) ||
    x.all.any (fun i =>
      let w := x.word i
      (w.seq == 4 && ls.any (fun l => (x.word l.2).lcsel == w.lcsel && decide (l.1 ≤ i) && decide (i ≤ l.2)))) ||
    ls.any (fun a => ls.any (fun b => decide (a.1 < b.1) && decide (b.1 ≤ a.2) && decide (a.2 < b.2)))

/-! ## The longest path (R74) -/

/-- The best bound kept for a key. -/
def bestOf (b : List (Nat × Lin)) (k : Nat) : Option Lin := (b.find? (fun e => e.1 == k)).map (·.2)

/-- A key is reached at a cost. -/
def relax (b : List (Nat × Lin)) (k : Nat) (v : Lin) : List (Nat × Lin) :=
  match bestOf b k with
  | none => (k, v) :: b
  | some u => b.map (fun e => if e.1 = k then (k, u.join v) else e)

/-- Key of the end of the script. -/
def Scr.endKey (x : Scr) : Nat := x.n + 1
/-- Key of the way round a loop. -/
def Scr.backKey (x : Scr) : Nat := x.n + 2

/-- The bounds from words lo to hi on, with the costs in `b` at the words where paths enter, and whether one is not
linear.  `round` is the LOOP whose way round is the key backKey; every other loop runs for its bound. -/
def Scr.longest (x : Scr) (cost : MicroW → Nat) (runs : Nat → Lin) :
    Nat → Nat → Nat → Option Nat → List (Nat × Lin) → List (Nat × Lin) × Bool
  | 0, _, _, _, b => (b, true)
  | depth + 1, lo, hi, round, b =>
    (List.range (hi + 1 - lo)).foldl (fun s o =>
      let i := lo + o
      match bestOf s.1 i with
      | none => s
      | some d =>
        let w := x.word i
        let d1 := d.plus (.const (cost w))
        match w.seq with
        | 5 => (relax s.1 x.endKey d1, s.2)
        | 3 =>
          if round = some i then (relax s.1 x.backKey d1, s.2)
          else
            let sub := x.longest cost runs depth (x.tgt i) i (some i) [(x.tgt i, .const 0)]
            let leave := sub.1.filter (fun e => decide (i < e.1) && e.1 != x.backKey)
            let n := runs i
            match bestOf sub.1 x.backKey with
            | none => (leave.foldl (fun b e => relax b e.1 (d1.plus e.2)) (relax s.1 (i + 1) d1), s.2 || sub.2)
            | some once =>
              let m1 := n.plus (.const (-1))
              let m2 := n.plus (.const (-2))
              let b := relax s.1 (i + 1) (d1.plus (m1.times once))
              let b := if n = .const 1 then b
                else leave.foldl (fun b e => relax b e.1 ((d1.plus (m2.times once)).plus e.2)) b
              (b, s.2 || sub.2 || m1.curved once)
        | _ => ((x.succ i).foldl (fun b j => relax b j d1) s.1, s.2)) (b, false)

/-- The bound over every path of the script. -/
def Scr.total (x : Scr) (cost : MicroW → Nat) (runs : Nat → Lin) : Lin × Bool :=
  let r := x.longest cost runs 6 0 (x.n - 1) none [(0, .const 0)]
  ((bestOf r.1 x.endKey).getD (.const 0), r.2)

/-! ## Scenes (R79) -/

/-- Whether an iteration of the loop can run without a checkpoint. -/
def Scr.unchecked (x : Scr) (l : Nat × Nat) : Bool :=
  let inside (j : Nat) : Bool := decide (l.1 ≤ j) && decide (j ≤ l.2)
  let enters := l.1 :: ((List.range x.n).flatMap (fun i => if inside i then [] else (x.succ i).filter inside))
  let walk := (List.range (l.2 + 1 - l.1)).foldl (fun (on : List Nat) o =>
    let i := l.1 + o
    if on.contains i && !(x.word i).chk then on ++ (x.succ i).filter (fun j => inside j && decide (i < j)) else on) enters
  walk.contains l.2 && !(x.word l.2).chk

/-- The outermost loops that count in full in every scene that meets them. -/
def Scr.lumps (x : Scr) (reach : List Nat) : List (Nat × Nat) :=
  let ls := (x.loops reach).filter x.unchecked
  ls.filter (fun l => !ls.any (fun o => o != l && decide (o.1 ≤ l.1) && decide (l.2 ≤ o.2)))

/-- The longest scene in array cycles, the loops run at their bounds. -/
def Scr.sceneMax (x : Scr) (reach : List Nat) (runs : Nat → Lin) : Nat :=
  let lumps := x.lumps reach
  let lump (i : Nat) : Option (Nat × Nat) := lumps.find? (fun l => decide (l.1 ≤ i) && decide (i ≤ l.2))
  let node (i : Nat) : Nat := match lump i with | some l => l.1 | none => i
  let full (l : Nat × Nat) : Int :=
    let r := x.longest (fun _ => 1) runs 6 l.1 l.2 none [(l.1, .const 0)]
    (r.1.filter (fun e => decide (l.2 < e.1))).foldl (fun m e => max m e.2.k) 0
  let starts := 0 :: reach.flatMap (fun i => if (x.word i).chk then (x.succ i) else [])
  let init := starts.foldl (fun b j => relax b (node j) (.const 0)) []
  let pass (b : List (Nat × Lin)) : List (Nat × Lin) :=
    reach.foldl (fun b i =>
      match bestOf b (node i) with
      | none => b
      | some d =>
        match lump i with
        | some l => (x.succ i).foldl (fun b j => if node j = l.1 then b else relax b (node j) (d.plus (.const (full l)))) b
        | none => if (x.word i).chk then b else (x.succ i).foldl (fun b j => relax b (node j) (d.plus (.const 1))) b) b
  let b := (List.range ((x.loops reach).length + 2)).foldl (fun b _ => pass b) init
  let ends := reach.filter (fun i => (x.word i).chk || (x.word i).seq == 5)
  (ends.foldl (fun m i => match bestOf b (node i), lump i with
    | some d, some l => max m (d.k + full l)
    | some d, none => max m (d.k + 1)
    | none, _ => m) (0 : Int)).toNat

/-! ## Regions (R64, R73, R75) -/

/-- The offsets that an access reaches, with its index. -/
def Access.range (a : Access) (c : Ctr) : Lin × Lin :=
  let at_ : Lin := .const a.off
  let neg (v : Lin) : Lin := { k := -v.k, m := -v.m }
  if a.plusIx then (at_.plus c.lo, at_.plus c.hi)
  else if a.minusIx then (at_.plus (neg c.hi), at_.plus (neg c.lo))
  else (at_, at_)

/-- Every access of the script's words, with the offsets that it reaches; the index of a word that no path reaches is taken
as 0 (log entry 42). -/
def Scr.ranges (x : Scr) (cs : List (Option (List Ctr))) : List (Access × Lin × Lin) :=
  x.all.flatMap (fun i => let w := x.word i; w.accesses.map (fun a => (a, a.range (ctrAt cs i w.isel))))

/-- XL of a region: the most that an access of it grows with L. -/
def regionXl (rs : List (Access × Lin × Lin)) : Int := rs.foldl (fun m r => max m r.2.2.m) 0

/-- EXT: the least that covers every access for every L from 1 on. -/
def regionExt (rs : List (Access × Lin × Lin)) : Int :=
  rs.foldl (fun m r => max m (r.2.2.k + 1 + r.2.2.m - regionXl rs)) 0

/-- The accesses of argument n. -/
def argUses (rs : List (Access × Lin × Lin)) (n : Nat) : List (Access × Lin × Lin) :=
  rs.filter (fun r => r.1.isArg && r.1.arg == n)

/-- SEXT of a sub-bank. -/
def staticExt (rs : List (Access × Lin × Lin)) (lmax sub : Nat) : Int :=
  (rs.filter (fun r => !r.1.isArg && r.1.rel != 0 && r.1.sub == sub)).foldl (fun m r => max m (r.2.2.at lmax + 1)) 0

/-- Check 0x09 ADDRESS fails; `special` are the arguments with the roles COUNT and CAPTURE. -/
def badAddress (priv : Bool) (lmax : Nat) (special : List Nat) (rs : List (Access × Lin × Lin)) : Bool :=
  rs.any (fun r => (r.1.rel == 0 && !priv) || decide (r.2.1.at lmax < 0) || decide (r.2.1.at 1 < 0)) ||
    (List.range 8).any (fun n =>
      let us := argUses rs n
      !us.isEmpty && (special.contains n || us.any (fun r => us.any (fun q => r.1.sub != q.1.sub)) ||
        decide (1 < regionXl us) || decide (1024 < regionExt us + regionXl us * lmax))) ||
    (List.range 4).any (fun s => decide (1024 < staticExt rs lmax s))

/-! ## SCENE, SHADOW and DEFINE (R58, R72, R80) -/

/-- Planes read or written by a microword: space, first and last offset, over every L from 1 to lmax, since indexed offsets
cover their whole range (R80). -/
def MicroW.planes (w : MicroW) (c : Ctr) (lmax : Nat) (write : Bool) : List (Nat × Int × Int) :=
  (w.accesses.filter (fun a => a.write == write)).map (fun a =>
    let r := a.range c
    (a.space, min (r.1.at 1) (r.1.at lmax) - a.below, max (r.2.at 1) (r.2.at lmax) + a.above))

/-- Two ranges of planes meet. -/
def planesMeet (a b : Nat × Int × Int) : Bool := a.1 == b.1 && decide (a.2.1 ≤ b.2.2) && decide (b.2.1 ≤ a.2.2)

/-- Check 0x0A SCENE fails: a scene writes a plane that it has read, in the same microword or before. -/
def Scr.badScene (x : Scr) (reach : List Nat) (cs : List (Option (List Ctr))) : Bool :=
  let c (i : Nat) : Ctr := ctrAt cs i (x.word i).isel
  let reads (i : Nat) := (x.word i).planes (c i) x.lmax false
  let seen := x.solve (fun (a b : List (Nat × Int × Int)) => a ++ b.filter (fun p => !a.contains p))
    (fun i a => (x.succ i).map (fun j =>
      (j, if (x.word i).chk then [] else a ++ (reads i).filter (fun p => !a.contains p)))) []
  reach.any (fun i => ((x.word i).planes (c i) x.lmax true).any (fun p =>
    (((seen.getD i none).getD []) ++ reads i).any (planesMeet p)))

/-- The microword writes sub-bank 3. -/
def MicroW.writes3 (w : MicroW) : Bool := w.we && fld w 49 2 == 3

/-- Check 0x0B SHADOW fails: the first word, the last, or any END or checkpoint of the script writes sub-bank 3, or four
words in consecutive cycles of some path do (R58). -/
def Scr.badShadow (x : Scr) (reach : List Nat) : Bool :=
  let run := x.solve max (fun i (n : Nat) => (x.succ i).map (fun j => (j, if (x.word i).writes3 then min 4 (n + 1) else 0))) 0
  (x.word 0).writes3 || (x.word (x.n - 1)).writes3 ||
    x.all.any (fun i => (x.word i).writes3 && ((x.word i).chk || (x.word i).seq == 5)) ||
    reach.any (fun i => (x.word i).writes3 && decide (3 ≤ (run.getD i none).getD 0))

/-- Check 0x0D DEFINE fails. -/
def Scr.badDefine (x : Scr) (reach : List Nat) : Bool :=
  let known := x.solve (fun (a b : Nat) => a &&& b)
    (fun i a => (x.succ i).map (fun j => (j, a ||| (x.word i).regsWritten))) 0
  reach.any (fun i => let r := (x.word i).regsRead; (r &&& (known.getD i none).getD 0) != r)

/-! ## TREE (R27, R61, R81) -/

/-- A state of the trees as a word is about to issue: bit a of a mask is a sample taken a cycles earlier; `must` those that
a later sample collides with, `pre` those taken before a checkpoint; the iterations run of each counter's loop. -/
structure Trees where
  at_ : Nat
  or_ : Nat
  tally : Nat
  mustO : Nat
  mustT : Nat
  preO : Nat
  preT : Nat
  its : List Nat
  deriving DecidableEq, Repr

/-- One word of a path: none when it breaks a rule, else the states that follow. -/
def Scr.treeStep (x : Scr) (cs : List (Option (List Ctr))) (t : Trees) : Option (List Trees) :=
  let w := x.word t.at_
  let capO := w.cap % 2 == 1
  let capT := decide (2 ≤ w.cap)
  let sO := w.tree % 2 == 1
  let sT := decide (2 ≤ w.tree)
  let low (n : Nat) : Nat := 2 ^ n - 2
  let tests := w.seq == 2
  if (capO && !t.or_.testBit 8) || (capT && !t.tally.testBit 19) then none
  else if (t.mustO.testBit 8 && !capO) || (t.mustT.testBit 19 && !capT) then none
  else if x.resumable && ((capO && t.preO.testBit 8) || (capT && t.preT.testBit 19) ||
      (tests && decide (w.cond < 2) && (t.preO &&& low 8) != 0) || (tests && decide (2 ≤ w.cond) && (t.preT &&& low 19) != 0))
  then none
  else
    let step (n v : Nat) (new : Bool) : Nat := (2 * (if new then v ||| 1 else v)) &&& (2 ^ (n + 1) - 1)
    let o' := step 8 t.or_ sO
    let t' := step 19 t.tally sT
    let mo := step 8 (if sO then t.mustO ||| (t.or_ &&& low 8) else t.mustO) false
    let mt := step 19 (if sT then t.mustT ||| (t.tally &&& low 19) else t.mustT) false
    let go (j : Nat) (its : List Nat) : Trees :=
      { at_ := j, or_ := o', tally := t', mustO := mo, mustT := mt, preO := if w.chk then o' else step 8 t.preO false,
        preT := if w.chk then t' else step 19 t.preT false, its := its }
    match w.seq with
    | 5 => if mo ≠ 0 ∨ mt ≠ 0 then none else some []
    | 4 => some [go (t.at_ + 1) (t.its.set w.lcsel 0)]
    | 3 =>
      let n := ((ctrAt cs t.at_ w.lcsel).runs.2.at x.lmax).toNat
      let k := t.its.getD w.lcsel 0 + 1
      let on := go (t.at_ + 1) (t.its.set w.lcsel 0)
      some (if k < n then [on, go (x.tgt t.at_) (t.its.set w.lcsel (min k 30))] else [on])
    | _ => some ((x.succ t.at_).map (fun j => go j t.its))

/-- Every state that a path reaches keeps the rules.  The fuel exceeds the number of states, so it never runs out. -/
def Scr.treesOk (x : Scr) (cs : List (Option (List Ctr))) : Nat → List Trees → List Trees → Bool
  | 0, _, _ => false
  | _ + 1, [], _ => true
  | fuel + 1, t :: todo, seen =>
    if seen.contains t then x.treesOk cs fuel todo seen
    else
      match x.treeStep cs t with
      | none => false
      | some next => x.treesOk cs fuel (next ++ todo) (t :: seen)

/-! ## The judgement -/

/-- What a directory entry declares (Table 3-13). -/
def dirKind (d : BitVec 64) : Bool := d.getLsbD 53
/-- PRIV. -/
def dirPriv (d : BitVec 64) : Bool := d.getLsbD 52
/-- ANYDOM. -/
def dirAny (d : BitVec 64) : Bool := d.getLsbD 51
/-- DOMAIN. -/
def dirDomain (d : BitVec 64) : BitVec 6 := fld d 45 6
/-- ENTRY. -/
def dirEntry (d : BitVec 64) : Nat := (fld d 32 13).toNat
/-- FMAX. -/
def dirFmax (d : BitVec 64) : Nat := (fld d 20 12).toNat
/-- CAPV. -/
def dirCapv (d : BitVec 64) : Bool := d.getLsbD 19
/-- CAPARG. -/
def dirCaparg (d : BitVec 64) : Nat := (fld d 16 3).toNat

/-- The LDLC words that read an argument. -/
def countLoads (ws : List MicroW) : List MicroW := ws.filter (fun w => w.seq == 4 && w.tgt.msb)

/-- The script of a directory entry: its own words (R502). -/
def scriptOf (dir : List (BitVec 64)) (words : List MicroW) (d : BitVec 64) : Scr :=
  let e := dirEntry d
  let next := (dir.filter (fun o => decide (e < dirEntry o))).foldl (fun m o => min m (dirEntry o)) words.length
  let ws := (words.drop e).take (next - e)
  let m1 := match countLoads ws with | w :: _ => (fld w.tgt 12 1).toNat | [] => 0
  { ws := ws, org := e, resumable := dirKind d, lmax := if (countLoads ws).isEmpty then 0 else dirFmax d - m1 }

/-- The first check of Table 3-14 from FLOW on that the script fails, or its table entry with ENTRY relative (R73). -/
def judgeScript (dir : List (BitVec 64)) (words : List MicroW) (d : BitVec 64) : Except Nat (BitVec 320) :=
  let x := scriptOf dir words d
  let reach := x.reach
  let cs := x.ctrs
  let counts := countLoads x.ws
  let runs (i : Nat) : Lin := (ctrAt cs i (x.word i).lcsel).runs.2
  let fixed (i : Nat) : Lin := .const ((runs i).at x.lmax)
  let cap (w : MicroW) : Nat := if w.cap = 3 then 2 else if w.cap = 0 then 0 else 1
  let total := x.total (fun _ => 1) runs
  let fc := total.1.k.toNat
  let fs := total.1.m.toNat
  let scene := if x.resumable then x.sceneMax reach fixed else 0
  let capn := (x.total cap fixed).1.k.toNat
  let rs := x.ranges cs
  let special := (counts.map (fun w => (fld w.tgt 0 3).toNat)) ++ (if dirCapv d then [dirCaparg d] else [])
  let trees : Trees := { at_ := 0, or_ := 0, tally := 0, mustO := 0, mustT := 0, preO := 0, preT := 0, its := [0, 0, 0, 0] }
  if (List.range x.n).any x.badTarget || reach.any (fun i => (x.succ i).any (fun j => decide (x.n ≤ j))) || x.n == 0 then
    .error 5
  else if x.badLoop reach cs then .error 6
  else if 1 < counts.length ∨ (counts.length = 1 ∧ dirFmax d = 0) then .error 7
  else if total.2 || decide (1048575 < fc + fs * dirFmax d) || decide (4095 < fs) || decide (1048575 < fc) ||
      (!x.resumable && decide (4096 < fc + fs * x.lmax)) || decide (1024 < scene) then .error 8
  else if badAddress (dirPriv d) x.lmax special rs then .error 9
  else if x.resumable && x.badScene reach cs then .error 10
  else if x.badShadow reach then .error 11
  else if decide (32 < capn) || !x.treesOk cs (2 ^ 160) [trees] [] then .error 12
  else if x.badDefine reach then .error 13
  else
    let m1 := match counts with | w :: _ => fld w.tgt 12 1 | [] => 0
    let argWord (n : Nat) : BitVec 16 :=
      let us := argUses rs n
      if counts.any (fun w => (fld w.tgt 0 3).toNat == n) then 0x8000
      else if dirCapv d && dirCaparg d == n then 0xA000
      else
        match us with
        | [] => 0
        | u :: _ =>
          let r := us.any (fun a => !a.1.write)
          let w := us.any (fun a => a.1.write)
          (if r && w then (3#3) else if w then 2#3 else 1#3) ++ BitVec.ofNat 2 u.1.sub ++ BitVec.ofInt 11 (regionExt us)
    let e : BitVec 320 := putFld 0 319 (1#1)
    let e := putFld (putFld (putFld e 318 (bit1 (dirKind d))) 317 (bit1 (dirPriv d))) 316 (bit1 (dirAny d))
    let e := putFld (putFld e 310 (dirDomain d)) 296 (BitVec.ofNat 14 (dirEntry d))
    let e := putFld (putFld e 276 (BitVec.ofNat 20 fc)) 264 (BitVec.ofNat 12 fs)
    let e := putFld (putFld (putFld e 252 (BitVec.ofNat 12 (dirFmax d))) 251 m1) 245 (BitVec.ofNat 6 capn)
    let e := putFld e 234 (BitVec.ofNat 11 scene)
    let e := (List.range 4).foldl (fun e s => putFld e (180 + 11 * s) (BitVec.ofInt 11 (staticExt rs x.lmax s))) e
    .ok ((List.range 8).foldl (fun e n =>
      putFld (putFld e (52 + 16 * n) (argWord n)) (226 + n) (BitVec.ofInt 1 (regionXl (argUses rs n)))) e)

end Sys2Proof.Machine
end

