-- ==== Sys2Proof/Machine/Loader.lean ====
section
/-!
DEFINITION. The loader: the checks of Table 3-14, placing and committing images (R92, R93, R502, R503), the slates
LOAD_RECIPE, LOAD_PATCH, RELOAD_VERIFY (R94), and LOG_READ (R412, R413, R449).
-/

namespace Sys2Proof.Machine

/-! ## Formats (codes 0x02 and 0x04) -/

/-- The argument of a directory entry breaks R503. -/
def badCapture (dir : List (BitVec 64)) (words : List MicroW) (d : BitVec 64) : Bool :=
  let x := scriptOf dir words d
  let captures := x.ws.any (fun w => w.cap != 0)
  let counts := (countLoads x.ws).any (fun w => (fld w.tgt 0 3).toNat == dirCaparg d)
  let used := x.ws.any (fun w => w.accesses.any (fun a => a.isArg && a.arg == dirCaparg d))
  captures != dirCapv d || (if dirCapv d then counts || used else dirCaparg d != 0)

/-- A directory entry is malformed (Table 3-13, R502, R503). -/
def badEntry (i : Image) (d : BitVec 64) : Bool :=
  let idx := (dirIndex d).toNat
  fld d 0 16 != 0 || decide (i.words.length ≤ dirEntry d) || badCapture i.dir i.words d ||
    ((countLoads (scriptOf i.dir i.words d).ws).isEmpty && dirFmax d != 0) ||
    (if i.kind = 2 then decide (idx < 256) || dirPriv d || dirAny d || (dirDomain d).setWidth 8 != i.domain
     else decide (256 ≤ idx))

/-- A path record is malformed (Table 9-5). -/
def badPath (progLen : Nat) (r : BitVec 128) : Bool :=
  let trig := (fld r 0 8).toNat
  let k := (fld r 8 8).toNat
  decide (3 < trig) || fld r 17 7 != 0 || fld r 24 8 != 0 || (trig == 0 && fld r 32 32 != 0) ||
    (trig == 0 && decide (64 ≤ k)) || (trig == 1 && decide (8 ≤ k)) || (trig == 2 && decide (16 ≤ k)) ||
    decide (progLen ≤ (fld r 64 32).toNat) || decide (8192 < (fld r 96 32).toNat)

/-- The parts that an image of its KIND carries (Table 3-14, R268). -/
def partsFit (i : Image) : Bool :=
  match i.kind.toNat with
  | 0 => i.prog.isEmpty && i.paths.isEmpty
  | 1 => i.dir.isEmpty && i.words.isEmpty && i.paths.isEmpty
  | _ => decide (1 ≤ i.paths.length) && decide (i.paths.length ≤ 16)

/-- Check 0x02 fails; kinds are those that the slate may load. -/
def State.badFormat (kinds : List Nat) (i : Image) (s : State) : Bool :=
  !kinds.contains i.kind.toNat || !i.partsOk || !partsFit i || i.dir.any (badEntry i) ||
    decide (¬ (i.dir.map dirIndex).Nodup) || decide (¬ (i.dir.map dirEntry).Nodup) ||
    (i.kind == 2 && i.dir.any (fun d => (s.seq.entry (dirIndex d)).msb)) || i.paths.any (badPath i.prog.length)

/-! ## Space (code 0x03) -/

/-- The lowest place from lo on, below hi, for n units that meets none of the runs (first, end) in use. -/
def firstFit (lo hi n : Nat) (used : List (Nat × Nat)) : Option Nat :=
  let runs := used.filter (fun u => u.1 < u.2)
  let fits (c : Nat) : Bool := decide (lo ≤ c) && decide (c + n ≤ hi) && (n == 0 || runs.all (fun u => u.2 ≤ c || c + n ≤ u.1))
  ((lo :: runs.map (·.2)).filter fits).foldl (fun m c => match m with
    | none => some c
    | some b => some (min b c)) none

/-- Patch RAM in use, as runs: of the images in force and of one that waits for its commit. -/
def Seq.wordRuns (q : Seq) : List (Nat × Nat) := q.holding.map (fun p => (p.base, p.base + p.img.words.length))

/-- Program memory in use by them, as runs. -/
def Seq.progRuns (q : Seq) : List (Nat × Nat) := q.holding.map (fun p => (p.pbase, p.pbase + p.img.prog.length))

/-- Where an image goes: vendor patches upward from the highest vendor word, recipes in the lowest words above it that
are free (R90); programs in the lowest free words above the boot image (log entry 24). -/
def State.spaceFor (i : Image) (s : State) : Option (Nat × Nat) :=
  let top := s.seq.vendorTop
  let words :=
    if i.kind = 2 then firstFit top 0x4000 i.words.length s.seq.wordRuns
    else
      let free := decide (top + i.words.length ≤ 0x4000) &&
        (i.words.isEmpty || s.seq.wordRuns.all (fun u => decide (u.2 ≤ top) || decide (top + i.words.length ≤ u.1)))
      if free then some top else none
  match words, firstFit s.rst.bootTop 262144 i.prog.length s.seq.progRuns with
  | some w, some p => some (w, p)
  | _, _ => none

/-! ## Judgement and placing -/

/-- Add the micro-PC of the image's first word to the TGT of JUMP, BR and LOOP (R502). -/
def rebase (base : Nat) (w : MicroW) : MicroW :=
  if w.seq = 1 ∨ w.seq = 2 ∨ w.seq = 3 then putFld w 96 (w.tgt + BitVec.ofNat 14 base) else w

/-- The table entry of a script placed at base. -/
def entryAt (base : Nat) (e : BitVec 320) : BitVec 320 := putFld e 296 (fld e 296 14 + BitVec.ofNat 14 base)

/-- The first check from FLOW on that a script of the image fails, over all its scripts, or every table entry with ENTRY
relative (Table 3-14). -/
def judgeScripts (i : Image) : Except Nat (List (BitVec 320)) :=
  let rs := i.dir.map (judgeScript i.dir i.words)
  let worst := rs.foldl (fun m r => match m, r with
    | none, .error c => some c
    | some b, .error c => some (min b c)
    | m, .ok _ => m) none
  match worst with
  | some c => .error c
  | none => .ok (rs.filterMap (fun r => match r with | .ok e => some e | .error _ => none))

/-- All the checks of Table 3-14 on an image that the Keeper judges under `slateKind`: DETAIL[31:8] of LOAD_REJECT, or its
place and its table entries. -/
def State.checkImage (kinds : List Nat) (slateKind : BitVec 8) (ch : Option (BitVec 18)) (persist : Bool) (i : Image)
    (s : State) : Except (BitVec 24) (Placed × List (BitVec 320)) :=
  match s.keep.judge slateKind i with
  | some k => .error ((0#8) ++ k ++ (1#8))
  | none =>
    if s.badFormat kinds i then .error 2
    else
      match s.spaceFor i with
      | none => .error 3
      | some (w, p) =>
        if i.words.any MicroW.malformed then .error 4
        else
          match judgeScripts i with
          | .error c => .error (BitVec.ofNat 24 c)
          | .ok es => .ok ({ img := i, base := w, pbase := p, persist := persist, ch := ch }, es.map (entryAt w))

/-- Place an image and make all its entries valid at once (R93). -/
def State.place (p : Placed) (entries : List (BitVec 320)) (s : State) : State :=
  let s := s.upSeq (fun q =>
    { q with cs := Tab.setList 0 q.cs p.base (p.img.words.map (rebase p.base)),
             table := (p.img.dir.zip entries).foldl (fun t (e : BitVec 64 × BitVec 320) => Tab.set 0 t (dirIndex e.1).toNat e.2) q.table,
             commits := q.commits + 1, images := q.images ++ [p] })
  let s := s.upSys (fun y =>
    { y with pmem := Tab.setList 0 y.pmem p.pbase p.img.prog,
             ppoison := Tab.setList false y.ppoison p.pbase (p.img.prog.map (fun _ => false)) })
  s.upKeep (fun k => k.committed p.img)

/-- Some running, queued or parked entry refers to an index of the image that the script table already holds (R93). -/
def Seq.busyFor (q : Seq) (i : Image) : Bool :=
  let refs := (match q.run with | some r => [r.e] | none => []) ++ q.queue ++ q.park.flatten
  i.dir.any (fun d => (q.entry (dirIndex d)).msb &&
    refs.any (fun e => (e.kind == .script || e.kind == .resume) && e.idx == dirIndex d))

/-- The commit boundary of an image that waits, and the end of its slate. -/
def State.commitNow (c : Commit) (s : State) : State :=
  let s := (s.upSeq (fun q => { q with waiting := none })).place c.p c.entries
  let s := if c.p.persist then s.upKeep (fun k => { k with patches := k.patches ++ [{ img := c.p.img }] }) else s
  s.okay c.slateCh 0x49 0

/-! ## LOAD_PATCH (R92, R93, R408) -/

/-- LOAD_PATCH; one image at a time waits for its commit. -/
def execLoadPatch (ch : BitVec 18) (img : Image) (s : State) : Answer :=
  s.onRuntime false ch 0x49 (fun x s => s.onPf ch 0x49 (fun s =>
    if s.seq.waiting.isSome then s
    else
      let s := s.noteTable 15
      match s.checkImage [0, 1] 0 none (x.getLsbD 224) img with
      | .error d => s.fail ch 0x49 6 d
      | .ok (p, es) =>
        let c : Commit := { p := p, entries := es, slateCh := ch, since := s.now }
        if s.seq.busyFor img then (s.upSeq (fun q => { q with waiting := some c })).await ch 0x49 else s.commitNow c))

/-- IMAGE_COMMIT: no entry refers any more to the indices that the waiting image replaces (R93). -/
def execImageCommit (s : State) : Answer :=
  match s.seq.waiting with
  | none => .next s
  | some c => .next (if s.seq.busyFor c.p.img then s else s.commitNow c)

/-- IMAGE_BUSY_TIMEOUT: an entry has stayed referenced for 10 ms and still is: BUSY (R93). -/
def execImageBusyTimeout (s : State) : Answer :=
  match s.seq.waiting with
  | none => .next s
  | some c =>
    if s.now < c.since + 10000000 || !s.seq.busyFor c.p.img then .next s
    else .next ((s.upSeq (fun q => { q with waiting := none })).fail c.slateCh 0x49 6 0x0E)

/-! ## LOAD_RECIPE (R92, R247, Table 8-12) -/

/-- The first bad argument. -/
def recipeBad (x : BitVec 512) : Option Nat :=
  if slNum x 16 8 % 64 ≠ 0 then some 16
  else if slNum x 24 4 = 0 ∨ 524288 < slNum x 24 4 then some 24
  else if slNum x 40 4 < 40000 then some 40
  else none

/-- The recipes bound, each with its channel. -/
def State.recipes (s : State) : List (Nat × Recipe) := s.host.chans.filterMap (fun e => e.2.recipe.map (fun r => (e.1, r)))

/-- The lines admitted and not yet recorded, of every slot: what they will still write is given to no other channel (R223,
R232). -/
def State.linesDue (s : State) : List LineJob := s.ing.slots.flatMap (fun e => e.2.jobs)

/-- The staging lines that copies of such lines, and copies in progress, may still write (R220). -/
def State.copiesDue (s : State) : List (Nat × Nat) :=
  (s.linesDue.filter (fun j => j.copy.msb)).map (fun j =>
    let first := (fld j.copy 0 18).toNat
    (first, first + 2 ^ (fld j.copy 27 4).toNat * ((ctW j.fmt * planesOf j.fmt + 511) / 512))) ++
  s.ing.slots.filterMap (fun e => e.2.copying.map (fun c => (c.1, c.1 + c.2.length)))

/-- PBASE for PCNT planes of each sub-bank, the lowest free run (log entry 24). -/
def State.planesFor (cnt : List Nat) (s : State) : Option (List Nat) :=
  (List.range 4).foldl (fun acc b => match acc with
    | none => none
    | some l =>
      let late := if b = 3 then s.linesDue.map (fun j => (ctPbase3 j.alloc, ctPbase3 j.alloc + ctPcnt3 j.alloc)) else []
      let used := s.recipes.map (fun e => (e.2.pbase.getD b 0, e.2.pbase.getD b 0 + e.2.pcnt.getD b 0)) ++ late
      (firstFit 0 1024 (cnt.getD b 0) used).map (fun p => l ++ [p])) (some [])

/-- The lowest free run of staging lines of banks 0 to 8; a bank that is not ON holds no window. -/
def State.windowFor (segs : Nat) (s : State) : Option Nat :=
  let off := ((List.range 9).filter (fun b => s.dom (21 + b) != 2)).map (fun b => (16384 * b, 16384 * (b + 1)))
  firstFit 0 147456 (64 * segs) (s.recipes.map (fun e => (e.2.win, e.2.win + e.2.wlen)) ++ s.copiesDue ++ off)

/-- The recipe that the slate asks for, with its allocations, or the resource of Table 8-15 that is short. -/
def State.allocate (x : BitVec 512) (p : Placed) (paths : List (Path × Nat)) (s : State) : Except Nat Recipe :=
  let cnt := (List.range 4).map (fun b => slNum x (28 + 2 * b) 2)
  let segs := slNum x 36 4
  let bytes := slNum x 24 4
  if 8192 ≤ s.recipes.length then .error 2
  else
    match s.planesFor cnt with
    | none => .error 3
    | some base =>
      match s.windowFor segs with
      | none => .error 4
      | some w =>
        if 1048576 < (s.recipes.map (fun e => e.2.bytes)).sum + bytes then .error 5
        else
          .ok { img := p.img, pbase := base, pcnt := cnt, win := w, wlen := 64 * segs, deadline := slNum x 40 4,
                proven := 0, base := p.base, prog := p.pbase, bytes := bytes, paths := paths.map (·.1),
                atomic := (paths.map (fun q => q.2)).foldl max 0, stretch := stretchOf p.img.prog,
                inputs := [] }

/-- What the loader finds of every path, with the script table as it will stand; none when one breaks R269. -/
def State.pathsOf (p : Placed) (entries : List (BitVec 320)) (s : State) : Option (List (Path × Nat)) :=
  let table := (p.img.dir.zip entries).foldl
    (fun t (e : BitVec 64 × BitVec 320) => Tab.set 0 t (dirIndex e.1).toNat e.2) s.seq.table
  let fs := flows (fun k => Tab.get 0 table k) p.img.prog
  p.img.paths.foldl (fun acc r => match acc, pathInfo fs r with
    | some l, some q => some (l ++ [q])
    | _, _ => none) (some [])

/-- LOAD_RECIPE. -/
def execLoadRecipe (ch : BitVec 18) (img : Image) (s : State) : Answer :=
  s.onRuntime true ch 0x42 (fun x s => s.onTarget ch 0x42 x (fun t s =>
    if t = 0 then s.fail ch 0x42 2 0
    else if (s.chan t).st ≠ .opened then s.wrongState ch 0x42 t
    else
      match recipeBad x with
      | some b => s.badArg ch 0x42 b
      | none =>
        let s := s.noteTable 15
        match s.checkImage [2] 2 (some t) false img with
        | .error d => s.fail ch 0x42 6 d
        | .ok (p, es) =>
          match s.pathsOf p es with
          | none => s.fail ch 0x42 8 0xFFFFFF
          | some paths =>
            match s.allocate x p paths with
            | .error r => s.fail ch 0x42 3 (BitVec.ofNat 24 r)
            | .ok r =>
              let bound := s.upChan t (fun c => { c with st := .bound, recipe := some r })
              match bound.prove t none with
              | .error d => s.fail ch 0x42 8 d
              | .ok w =>
                (((((bound.upRecipe t (fun r => { r with proven := w })).place p es).zeroAlloc r).noteTable 9).noteTable 14).okay ch 0x42
                  (BitVec.ofNat 32 w)))

/-! ## RELOAD_VERIFY (R94) -/

/-- The Keeper code of a second authentication: R497 without ROLLBACK, since the floor is this image's own or a later one's. -/
def Keep.rejudge (k : Keep) (i : Image) : Option (BitVec 8) :=
  ({ k with floors := [] } : Keep).judge i.kind i

/-- The entries that an image in force holds: those of its directory that no later image replaces. -/
def Seq.ownEntries (q : Seq) (later : List Placed) (p : Placed) : List (Nat × BitVec 320) :=
  match judgeScripts p.img with
  | .error _ => []
  | .ok es =>
    ((p.img.dir.zip es).map (fun (e : BitVec 64 × BitVec 320) => ((dirIndex e.1).toNat, entryAt p.base e.2))).filter
      (fun e => (decide (e.1 < 256) || (q.entry (BitVec.ofNat 10 e.1)).msb) &&
        !later.any (fun l => l.img.dir.any (fun d => (dirIndex d).toNat == e.1)))

/-- How many of n words from a on differ from those expected. -/
def countDiffer {α : Type} [DecidableEq α] (d : α) (t : Tab α) (a : Nat) (ws : List α) : Nat :=
  (ws.zipIdx.filter (fun e => Tab.get d t (a + e.2) ≠ e.1)).length

/-- One image: its words, program words and entries compared and rewritten; how many differed. -/
def State.verifyOne (first : Bool) (later : List Placed) (p : Placed) (s : State) : Nat × State :=
  let inj := first && s.armedFor 5 (fun _ _ => true)
  let s := if inj then s.fired else s
  let code := if inj then some 2 else s.keep.rejudge p.img
  match code with
  | some k =>
    let info : BitVec 24 := k ++ p.img.domain ++ p.img.kind
    (0, s.occur 5 (match p.ch with | some c => s.chanId c | none => 0) (info.setWidth 64) inj)
  | none =>
    let words := p.img.words.map (rebase p.base)
    let es := s.seq.ownEntries later p
    let n := countDiffer 0 s.seq.cs p.base words
    let m := countDiffer 0 s.sys.pmem p.pbase p.img.prog +
      ((List.range p.img.prog.length).filter (fun k => Tab.get false s.sys.ppoison (p.pbase + k))).length
    let es' := es.filter (fun e => decide (Tab.get 0 s.seq.table e.1 ≠ e.2))
    let s := s.upSeq (fun q =>
      { q with cs := Tab.setList 0 q.cs p.base words,
               table := es'.foldl (fun t e => Tab.set 0 t e.1 e.2) q.table,
               commits := q.commits + BitVec.ofNat 32 es'.length })
    let s := s.upSys (fun y =>
      { y with pmem := Tab.setList 0 y.pmem p.pbase p.img.prog,
               ppoison := Tab.setList false y.ppoison p.pbase (p.img.prog.map (fun _ => false)) })
    (n + m + es'.length, s)

/-- Every image of a list in turn. -/
def State.verifyAll : Bool → List Placed → Nat × State → Nat × State
  | _, [], r => r
  | first, p :: ps, r => let v := r.2.verifyOne first ps p; State.verifyAll false ps (r.1 + v.1, v.2)

/-- RELOAD_VERIFY: vendor patches, then recipe images; RESULT is the number of words rewritten. -/
def execReloadVerify (ch : BitVec 18) (s : State) : Answer :=
  s.onRuntime false ch 0x4A (fun _ s => s.onPf ch 0x4A (fun s =>
    let vendor := s.seq.images.filter (fun p => p.ch.isNone)
    let recipe := s.seq.images.filter (fun p => p.ch.isSome)
    let r := State.verifyAll true (vendor ++ recipe) (0, s)
    r.2.okay ch 0x4A (BitVec.ofNat 32 r.1)))

/-! ## LOG_READ (R412, R413, R449) -/

/-- Positions from a start that the log still holds, and how many before the oldest held were lost. -/
def logSpan (start oldest newest : Nat) : List Nat × Nat :=
  let a := max start oldest
  ((List.range (newest - a)).map (a + ·), oldest - start)

/-- Whether a function may read a record of channel CHAN: PF 0 every one, a VF those of its own channels. -/
def State.mayRead (f : Nat) (chan : BitVec 32) (current : Bool) (s : State) : Bool :=
  f == 0 || (chan != 0 && s.ownerOf (chan.setWidth 18).toNat == f &&
    (!current || s.chanId (chan.setWidth 18) == chan))

/-- The records of a log as a list of (POS, bytes, CHAN); a signature record names no channel. -/
def State.logRecords (result : Bool) (ps : List Nat) (s : State) : List (Nat × List Byte × BitVec 32) :=
  ps.map (fun p =>
    if result then
      let r := s.keep.recordAt p
      (p, natBytes 64 r.toNat, if (fld r 40 8 : BitVec 8).toNat < 6 then fld r 64 32 else 0)
    else let r := Tab.get 0 s.err.log (p % 4096); (p, natBytes 32 r.toNat, fld r 160 32))

/-- What a LOG_READ of function f takes from position start on into room for so many records, and how many were lost before it. -/
def State.logTaken (result : Bool) (f start room : Nat) (s : State) : List (Nat × List Byte × BitVec 32) × Nat :=
  let span := if result then logSpan start s.keep.oldest s.keep.pos.toNat
    else logSpan start (s.err.wpos.toNat - 4096) s.err.wpos.toNat
  (((s.logRecords result span.1).filter (fun e => s.mayRead f e.2.2 (!result))).take room, span.2)

/-- POS of the latest record of a domain's chain that the ring holds. -/
def Keep.latestOf (k : Keep) (d : Nat) : Option Nat :=
  ((List.range (k.pos.toNat - k.oldest)).map (fun i => k.pos.toNat - 1 - i)).find? (fun p =>
    decide ((fld (k.recordAt p) 32 8 : BitVec 8).toNat = d) && decide ((fld (k.recordAt p) 40 8 : BitVec 8).toNat < 6))

/-- The domains for which a channel with SIGN logs and whose latest record a reading covers. -/
def State.signDue (taken : List Nat) (s : State) : List (BitVec 6) :=
  ((List.range 64).filter (fun d =>
    decide (0 < Tab.get 0 s.keep.since d) &&
      (match s.keep.latestOf d with | some p => taken.contains p | none => false) &&
      s.host.chans.any (fun e => e.2.dom.toNat == d && e.2.out.mac && e.2.out.sign && decide (e.2.st ≠ .free)))).map (BitVec.ofNat 6)

/-- LOG_READ: the records go to the buffer; RESULT is how many were written, DETAIL how many were lost. -/
def execLogRead (ch : BitVec 18) (s : State) : Answer :=
  s.aside ch 0x4B (fun s => s.onRuntime false ch 0x4B (fun x s =>
    let f := s.ownerOf ch.toNat
    let result := x.getLsbD 288
    let start := slNum x 28 8
    let room := slNum x 24 4 / (if result then 64 else 32)
    let covered := (s.logTaken result f start room).1.map (·.1)
    let s := if result then (s.signDue covered).foldl (fun s d => s.upKeep (fun k => k.signPair d)) s else s
    let got := s.logTaken result f start room
    let sent := got.1
    let s := if sent.isEmpty then s
      else s.dmaWrite (s.fnOf ch) (slNum x 16 8) (sent.flatMap (fun e => e.2.1))
    s.finish ch 0x4B 0 (BitVec.ofNat 32 sent.length) (BitVec.ofNat 32 (min 0xFFFFFFFF got.2))))

end Sys2Proof.Machine
end

