-- ==== Sys2Proof/Machine/Gaffer.lean ====
section
/-!
DEFINITION. The gaffer (ch. 15): array clock modes and envelopes (R418 to R423), temperatures (R424 to R426), and the
power domains (R427, R428).  Modes are encoded as in Table 15-2, so that a larger code is a slower mode.
-/

namespace Sys2Proof.Machine

/-! ## Modes -/

/-- The envelope in units of 10 mW. -/
def Gaf.envelope (g : Gaf) : Nat := if g.env = 0 then 3000 else if g.env = 1 then 4500 else 6000

/-- The first row of Table 15-3, in tenths of a watt. -/
def arrayMax (m : Nat) : Nat := match m with | 0 => 420 | 1 => 290 | 2 => 225 | _ => 120

/-- P_pred at mode m is at or below the envelope less a margin, in units of 10 mW (R422). -/
def Gaf.fits (g : Gaf) (m margin : Nat) : Bool :=
  let a := arrayMax g.mode.toNat
  decide ((g.total.toNat - g.array.toNat) * a + g.array.toNat * arrayMax m ≤ (g.envelope - margin) * a)

/-- LIMIT follows every change. -/
def State.limits (s : State) : State := s.upGaf (Gaf.limited s.paired)

/-- The divider changes (R419); in Double mode the switch is one occurrence, whose event line 63 the lead raises. -/
def State.enterMode (m : BitVec 2) (s : State) : State :=
  if s.gaf.mode = m then s
  else
    let s := s.divide m
    if s.paired && !s.isLead then s else s.raiseIn 63

/-- The slower of two modes. -/
def slower (a b : BitVec 2) : BitVec 2 := if a < b then b else a

/-- This member's own mode changes: in force at once in Solo mode; in Double mode the lead orders the slower of the two
modes, and the mate reports its own (R421, log entry 25). -/
def State.ownMode (m : BitVec 2) (s : State) : State :=
  let s := s.upGaf (fun g => { g with own := m, raising := none, withheld := false, qualify := 0 })
  if !s.paired then s.enterMode m
  else if s.isLead then s.orderInput (.mode (slower m s.gaf.partner))
  else s.sendNotice { source := 127, number := m.setWidth 24 + 1, crc := 0 }

/-- The mate's report of its own mode reaches the lead. -/
def State.partnerMode (m : BitVec 2) (s : State) : State :=
  (s.upGaf (fun g => { g with partner := m })).orderInput (.mode (slower m s.gaf.own))

/-- An ordered mode is delivered, on both members in the same cycle (R7, R421). -/
def State.deliverMode (m : BitVec 2) (s : State) : State := (s.enterMode m).limits

/-- A decision for a slower mode: at once, ending a raise where it stands (R419). -/
def State.lowerTo (m : BitVec 2) (s : State) : State := if s.gaf.own < m then s.ownMode m else s

/-- SET_MODE (R5, R420, R422): a slower request applies at once; a faster one, and the envelope, at the samples.
The judgement refuses ENV 3 (R229), so 3, should it stand here, leaves the envelope. -/
def execSetMode (ch : BitVec 18) (s : State) : Answer :=
  s.onRuntime false ch 0x46 (fun x s => s.onPf ch 0x46 (fun s =>
    let req : BitVec 2 := fld x 128 2
    let env : BitVec 2 := if (fld x 136 2 : BitVec 2) = 3 then s.gaf.env else fld x 136 2
    let s := s.upGaf (fun g =>
      { g with modeReq := req, env := env, qualify := if env < g.env then 0 else g.qualify,
               raising := g.raising.filter (fun m => decide (req ≤ m)) })
    let s := (s.lowerTo req).limits
    s.okay ch 0x46 (s.gaf.mode.setWidth 32)))

/-! ## Power (R422) -/

/-- The mean of the latest 10 samples of a rail. -/
def meanOf (w : List (BitVec 16)) : BitVec 16 := BitVec.ofNat 16 ((w.map BitVec.toNat).sum / max 1 w.length)

/-- The rule of lowering. -/
def State.lowerPower (s : State) : State :=
  let g := s.gaf
  if g.total.toNat ≤ g.envelope then s
  else
    let m := ((List.range 4).find? (fun m => decide (g.mode.toNat < m) && g.fits m 100)).getD 3
    let s := s.lowerTo (BitVec.ofNat 2 m)
    s.upGaf (fun g => { g with raising := none, withheld := false })

/-- The rule of raising: one step, once the next faster mode has qualified at every sample for 1 ms. -/
def State.raisePower (s : State) : State :=
  let g := s.gaf
  let next := g.own.toNat - 1
  let s := s.upGaf (fun g => { g with qualify := if g.fits next 200 && !g.thold then g.qualify + 1 else 0 })
  if g.own ≠ 0 ∧ g.modeReq < g.own ∧ !g.thold ∧ g.raising = none ∧ g.notBefore ≤ s.now ∧ 1000 ≤ s.gaf.qualify then
    s.upGaf (fun g => { g with raising := some (BitVec.ofNat 2 next), raisedAt := s.now })
  else s

/-- POWER_SAMPLE: the rail monitors at 1 us, in units of 10 mW, and detector 47. -/
def execPowerSample (total array : BitVec 16) (s : State) : Answer :=
  if !s.ready 0 then .next s
  else
    let inj := s.armedFor 47 (fun _ _ => true)
    let s := if inj then s.fired else s
    let total := if inj then 6100 else total
    let s := if 6000 < total.toNat then s.occur 47 0 (total.setWidth 64) inj else s
    let s := s.upGaf (fun g =>
      let w := ((total, array) :: g.window).take 10
      { g with window := w, total := meanOf (w.map (·.1)), array := meanOf (w.map (·.2)) })
    .next s.lowerPower.raisePower.limits

/-- VOLTAGE_SETTLED: the regulator reports settled: the divider changes (R419); an armed VREG_FAULT withholds the report. -/
def execVoltageSettled (s : State) : Answer :=
  match s.gaf.raising with
  | none => .next s
  | some m =>
    if s.gaf.withheld then .next s
    else if s.armedFor 45 (fun _ _ => true) then .next (s.fired.upGaf (fun g => { g with withheld := true }))
    else .next (s.ownMode m).limits

/-- VREG_FAULT: not settled 8 us after a raise (detector 45). -/
def execVregFault (s : State) : Answer :=
  match s.gaf.raising with
  | none => .next s
  | some m =>
    if s.now < s.gaf.raisedAt + 8000 then .next s
    else
      let s := s.occur 45 0 (m.setWidth 64) s.gaf.withheld
      .next (s.upGaf (fun g => { g with raising := none, withheld := false, qualify := 0, notBefore := s.now + 1000000 }))

/-! ## Temperature (R424 to R426) -/

/-- A reading above t degrees. -/
def above (t : Int) (v : BitVec 16) : Bool := decide (16 * t < v.toInt)

/-- GF_TMAX: the highest reading since the last read. -/
def Gaf.highest (g : Gaf) (ts : List (BitVec 16)) : Gaf :=
  ts.zipIdx.foldl (fun g (e : BitVec 16 × Nat) =>
    if g.tmax.toInt < e.1.toInt then { g with tmax := e.1, tmaxSensor := BitVec.ofNat 5 e.2 } else g) g

/-- JUNCTION_SENSOR_SAMPLE: the 20 sensors, in units of 1/16 degree. -/
def execJunctionSensorSample (temps : List (BitVec 16)) (s : State) : Answer :=
  if !s.ready 0 then .next s
  else
    let inj := s.armedFor 44 (fun u _ => decide (u < 20))
    let unit := match s.err.armed with | some w => injUnit w | none => 0
    let s := if inj then s.fired else s
    let ts := (List.range 20).map (fun i => if inj && i == unit then 2416 else temps.getD i 0)
    let old := s.gaf
    let warn : Int := old.twarn.toNat
    let crossed := (List.range 20).any (fun i => above warn (ts.getD i 0) && !above warn (Tab.get 0 old.temps i))
    let cooled := old.warned && ts.all (fun v => !above (warn - 2) v)
    let s := s.upGaf (fun g => { g.highest ts with temps := Tab.setList 0 g.temps 0 ts })
    let s := if crossed || cooled then (s.upGaf (fun g => { g with warned := crossed })).raiseIn 63 else s
    let s :=
      if !old.thold && ts.any (above 125) then
        ((s.upGaf (fun g => { g with thold := true, raising := none, withheld := false, qualify := 0 })).lowerTo 3).raiseIn 63
      else if old.thold && ts.all (fun v => !above 120 v) then
        (s.upGaf (fun g => { g with thold := false, qualify := 0 })).raiseIn 63
      else s
    let s :=
      if !old.therm && ts.any (above 150) then
        let i := (ts.findIdx? (above 150)).getD 0
        let info : BitVec 21 := ts.getD i 0 ++ BitVec.ofNat 5 i
        (s.upGaf (fun g => { g with therm := true })).occur 44 0 (info.setWidth 64) inj
      else if old.therm && ts.all (fun v => !above 145 v) then s.upGaf (fun g => { g with therm := false })
      else s
    .next s.limits

/-! ## Power domains (R427, R428, Table 15-4) -/

/-- Some segment of staging bank b belongs to a window, or is pinned. -/
def State.bankUsed (b : Nat) (s : State) : Bool :=
  s.recipes.any (fun e => decide (0 < e.2.wlen) && decide (e.2.win < 16384 * (b + 1)) && decide (16384 * b < e.2.win + e.2.wlen)) ||
    (List.range 8).any (fun n => let p := Tab.get 0 s.banks.pin n; p.msb && (fld p 8 4).toNat == b)

/-- A close of domain b is refused (Table 15-4). -/
def State.closeRefused (b : Nat) (s : State) : Bool :=
  if b = 0 then
    s.host.chans.any (fun e => e.2.st == .bound || e.2.st == .running || e.2.st == .draining) ||
      s.seq.run.isSome || !s.seq.queue.isEmpty || !s.seq.park.isEmpty
  else if b ≤ 4 then (List.range 16).any (fun k => (s.slot (16 * (b - 1) + k)).src.msb)
  else if b ≤ 12 then (List.range 8).any (fun k => (s.sport (8 * (b - 5) + k)).cfg.getLsbD 29)
  else if b ≤ 16 then
    (List.range 4).any (fun k => (s.sport (64 + 4 * (b - 13) + k)).cfg.getLsbD 29 || s.cue.ctl.getLsbD (4 * (b - 13) + k))
  else if b ≤ 20 then
    (List.range 4).any (fun k => (Tab.get CrewPort.reset s.crew.ports (4 * (b - 17) + k)).en) ||
      (b == 17 && s.crew.bypOpen) || (b == 20 && decide (s.pair.st ≠ .solo))
  else s.bankUsed (b - 21)

/-- GF_DOMSTAT of domain b becomes v. -/
def State.setDom (b : Nat) (v : BitVec 2) (s : State) : State :=
  s.upGaf (fun g => { g with domStat := putFld g.domStat (2 * b) v })

/-- The request for domain b takes effect as the domain stands: a close is judged, an open begins; during a transition the
request waits.  Opening ARR clears the array ready bit and restarts its initialisation (R33). -/
def State.domRequest (b : Nat) (on : Bool) (s : State) : State :=
  let st := s.dom b
  if st = 2 ∧ !on then
    if s.closeRefused b then s.upGaf (fun g => { g with domRef := setBit g.domRef b true, domReq := setBit g.domReq b true })
    else s.setDom b 3
  else if st = 0 ∧ on then
    let s := s.setDom b 1
    if b = 0 then s.upRst (fun r => { r with rdy := setBit r.rdy 11 false, initArray := true }) else s
  else s

/-- A write of GF_DOMREQ. -/
def State.writeDomReq (value : BitVec 32) (s : State) : State :=
  (List.range 30).foldl (fun s b => s.domRequest b (value.getLsbD b))
    (s.upGaf (fun g => { g with domReq := fld value 0 30 }))

/-- GF_DOMREQ_WRITE. -/
def execGfDomreqWrite (value : BitVec 32) (s : State) : Answer :=
  .next (if s.ready 0 then s.writeDomReq value else s)

/-- DOMAIN_GATED: once no accepted transaction is pending and no issued request awaits its response, the domain is OFF (R341); a
bank's patrol stops. -/
def execDomainGated (b : BitVec 5) (s : State) : Answer :=
  let n := b.toNat
  if 30 ≤ n ∨ s.dom n ≠ 3 ∨ !s.mesh.domainQuiet n then .next s
  else
    let s := s.setDom n 0
    let s := if 21 ≤ n then s.upBanks (fun k => { k with phase := Tab.set 0 k.phase (n - 21) 0 }) else s
    .next (s.domRequest n (s.gaf.domReq.getLsbD n))

/-- DOMAIN_OPENED: the domain is ON; a staging bank's contents are zero (R428). -/
def execDomainOpened (b : BitVec 5) (s : State) : Answer :=
  let n := b.toNat
  if 30 ≤ n ∨ s.dom n ≠ 1 then .next s
  else
    let s := s.setDom n 2
    let s :=
      if 21 ≤ n then
        s.upBanks (fun k =>
          { k with mem := k.mem.filter (fun e => decide (e.1 / 1048576 ≠ n - 21)),
                   poison := k.poison.filter (fun e => decide (e.1 / 131072 ≠ n - 21)) })
      else s
    .next (s.domRequest n (s.gaf.domReq.getLsbD n))

end Sys2Proof.Machine
end

