-- ==== Sys2Proof/Machine/Reset.lean ====
section
/-!
DEFINITION. Resets, ready bits and the boot flow (ch. 16): what each reset kind reaches (Table 0-4), DEV_RDY (Tables 16-3),
the boot copier (R439, R440), and the function reset (R253).
-/

namespace Sys2Proof.Machine

/-! ## What survives -/

/-- The banks after power-on or warm reset: every word 0 but the secure region's, the maps at identity (bank 15's kept), a
retired segment still out of use: its logical segment stands on physical segment 256 (R344, R355, R356; log entry 26). -/
def Banks.restart (k : Banks) : Banks :=
  let secure (a : Nat) : Bool := decide (15 * 1048576 ≤ a) && decide (a < 15 * 1048576 + 524288)
  let out := k.retired.filter (fun e => decide (e.1 / 512 < 15) && decide (e.1 % 512 < 256))
  { Banks.reset with
    mem := k.mem.filter (fun e => secure e.1), poison := k.poison.filter (fun e => secure (8 * e.1)),
    map := out.foldl (fun t e => Tab.set 0 t (256 * (e.1 / 512) + e.1 % 512) 257) (k.map.filter (fun e => decide (256 * 15 ≤ e.1))),
    spare := k.spare.filter (fun e => decide (e.1 = 15)), spareDirty := k.spareDirty.filter (fun e => decide (e.1 = 15)),
    retired := k.retired, mram := k.mram, mramPoison := k.mramPoison, spares := k.spares }

/-- The Keeper's MRAM records, secure region, tamper sources and VBSRC stay; registers, token, sessions and streams go; the
boot measurements are taken again (Tables 0-4, 14-5, 14-7). -/
def Keep.restart (k : Keep) : Keep :=
  { Keep.reset with
    vbsrc := k.vbsrc, active := k.active, vbLatch := k.vbLatch, vbGone := k.vbGone, lc0 := k.lc0, lc1 := k.lc1, lc2 := k.lc2,
    counter := k.counter, ownerKey := k.ownerKey, provisioned := k.provisioned, cert := k.cert, domOwner := k.domOwner,
    floors := k.floors, dk := k.dk, log := k.log, pos := k.pos, seqs := k.seqs, macs := k.macs, since := k.since,
    patches := k.patches }

/-- The error registers: a power-on reset keeps POS and the ring of MRAM alone; a warm reset keeps also ERR_SUM, ERR_CNT,
ERR_CTL, ERR_LOST, and the records that wait (Table 0-4, R448). -/
def Err.restart (warm : Bool) (e : Err) : Err :=
  if warm then { e with inj := 0, armed := none, fired := false, code := 0 } else { Err.reset with wpos := e.wpos, log := e.log }

/-- DEV_RDY while a reset of each kind holds (Table 16-3). -/
def rdyAt (warm : Bool) : BitVec 15 := if warm then 0x15 else 0

/-- The device at the release of a power-on or warm reset; the incarnation advances at each (Table 10-11, R285). -/
def State.restart (warm : Bool) (cause : BitVec 4) (s : State) : State :=
  let c := Crew.reset (s.crew.inc + 1)
  { s with
    arr := Arr.reset, seq := Seq.reset, dir := Dir.reset, sys := Dsys.reset (if warm then 1 else 0), ing := Ing.reset,
    host := HostIf.reset, cue := Cue.reset,
    crew := if warm then { c with bypOpen := s.crew.bypOpen, bypState := s.crew.bypState } else c,
    pair := Pair.reset, mesh := Mesh.reset, banks := s.banks.restart, spl := Splice.reset s.spl.safeMram,
    keep := s.keep.restart, gaf := Gaf.reset, rst := { Rst.reset cause with rdy := rdyAt warm }, err := s.err.restart warm }

/-- POWER_ON_RESET: PORESET_N low, or a core supply below its threshold (R429); each cause is recorded (Table 16-4). -/
def execPowerOnReset (pin supply : Bool) (s : State) : Answer :=
  if !pin && !supply then .next s else .next (s.restart false (bit1 supply ++ bit1 pin ++ (0#2)))

/-- WARM_RESET: WRESET_N low (R429). -/
def execWarmReset (s : State) : Answer := .next (s.restart true 2)

/-- DEV_RSTREQ with its key (Table 16-5). -/
def resetKey (value : BitVec 32) : Bool := fld value 16 16 == (0x5A5A : BitVec 16) && value.getLsbD 0

/-- HOST_DEVICE_RESET_REQUEST: DEV_RSTREQ through PF 0 (R429); always served (R436). -/
def execHostDeviceResetRequest (fn : BitVec 6) (value : BitVec 32) (s : State) : Answer :=
  .next (if fn = 0 ∧ resetKey value then s.restart true 1 else s)

/-- SMBUS_RESET_REQUEST: a Write Word of 0x5A5A acts as KEY with GO = 1 (R443, R473). -/
def execSmbusResetRequest (value : BitVec 16) (pecOk : Bool) (s : State) : Answer :=
  .next (if pecOk && s.ready 0 && value == (0x5A5A : BitVec 16) then s.restart true 1 else s)

/-! ## Function reset (R216, R253) -/

/-- What the host interface still holds for a function that is reset is issued no more (R253): its writes held while the
link is down, its records held in Double mode, its slates ordered and not yet delivered; its MSI-X capability is reset. -/
def State.silence (fn : BitVec 6) (s : State) : State :=
  let mine (o : Out) : Bool := match o with
    | .hostWrite f _ _ => f == fn
    | .hostRead f _ _ => f == fn
    | .msix f _ => f == fn
    | _ => false
  let s := s.upPair (fun p =>
    { p with
      held := p.held.map (fun h => match h.out with
        | .record outs => { h with out := .record (outs.filter (fun o => !mine o)) }
        | _ => h)
      orders := p.orders.filter (fun o => match o.input with
        | .slate k _ => s.ownerOf k.toNat != fn.toNat
        | .putData k _ => s.ownerOf k.toNat != fn.toNat
        | _ => true) })
  s.upHost (fun h =>
    { h with
      outq := h.outq.filter (fun o => !mine o)
      reads := h.reads.map (fun r => if s.ownerOf r.ch.toNat == fn.toNat then { r with live := false } else r)
      msix := h.msix.filter (fun e => e.1 / 256 != fn.toNat)
      msixPend := h.msixPend.filter (fun e => e.1 / 256 != fn.toNat)
      msixCtl := Tab.set 0 h.msixCtl fn.toNat 0 })

/-- One channel of the function that is reset; an image of its LOAD_PATCH that waits for its commit goes. -/
def State.resetChannel (ch : BitVec 18) (s : State) : State :=
  let c := s.chan ch
  let s := s.upSeq (fun q => { q with waiting := q.waiting.filter (fun w => w.slateCh != ch) })
  if ch = 0 then s.upChan 0 (fun c => { c with exec := none, stale := [] })
  else
    match c.st with
    | .free => s
    | .running => (s.startDrain ch none true).upChan ch (fun c => { c with exec := none, stale := [] })
    | .draining => s.upChan ch (fun c => { c with exec := none, stale := [], destroyer := none, silent := true })
    | _ => s.freeChannel ch

/-- FUNCTION_LEVEL_RESET: the channels of function fn go to FREE, draining; FN_CLAPDROP and HI_ACCSTAT clear, and ADM_CQ.EN with PF 0. -/
def execFunctionLevelReset (fn : BitVec 6) (s : State) : Answer :=
  let f := fn.toNat
  let mine := (s.host.chans.map (fun e => e.1)).filter (fun k => s.ownerOf k == f)
  let s := mine.foldl (fun s k => s.resetChannel (BitVec.ofNat 18 k)) (s.silence fn)
  .next (s.upHost (fun h =>
    { h with clapDrop := Tab.set 0 h.clapDrop f 0, halves := Tab.set none h.halves f none,
             lastStat := Tab.set 0 h.lastStat f 0, badAcc := Tab.set 0 h.badAcc f 0,
             admCq := if f = 0 then setBit h.admCq 8 false else h.admCq }))

/-! ## Boot (R439 to R442) -/

/-- A verified boot image is in program memory: measurement 2, BOOT, and the Director starts at PC 0 in maintenance state. -/
def State.bootWith (code : BitVec 4) (i : BootImage) (s : State) : State :=
  let ws := i.words.take 262144
  let bytes := ws.flatMap (fun w => natBytes 2 w.toNat)
  { s with
    sys := { s.sys with pmem := Tab.setList 0 s.sys.pmem 0 ws },
    dir := { s.dir with run := .running },
    keep := { s.keep with meas := Tab.set 0 s.keep.meas 2 (Config.crypto 384 202 bytes) },
    rst := { s.rst with rdy := setBit s.rst.rdy 12 true, bootCode := code, bootTop := ws.length } }

/-- A source failed: KCODE SIGNATURE. -/
def State.bootFailed (s : State) : State := s.upRst (fun r => { r with kcode := 1 })

/-- BOOT_COPY: once KEEPER is set, slot A, else slot B (R439); both failed: CODE 0x4 (R440). -/
def execBootCopy (slotA slotB : BootImage) (s : State) : Answer :=
  if !s.ready 3 || s.ready 12 || s.rst.bootCode != 0 then .next s
  else if slotA.sigOk then .next (s.bootWith 1 slotA)
  else
    let s := s.bootFailed
    if slotB.sigOk then .next (s.bootWith 2 slotB) else .next (s.bootFailed.upRst (fun r => { r with bootCode := 4 }))

/-- BOOT_RETRY: DEV_BOOTCTL.RETRY through PF 0 while CODE is 0x4, in every state except SCRAPPED (R440); the image arrives
for this write or for one that a register write has left waiting (log entry 34). -/
def execBootRetry (fn : BitVec 6) (value : BitVec 32) (img : BootImage) (s : State) : Answer :=
  let asked := s.rst.retry || (fn == 0 && value.getLsbD 0)
  if !asked ∨ s.rst.bootCode ≠ 4 ∨ s.keep.lc = .scrapped then .next s
  else
    let s := s.upRst (fun r => { r with retry := false })
    .next (if img.sigOk then s.bootWith 3 img else s.bootFailed)

/-! ## Ready bits (R435, R436, Table 16-3) -/

/-- A life-cycle copy is invalid or disagrees with the state that the majority gives (R390). -/
def Keep.badCopies (k : Keep) : List Nat :=
  ([(0, k.lc0), (1, k.lc1), (2, k.lc2)].filter (fun (c : Nat × Lc × Bool) => !c.2.2 || decide (c.2.1 ≠ k.lc))).map (fun c => c.1)

/-- Two valid copies agree (R390). -/
def Keep.majority (k : Keep) : Bool :=
  let copies := ([k.lc0, k.lc1, k.lc2].filter (fun c => c.2)).map (fun c => c.1)
  copies.any (fun c => decide (2 ≤ (copies.filter (fun d => decide (d = c))).length))

/-- With the retained region the segment map of bank 15 is lost: it is at identity, a retired segment out of use (R356, R397). -/
def Banks.mapLost (k : Banks) : Banks :=
  let out := k.retired.filter (fun e => decide (e.1 / 512 = 15) && decide (e.1 % 512 < 256))
  { k with map := out.foldl (fun t e => Tab.set 0 t (256 * 15 + e.1 % 512) 257) (k.map.filter (fun e => decide (e.1 < 256 * 15))),
           spare := Tab.set 0 k.spare 15 0 }

/-- The Keeper reads the life-cycle copies; a bad one is rewritten while the majority holds (detector 42). -/
def State.readCopies (s : State) : State :=
  let inj := s.armedFor 42 (fun u _ => decide (u < 3))
  let unit := match s.err.armed with | some w => injUnit w | none => 0
  let s := if inj then s.fired else s
  let k := s.keep
  let k := if !inj then k else if unit = 0 then { k with lc0 := (k.lc0.1, false) }
    else if unit = 1 then { k with lc1 := (k.lc1.1, false) } else { k with lc2 := (k.lc2.1, false) }
  match k.badCopies with
  | [] => s
  | n :: rest =>
    if k.majority then
      let l := k.lc
      (s.upKeep (fun k => { k with lc0 := (l, true), lc1 := (l, true), lc2 := (l, true) })).occurN (rest.length + 1) 42 0
        (BitVec.ofNat 64 n) inj
    else s.upKeep (fun _ => k)

/-- The Keeper's checks before its ready bit is set: the copies, its keys, and after a power-on the VBAT latch, the retention of
the secure region, and the sources active now: keys zeroed and TAMPERED at once, the rest of R396 by `State.runActive` (R398). -/
def State.keeperUp (s : State) : State :=
  let s := s.readCopies
  let s := s.upKeep (fun k => { k with keys := k.provisioned && decide (k.lc ≠ .scrapped) })
  let powerOn := fld s.rst.cause 2 2 != 0
  let s :=
    if !powerOn then s
    else
      let src := s.keep.vbLatch
      let s :=
        if src = 0 then s.upKeep (fun k => { k with vbsrc := 0 })
        else
          let s := s.upKeep (fun k => { k with vbsrc := src, vbLatch := 0, tampered := true })
          let s := s.postEvent 4 (keepEvent 2 src s.keep.lc) false
          (s.occur 43 0 (((2#4) ++ src ++ (0#8) : BitVec 20).setWidth 64) false).raiseIn 62
      if s.keep.vbGone then
        let keys := s.keep.keys
        let s := (s.wipe.upBanks Banks.mapLost).upKeep (fun k => { k with vbGone := false, vblost := true, keys := keys })
        s.postEvent 4 (keepEvent 4 0 s.keep.lc) false
      else s
  let act := s.keep.active
  if act = 0 then s else s.upKeep (fun k => { k with keys := false, tampered := true, src := k.src ||| act })

/-- The blocks that R396 names are ready: the Keeper, the staging banks, the array and the control store. -/
def State.tamperable (s : State) : Bool := s.ready 3 && s.ready 7 && s.ready 11 && s.ready 13

/-- The response to the sources found active at power-up runs once the blocks it names are ready (R398). -/
def State.runActive (s : State) : State :=
  if !s.tamperable then s
  else
    let act := s.keep.active
    let s := s.upKeep (fun k => { k with active := 0 })
    (List.range 6).foldl (fun s b => if act.getLsbD b then s.tamperNow b false else s) s

/-- A stored patch is loaded again, or left out (R441). -/
def State.loadStored (s : State) (p : Stored) : State :=
  match s.checkImage [0, 1] 0 none true p.img with
  | .ok (q, es) => s.place q es
  | .error d =>
    let code : BitVec 8 := fld d 8 8
    s.upRst (fun r => { r with patchRej := satInc r.patchRej, kcode := if fld d 0 8 = (1 : BitVec 8) then code else r.kcode })

/-- Measurement 6: the Envor runtime image, which the boot firmware loads (R441; log entry 5). -/
def State.loadRuntime (s : State) : State :=
  s.upKeep (fun k => { k with meas := Tab.set 0 k.meas 6 (Config.provisioned 384 6) })

/-- CS: entries 0 to 255 from the ROM directory, then every stored patch (R90, R441). -/
def State.fillStore (s : State) : State :=
  let s := s.loadRuntime.upSeq (fun q =>
    { q with table := (List.range 256).foldl (fun t k => Tab.set 0 t k (romTable k)) q.table })
  s.keep.patches.foldl State.loadStored s

/-- Prerequisites of each ready bit (Table 16-3). -/
def rdyNeeds (b : Nat) : List Nat :=
  match b with
  | 1 => [0]
  | 2 => [1]
  | 3 => [2]
  | 4 => [0]
  | 5 => [2]
  | 6 => [2]
  | 7 => [1]
  | 8 => [1]
  | 9 => [1, 8]
  | 10 => [0]
  | 11 => [0]
  | 12 => [3]
  | 13 => [12, 7]
  | 14 => [13]
  | _ => []

/-- The function of bit b is ready: what is done before the bit is set. -/
def State.readyWork (b : Nat) (s : State) : State :=
  match b with
  | 3 => s.keeperUp
  | 7 => s.upRst (fun r => { r with initBanks := false })
  | 11 => (s.upArr (fun _ => Arr.reset)).upRst (fun r => { r with initArray := false })
  | 13 => s.fillStore
  | 14 => s.loadRuntime
  | _ => s

/-- What still keeps bit b from being set: BOOT is the copier's; ARRAY needs ARR ON; RUNTIME waits for DSTATE.NORMAL. -/
def State.readyHeld (b : Nat) (s : State) : Bool :=
  b == 12 || (b == 11 && s.dom 0 != 2) || (b == 14 && (!s.sys.normal || decide (s.dir.run = .held)))

/-- DSTATE bits [3:0] (Table 6-6): LASTRST, DFAULT, NORMAL. -/
def Dsys.dstateLow (y : Dsys) : BitVec 4 := y.lastrst ++ bit1 y.dfault ++ bit1 y.normal

/-- READY_BIT_SET: bit b of DEV_RDY, its prerequisites set (R435); once RUNTIME returns after a Director reset, 0x0008. -/
def execReadyBitSet (bit : BitVec 4) (s : State) : Answer :=
  let b := bit.toNat
  if 15 ≤ b ∨ s.ready b ∨ !(rdyNeeds b).all s.ready ∨ s.readyHeld b then .next s
  else
    let s := (s.readyWork b).upRst (fun r => { r with rdy := setBit r.rdy b true })
    let s := (if b = 6 then s.trainAll else s).runActive
    if b = 14 ∧ s.rst.report then
      .next ((s.upRst (fun r => { r with report := false })).postEvent 8 (s.sys.dstateLow.setWidth 32) false)
    else .next s

end Sys2Proof.Machine
end

