-- ==== Sys2Proof/Machine/ErrCtl.lean ====
section
/-!
DEFINITION. Arming and disarming injections (R450, R451), the error queue (R448), the link PLLs (R417, detector 46), and the
JTAG port (R414, R492).
-/

namespace Sys2Proof.Machine

/-! ## ERR_INJCMD -/

/-- A write of ERR_INJCMD: DISARM disarms, whether or not ARM is set; ARM arms with ERR_INJ as it stands, where R451 permits. -/
def State.writeInjCmd (value : BitVec 32) (s : State) : State :=
  if value.getLsbD 1 then s.upErr (fun e => { e with armed := none })
  else if value.getLsbD 0 then
    if s.mayInject then s.upErr (fun e => { e with armed := some e.inj, code := 0 }) else s.upErr (fun e => { e with code := 7 })
  else s

/-- ERR_INJ_ARM: a write of ERR_INJCMD with ARM. -/
def execErrInjArm (value : BitVec 32) (s : State) : Answer :=
  .next (if s.ready 2 && value.getLsbD 0 then s.writeInjCmd value else s)

/-- ERR_INJ_DISARM: a write of ERR_INJCMD with DISARM. -/
def execErrInjDisarm (value : BitVec 32) (s : State) : Answer :=
  .next (if s.ready 2 && value.getLsbD 1 then s.writeInjCmd value else s)

/-- ERROR_QUEUE_FLUSH: MRAM takes the queued records in order (R448). -/
def execErrorQueueFlush (s : State) : Answer := .next (if s.mramReady then s.flushRecs s.err.queue.length else s)

/-! ## Link PLLs (R417, detector 46) -/

/-- The sensor ports that a link PLL serves: 1 Ethernet and 3 CoaXPress, by the groups of Table 15-4 (log entry 27). -/
def pllSensors (pll group : Nat) : List Nat :=
  if pll = 1 then (if group < 4 then (List.range 4).map (fun k => 64 + 4 * group + k) else [])
  else if pll = 3 then (if group < 4 then (List.range 8).map (fun k => 32 + 8 * group + k) else [])
  else []

/-- The crew ports that it serves. -/
def pllCrew (pll group : Nat) : List Nat :=
  if pll = 2 ∧ group < 4 then (List.range 4).map (fun k => 4 * group + k) else []

/-- The PCIe link goes down with its PLL; the LTSSM state logged is open (log entry 27). -/
def State.pcieDown (s : State) : State :=
  if s.host.link then ((s.took).occur 33 0 ((s.freeVal 8).setWidth 64) false).upHost (fun h => { h with link := false }) else s

/-- LINK_PLL: a link PLL loses lock: the links on it are down until it relocks. -/
def execLinkPll (pll : BitVec 2) (group : BitVec 4) (s : State) : Answer :=
  let key := 16 * pll.toNat + group.toNat
  if Tab.get false s.rst.pllLost key then .next s
  else
    let inj := s.armedFor 46 (fun u _ => u == pll.toNat)
    let s := if inj then s.fired else s
    let s := (s.occur 46 0 ((group ++ pll : BitVec 6).setWidth 64) inj).upRst (fun r => { r with pllLost := Tab.set false r.pllLost key true })
    let s := if pll = 0 then s.pcieDown else s
    let s := (pllSensors pll.toNat group.toNat).foldl (fun s i => if (s.sport i).up then s.linkLost i false else s) s
    .next ((pllCrew pll.toNat group.toNat).foldl (fun s n =>
      if (s.port (BitVec.ofNat 4 n)).up then s.linkFailed (BitVec.ofNat 4 n)
      else s.upPort (BitVec.ofNat 4 n) (fun q => { q with train := false })) s)

/-- LINK_PLL_LOCK: the PLL has relocked; crew ports on it train (R275). -/
def execLinkPllLock (pll : BitVec 2) (group : BitVec 4) (s : State) : Answer :=
  .next (s.upRst (fun r => { r with pllLost := Tab.set false r.pllLost (16 * pll.toNat + group.toNat) false })).trainAll

/-! ## JTAG (R414, R492) -/

/-- The boundary-scan register drives the pins: EXTEST or INTEST is in force. -/
def State.scanDrives (s : State) : Bool := s.rst.jir == 0 || s.rst.jir == 3

/-- What drives Splice pin k: the boundary-scan cells, or the fabric and the safe state. -/
def State.pinDrive (k : Nat) (s : State) : Option Bool :=
  if s.scanDrives then (if s.rst.cells.getLsbD (3 * k + 2) then some (s.rst.cells.getLsbD (3 * k + 1)) else none)
  else s.spl.ball k (s.cue.value k)

/-- Edges at every pin whose drive differs from an earlier state's. -/
def State.edgesSince (old s : State) : State :=
  (List.range 384).foldl (fun t k =>
    match s.pinDrive k with
    | some v => if old.pinDrive k = some v then t
        else t.emit (.edge (BitVec.ofNat 3 (k / 64)) (BitVec.ofNat 6 (k % 64)) v s.cue.tb)
    | none => t) s

/-- The cells as a capture finds them: inputs are the pins' levels, where driven; open levels are free values. -/
def State.captured (s : State) : BitVec 1162 :=
  let free := s.freeVal 1162
  let pins : BitVec 1162 := (List.range 384).foldl (fun c k =>
    match s.pinDrive k with
    | some v => setBit (setBit (setBit c (3 * k) v) (3 * k + 1) v) (3 * k + 2) true
    | none => setBit c (3 * k + 2) false) free
  setBit (setBit (setBit (setBit (setBit pins 1152 true) 1153 true) 1154 s.gaf.therm) 1159 s.pair.hbOut) 1160 true

/-- An instruction takes the instruction register. -/
def State.jtagSelect (code : BitVec 8) (s : State) : State :=
  State.edgesSince s (s.upRst (fun r => { r with jir := code }))

/-- Boundary scan is offered: the state is known and is not SCRAPPED (R414, Table 16-1). -/
def State.scanOffered (s : State) : Bool := s.ready 3 && decide (s.keep.lc ≠ .scrapped)

/-- A boundary-scan instruction with one scan of the register: what was captured goes out, `cells` are in force. -/
def State.boundary (code : BitVec 8) (cells : BitVec 1162) (s : State) : State :=
  if !s.scanOffered then s.jtagSelect 0xFF
  else
    let t := (s.emit (.jtag s.captured)).took
    State.edgesSince s (t.upRst (fun r => { r with jir := code, cells := cells }))

/-- JTAG_EXTEST. -/
def execJtagExtest (cells : BitVec 1162) (s : State) : Answer := .next (s.boundary 0 cells)

/-- JTAG_SAMPLE_PRELOAD. -/
def execJtagSamplePreload (cells : BitVec 1162) (s : State) : Answer := .next (s.boundary 2 cells)

/-- JTAG_INTEST. -/
def execJtagIntest (cells : BitVec 1162) (s : State) : Answer := .next (s.boundary 3 cells)

/-- JTAG_IDCODE: offered in every state; it reads 0x1A2565AB. -/
def execJtagIdcode (s : State) : Answer := .next ((s.jtagSelect 1).emit (.read 0x40 0x1A2565AB))

/-- A debug instruction is permitted (R414). -/
def State.debugOffered (s : State) : Bool := s.ready 3 && s.keep.debug

/-- An instruction code that selects a register other than BYPASS as the device stands. -/
def State.jtagPermits (code : BitVec 8) (s : State) : Bool :=
  code == 1 || ((code == 0 || code == 2 || code == 3) && s.scanOffered) || (fld code 5 3 == 4 && s.debugOffered)

/-- JTAG_BYPASS: 0xFF, every value that is no instruction, and an instruction that is not permitted. -/
def execJtagBypass (code : BitVec 8) (s : State) : Answer :=
  .next (if s.jtagPermits code then s else s.jtagSelect 0xFF)

/-- JTAG_DEBUG: an Auwica debug instruction, 0x80 to 0x9F, where it is permitted; else BYPASS.  The spec gives no effect of a
debug instruction beyond its selection (log entry 28). -/
def execJtagDebug (code : BitVec 8) (s : State) : Answer :=
  .next (s.jtagSelect (if fld code 5 3 = (4 : BitVec 3) ∧ s.debugOffered then code else 0xFF))

end Sys2Proof.Machine
end

