-- ==== Sys2Proof/Machine/Spdm.lean ====
section
/-!
DEFINITION. SPDM and IDE_KM (R400, R402): the responder's negotiation, its sessions, and the IDE streams.  The codes of
messages and errors are those of DMTF SPDM 1.2 and PCIe IDE_KM, which the spec names and does not reproduce (log entry 29).
-/

namespace Sys2Proof.Machine

/-- A response with its fields. -/
def State.spdmSend (code : BitVec 8) (fields : List (BitVec 512)) (s : State) : State := s.emit (.spdm code fields)

/-- ERROR with its error code and extended data. -/
def State.spdmError (err : BitVec 8) (data : BitVec 8) (s : State) : State :=
  s.spdmSend 0x7F [err.setWidth 512, data.setWidth 512]

/-- A request: answered once KEEPER is set; refused with Keeper code STATE in BLANK and SCRAPPED (Table 14-2); out of order
before the negotiation has come to step `need`. -/
def State.spdm (need : Nat) (body : State → State) (s : State) : Answer :=
  if !s.ready 3 then .next s
  else if s.keep.mute then .next (s.spdmError 5 7)
  else if s.keep.spdm.toNat < need then .next (s.spdmError 4 0)
  else .next (body s)

/-- Negotiation has come to step n. -/
def State.spdmStep (n : BitVec 2) (s : State) : State := s.upKeep (fun k => { k with spdm := n })

/-- Bytes as fields of 64 bytes. -/
def byteFields : Nat → List Byte → List (BitVec 512)
  | 0, _ => []
  | n + 1, bs => if bs.isEmpty then [] else BitVec.ofNat 512 (bytesNat (bs.take 64)) :: byteFields n (bs.drop 64)

/-- Its digest. -/
def State.chainDigest (s : State) : BitVec 384 := Config.crypto 384 391 s.chain

/-- A signature of AK as two fields. -/
def State.signed (bs : List Byte) (s : State) : List (BitVec 512) :=
  let g := s.signAk bs
  [(fld g 0 384 : BitVec 384).setWidth 512, (fld g 384 384 : BitVec 384).setWidth 512]

/-- GET_VERSION: SPDM 1.2; the negotiation begins again. -/
def execSpdmGetVersion (s : State) : Answer := s.spdm 0 (fun s => (s.spdmStep 1).spdmSend 0x04 [0x12])

/-- GET_CAPABILITIES: certificates, challenge, signed measurements, encryption, MAC, key exchange, heartbeat, key update. -/
def execSpdmGetCapabilities (s : State) : Answer :=
  s.spdm 1 (fun s => (s.spdmStep (if s.keep.spdm < 2 then 2 else s.keep.spdm)).spdmSend 0x61 [0x000062F6])

/-- NEGOTIATE_ALGORITHMS: the algorithms of R400, or none in common. -/
def execSpdmNegotiateAlgorithms (supported : Bool) (s : State) : Answer :=
  s.spdm 2 (fun s => if supported then (s.spdmStep 3).spdmSend 0x63 [1] else s.spdmSend 0x63 [0])

/-- GET_DIGESTS: slot 0. -/
def execSpdmGetDigests (s : State) : Answer := s.spdm 3 (fun s => s.spdmSend 0x01 [1, s.chainDigest.setWidth 512])

/-- GET_CERTIFICATE: a portion of the chain of slot 0. -/
def execSpdmGetCertificate (slot : BitVec 4) (off len : BitVec 16) (s : State) : Answer :=
  s.spdm 3 (fun s =>
    let part := (s.chain.drop off.toNat).take len.toNat
    let rest := s.chain.length - (off.toNat + part.length)
    if slot ≠ 0 ∨ s.chain.length ≤ off.toNat then s.spdmError 1 0
    else s.spdmSend 0x02 ([BitVec.ofNat 512 part.length, BitVec.ofNat 512 rest] ++ byteFields 49 part))

/-- CHALLENGE: signed by AK over both nonces and the chain's digest. -/
def execSpdmChallenge (slot : BitVec 4) (nonce : BitVec 256) (s : State) : Answer :=
  s.spdm 3 (fun s =>
    if slot ≠ 0 then s.spdmError 1 0
    else
      let mine : BitVec 256 := s.freeVal 256
      let body := natBytes 32 nonce.toNat ++ natBytes 32 mine.toNat ++ natBytes 48 s.chainDigest.toNat
      s.took.spdmSend 0x03 ([s.chainDigest.setWidth 512, mine.setWidth 512] ++ s.signed body))

/-- A measurement block: its index and its digest. -/
def State.block (n : Nat) (s : State) : BitVec 512 := ((s.measurement n) ++ BitVec.ofNat 8 n : BitVec 392).setWidth 512

/-- GET_MEASUREMENTS: the number of blocks, one block, or all; indices as in Table 14-7. -/
def execSpdmGetMeasurements (index : BitVec 8) (sign : Bool) (nonce : BitVec 256) (s : State) : Answer :=
  s.spdm 3 (fun s =>
    let n := index.toNat
    let blocks := if n = 0 then [] else if n = 255 then (List.range 10).map (fun i => s.block (i + 1)) else [s.block n]
    if 10 < n ∧ n < 255 then s.spdmError 1 0
    else
      let mine : BitVec 256 := s.freeVal 256
      let body := natBytes 32 nonce.toNat ++ natBytes 32 mine.toNat ++ blocks.flatMap (fun b => natBytes 64 b.toNat)
      let head : List (BitVec 512) := [if n = 0 then 10 else BitVec.ofNat 512 blocks.length]
      if sign then s.took.spdmSend 0x60 (head ++ blocks ++ [mine.setWidth 512] ++ s.signed body) else s.spdmSend 0x60 (head ++ blocks))

/-! ## Sessions: at most 4 (R400) -/

/-- Session i. -/
def Keep.session (k : Keep) (i : BitVec 2) : Option SpdmSess := Tab.get none k.sess i.toNat

/-- Set session i. -/
def State.setSession (i : Nat) (v : Option SpdmSess) (s : State) : State :=
  s.upKeep (fun k => { k with sess := Tab.set none k.sess i v })

/-- KEY_EXCHANGE: a session's key schedule opens. -/
def execSpdmKeyExchange (slot : BitVec 4) (reqSession : BitVec 16) (s : State) : Answer :=
  s.spdm 3 (fun s =>
    if slot ≠ 0 then s.spdmError 1 0
    else
      match (List.range 4).find? (fun i => (Tab.get none s.keep.sess i).isNone) with
      | none => s.spdmError 0x0A 0
      | some i =>
        let share : BitVec 768 := s.freeVal 768
        let g := s.signed (natBytes 2 reqSession.toNat ++ natBytes 96 share.toNat)
        (s.took.setSession i (some { reqId := reqSession, established := false, keyGen := 0 })).spdmSend 0x64
          ([BitVec.ofNat 512 i, (fld share 0 384 : BitVec 384).setWidth 512, (fld share 384 384 : BitVec 384).setWidth 512] ++ g))

/-- FINISH: the session is established; a MAC that fails ends it. -/
def execSpdmFinish (sid : BitVec 2) (macOk : Bool) (s : State) : Answer :=
  s.spdm 3 (fun s =>
    match s.keep.session sid with
    | none => s.spdmError 2 0
    | some x =>
      if x.established then s.spdmError 4 0
      else if macOk then (s.setSession sid.toNat (some { x with established := true })).spdmSend 0x65 []
      else (s.setSession sid.toNat none).spdmError 6 0)

/-- A request inside an established session. -/
def State.inSession (sid : BitVec 2) (body : SpdmSess → State → State) (s : State) : State :=
  match s.keep.session sid with
  | some x => if x.established then body x s else s.spdmError 4 0
  | none => s.spdmError 2 0

/-- HEARTBEAT. -/
def execSpdmHeartbeat (sid : BitVec 2) (s : State) : Answer :=
  s.spdm 3 (fun s => s.inSession sid (fun _ s => s.spdmSend 0x68 []))

/-- KEY_UPDATE: the session's keys are updated. -/
def execSpdmKeyUpdate (sid : BitVec 2) (s : State) : Answer :=
  s.spdm 3 (fun s => s.inSession sid (fun x s =>
    (s.setSession sid.toNat (some { x with keyGen := x.keyGen + 1 })).spdmSend 0x69 []))

/-- END_SESSION. -/
def execSpdmEndSession (sid : BitVec 2) (s : State) : Answer :=
  s.spdm 3 (fun s => s.inSession sid (fun _ s => (s.setSession sid.toNat none).spdmSend 0x6C []))

/-! ## IDE_KM (R402) -/

/-- Change an IDE stream. -/
def State.upStream (n : BitVec 3) (f : IdeStream → IdeStream) (s : State) : State :=
  s.upKeep (fun k => { k with ide := Tab.upd IdeStream.off k.ide n.toNat f })

/-- The response object of a request, and its status: 0, or 4 for the error response. -/
def State.ideSend (op : IdeOp) (status : BitVec 8) (s : State) : State :=
  let obj : BitVec 8 := match op with
    | .query => 1
    | .keyProg => 3
    | .kSetGo => 6
    | .kSetStop => 6
  s.spdmSend 0x7E [obj.setWidth 512, status.setWidth 512]

/-- A stream is Secure: a key set is in use on each sub-stream in each direction; else Insecure. -/
def IdeStream.secure (x : IdeStream) : Bool := x.live &&& 0x77 == 0x77

/-- What a request does to a stream: sub-stream and direction are sub, the key set is K0 or K1. -/
def IdeStream.asked (x : IdeStream) (op : IdeOp) (sub : Nat) (keySet : Bool) : IdeStream :=
  let k := sub + (if keySet then 8 else 0)
  match op with
  | .query => x
  | .keyProg => { x with keyed := setBit x.keyed k true }
  | .kSetGo => if x.keyed.getLsbD k then { x with active := setBit x.active sub keySet, live := setBit x.live sub true } else x
  | .kSetStop =>
    { x with keyed := setBit x.keyed k false,
             live := if x.active.getLsbD sub == keySet then setBit x.live sub false else x.live }

/-- IDE_KM_REQUEST: in an established session the keys of a sub-stream are programmed and its key sets switched; outside one, or for a
sub-stream that does not exist, it is refused. -/
def execIdeKmRequest (sid : Option (BitVec 2)) (op : IdeOp) (stream sub : BitVec 3) (keySet : Bool) (s : State) : Answer :=
  s.spdm 0 (fun s =>
    let inside := match sid with
      | some i => (match s.keep.session i with | some x => x.established | none => false)
      | none => false
    if !inside ∨ fld sub 0 2 = (3 : BitVec 2) then s.ideSend op 4
    else (s.upStream stream (fun x => x.asked op sub.toNat keySet)).ideSend op 0)

end Sys2Proof.Machine
end

