-- ==== Sys2Proof/Machine/MeshEnd.lean ====
section
/-!
DEFINITION. The mesh's endpoints (R17, R326 to R328, R340, R344 to R348, R373, R384): packets and their fields, what an endpoint's
NI refuses, and what the banks, the context store, MRAM and the Splice fabric do with a request.
-/

namespace Sys2Proof

open Sys2Proof.Machine

/-! ## Responses -/

/-- A response to a request, with its type, status and data (Table 12-1). -/
def Packet.answer (k : Packet) (type : Nat) (status : BitVec 8) (data : BitVec 512) : Packet :=
  let h : BitVec 128 := putFld (putFld (0#128) 124 (BitVec.ofNat 4 type)) 116 (BitVec.ofNat 6 k.src)
  let h := putFld (putFld h 115 (BitVec.ofNat 1 k.sport)) 98 (fld k.hdr 98 10)
  let h := putFld (putFld h 80 (fld k.hdr 80 7)) 70 (fld k.hdr 70 4)
  { hdr := putFld h 0 status, data := data }

/-! ## What R328 calls malformed -/

/-- A request or posted write with a nonzero must-be-0 field, or LEN, OFF, ROT, ADDR[5:0] against R347 and R348. -/
def Packet.badShape (k : Packet) : Bool :=
  fld k.hdr 64 6 != 0 || k.sr || k.xt != 0 ||
    (match k.type with
      | 0 => k.off != 0 || k.len != 64 || k.addr % 64 != 0
      | 1 => k.len == 0 || decide (64 < k.len) || decide (64 < k.off + k.len) || k.addr % 64 != 0
      | 4 => k.len == 0 || decide (64 < k.len) || decide (64 < k.off + k.len) || k.addr % 64 != 0
      | _ => (k.len != 4 && k.len != 8) || k.off % (max 1 k.len) != 0 || decide (64 < k.off + k.len) || k.rot != 0)

/-- A malformed response: nonzero must-be-0 bits (R328). -/
def Packet.badResponse (k : Packet) : Bool := fld k.hdr 64 6 != 0 || k.sr || fld k.xt 8 24 != 0

/-- Lanes that a write reaches: OFF to OFF + LEN - 1 (R348). -/
def Packet.lanes (k : Packet) : BitVec 64 := ((BitVec.allOnes 64) >>> (64 - k.len)) <<< k.off

/-- The data on the lanes of the line: payload byte i is lane (i + ROT) modulo 64. -/
def Packet.onLanes (k : Packet) : BitVec 512 := k.data.rotateLeft (8 * k.rot)

/-- A line as payload under ROT. -/
def Packet.payload (k : Packet) (line : BitVec 512) : BitVec 512 := line.rotateRight (8 * k.rot)

/-- The operand of an atomic: data bytes 0 to LEN - 1. -/
def Packet.operand (k : Packet) : Nat := k.data.toNat % 2 ^ (8 * k.len)

/-- What an atomic writes over an old value (R347). -/
def Packet.atomic (k : Packet) (old : Nat) : Nat := if k.type = 2 then (old + k.operand) % 2 ^ (8 * k.len) else k.operand

/-! ## Fields that routers and NIs fill or compare -/

/-- The packet with HOPS as given. -/
def Packet.withHops (k : Packet) (n : Nat) : Packet := { k with hdr := putFld k.hdr 93 (BitVec.ofNat 5 n) }

/-- Packets that no probe matches: to or from router 34, or to the secure region of bank 15 (router 28, L0). -/
def Packet.hidden (k : Packet) : Bool :=
  k.src == 34 || k.dst == 34 || (k.dst == 28 && k.dport == 0 && decide (k.addr < 524288))

/-- The NI fills SROUTER, SPORT, EPOCH and HOPS (R327). -/
def Packet.filled (k : Packet) (r l : Nat) (epoch : Bool) : Packet :=
  let h := putFld (putFld k.hdr 109 (BitVec.ofNat 6 r)) 108 (BitVec.ofNat 1 l)
  { k with hdr := putFld (putFld h 123 (bit1 epoch)) 93 (0#5) }

end Sys2Proof

namespace Sys2Proof.Machine

/-! ## What an NI sends and counts -/

/-- The answer to a request from router r, port l: RDR with the data. -/
def State.reply (r l : Nat) (k : Packet) (status : BitVec 8) (data : BitVec 512) (s : State) : State :=
  s.present r l (k.answer 5 status data)

/-- An answer of a type whose data field the spec leaves open: a free value (R325; log entry 2). -/
def State.bare (r l : Nat) (k : Packet) (type : Nat) (status : BitVec 8) (s : State) : State :=
  (s.present r l (k.answer type status (s.freeVal 512))).took

/-- A request is answered with a status alone: WRR to a WR, else RDR without a line. -/
def State.statusReply (r l : Nat) (k : Packet) (status : BitVec 8) (s : State) : State :=
  s.bare r l k (if k.type = 1 then 6 else 5) status

/-- A write has taken effect: WRR to a WR, nothing to a PWR (Table 12-2). -/
def State.wrote (r l : Nat) (k : Packet) (s : State) : State := if k.type = 1 then s.statusReply r l k 0 else s

/-- MR_EPCNT_MALF counts. -/
def State.countMalf (r l : Nat) (s : State) : State :=
  s.upMesh (fun m => { m with epMalf := Tab.upd 0 m.epMalf (2 * r + l) satInc })

/-- A request gets a status and no data; a posted write is dropped, counted as malformed. -/
def State.turnAway (r l : Nat) (k : Packet) (status : BitVec 8) (s : State) : State :=
  if k.isRequest then s.statusReply r l k status else s.countMalf r l

/-! ## Staging banks (R344 to R348) -/

/-- An uncorrectable data field leaves the words that a posted write reaches poisoned (detector 22, R345). -/
def State.poisonWords (b l : Nat) (lanes : BitVec 64) (s : State) : State :=
  s.upBanks (fun k => { k with poison := (List.range 8).foldl (fun t w =>
    if fld lanes (8 * w) 8 = (0 : BitVec 8) then t else Tab.set false t (131072 * b + 8 * l + w) true) k.poison })

/-- A request or posted write at port A of bank b. -/
def State.serveBank (r l b : Nat) (k : Packet) (bad : Bool) (s : State) : State :=
  let line := k.addr % 1048576 / 64
  if 1048576 ≤ k.addr then s.turnAway r l k 3
  else if secureLine b line && !(k.src == 34 && k.sport == 0) then s.turnAway r l k 5
  else
    match k.type with
    | 0 =>
      let x := s.bankRead b line
      x.2.2.reply r l k (if x.2.1 then 4 else 0) (k.payload x.1)
    | 1 => (s.portAWrite b line k.lanes k.onLanes).wrote r l k
    | 4 =>
      let s := s.portAWrite b line k.lanes k.onLanes
      if bad then s.poisonWords b line k.lanes else s
    | _ =>
      let x := s.bankRead b line
      let old := (x.1 >>> (8 * k.off)).toNat % 2 ^ (8 * k.len)
      let ue := Tab.get false x.2.2.banks.poison (131072 * b + 8 * line + k.off / 8)
      (x.2.2.portAWrite b line k.lanes (BitVec.ofNat 512 (k.atomic old * 2 ^ (8 * k.off)))).reply r l k (if ue then 4 else 0)
        (BitVec.ofNat 512 old)

/-! ## The context store (R189, R231) -/

/-- v with n bytes from byte o on replaced by those of w. -/
def putBytes (v : BitVec 192) (o n : Nat) (w : Nat) : BitVec 192 :=
  let m : BitVec 192 := ((BitVec.allOnes 192) >>> (192 - 8 * n)) <<< (8 * o)
  (v &&& ~~~ m) ||| ((BitVec.ofNat 192 w <<< (8 * o)) &&& m)

/-- A context as a mesh write of its bytes 0 to 23 leaves it: STATE changes by Table 8-6 alone (R233), and a word written whole takes
fresh check bits, one written in part keeps a poisoned pattern (R345). -/
def Chan.meshWrite (c : Chan) (v : BitVec 192) (words : BitVec 64) (bad : Bool) : Chan :=
  { c.withContext v with
    st := c.st,
    ue := (List.range 3).foldl (fun u w =>
      if wholeWord words w then setBit u w bad
      else if bad && fld words (8 * w) 8 != (0 : BitVec 8) then setBit u w true else u) c.ue }

/-- A request at the context store: one that touches bytes 24 to 63 is malformed (R189), which every RD does; so is, as this model
has it (log entry 49), one from an endpoint other than the host interface, which alone writes bytes 0 to 23 (R231). -/
def State.serveContext (r l : Nat) (k : Packet) (bad : Bool) (s : State) : State :=
  let ch : BitVec 18 := BitVec.ofNat 18 (k.addr / 64)
  let old := (s.chan ch).context
  if 16777216 ≤ k.addr ∨ k.type = 0 ∨ 24 < k.off + k.len ∨ endpointAt k.src k.sport ≠ some .host then s.turnAway r l k 3
  else if k.type = 1 ∨ k.type = 4 then
    let v := putBytes old k.off k.len ((k.onLanes >>> (8 * k.off)).toNat)
    (s.upChan ch (fun c => c.meshWrite v k.lanes bad)).wrote r l k
  else
    let x := s.ctxRead ch 0 3
    let v := (old >>> (8 * k.off)).toNat % 2 ^ (8 * k.len)
    (x.2.upChan ch (fun c => c.meshWrite (putBytes old k.off k.len (k.atomic v)) k.lanes false)).reply r l k
      (if x.1.getLsbD (k.off / 8) then 4 else 0) (BitVec.ofNat 512 v)

/-! ## MRAM (detectors 39 to 41; log entry 5) -/

/-- A read of MRAM word w: its data, and whether it is uncorrectable. -/
def State.mramRead (w : Nat) (s : State) : BitVec 64 × Bool × State :=
  let fits (_ a : Nat) : Bool := a == w
  let s := if s.armedFor 39 fits then s.fired.occur 39 0 (BitVec.ofNat 64 w) true else s
  let inj := s.armedFor 40 fits
  let s := if inj then s.fired else s
  let ue := inj || Tab.get false s.banks.mramPoison w
  (Tab.get 0 s.banks.mram w, ue, if ue then s.occur 40 0 (BitVec.ofNat 64 w) inj else s)

/-- A write of MRAM word w; an injected failure takes no spare word (R453), and an uncorrectable word stays so until it is
written whole (R459). -/
def State.mramWrite (w : Nat) (v : BitVec 64) (whole : Bool) (s : State) : State :=
  let s := if s.armedFor 41 (fun _ a => a == w) then
      s.fired.occur 41 0 (BitVec.ofNat 64 (w + 1048576 * s.banks.spares)) true
    else s
  s.upBanks (fun k =>
    { k with mram := Tab.set 0 k.mram w v, mramPoison := Tab.set false k.mramPoison w (!whole && Tab.get false k.mramPoison w) })

/-- One word of a line with the lanes of a write. -/
def mixWord (old new : BitVec 64) (lanes : BitVec 8) : BitVec 64 :=
  (List.range 8).foldl (fun v i => if lanes.getLsbD i then putFld v (8 * i) (fld new (8 * i) 8 : BitVec 8) else v) old

/-- A request at MRAM: 2^20 words (the word address of Table 17-2 has 20 bits). -/
def State.serveMram (r l : Nat) (k : Packet) (bad : Bool) (s : State) : State :=
  let base := k.addr / 8
  if 8388608 ≤ k.addr ∨ k.rot ≠ 0 ∨ k.type = 2 ∨ k.type = 3 then s.turnAway r l k 3
  else if k.type = 0 then
    let x := (List.range 8).foldl (fun (acc : BitVec 512 × Bool × State) w =>
      let y := acc.2.2.mramRead (base + w)
      (putFld acc.1 (64 * w) y.1, acc.2.1 || y.2.1, y.2.2)) (0, false, s)
    x.2.2.reply r l k (if x.2.1 then 4 else 0) x.1
  else if bad then s
  else
    let s := (List.range 8).foldl (fun s w =>
      let lanes : BitVec 8 := fld k.lanes (8 * w) 8
      if lanes = 0 then s
      else s.mramWrite (base + w) (mixWord (Tab.get 0 s.banks.mram (base + w)) (fld k.data (64 * w) 64) lanes) (lanes == 0xFF)) s
    s.wrote r l k

/-! ## The Splice endpoint (R373, R376, R384) -/

/-- Word i of block b's configuration in the layout of BLOCK (Table 13-9). -/
def Splice.blockWord (x : Splice) (b i : Nat) : BitVec 64 :=
  if i < 12 then
    (List.range 4).foldl (fun v j => putFld v (16 * j) (Tab.get 0 x.insel (48 * b + 4 * i + j))) 0
  else if i < 132 then
    let all := (List.range 80).foldr (fun t v => (Tab.get 0 x.pt (80 * b + t)).toNat + 2 ^ 96 * v) 0
    BitVec.ofNat 64 (all / 2 ^ (64 * (i - 12)))
  else if i < 148 then Tab.get 0 x.mc (16 * b + (i - 132)) else 0

/-- Eight bytes of a readback offset (R384). -/
def Splice.readWord (x : Splice) (o : Nat) : BitVec 64 :=
  if o < 0x100000 then 0
  else if o < 0x120000 then x.blockWord ((o - 0x100000) / 0x800) ((o - 0x100000) % 0x800 / 8)
  else if o < 0x140000 then 0
  else if o < 0x150000 then
    (List.range 8).foldl (fun v j => putFld v (8 * j) (Tab.get 0 x.seg (o - 0x140000 + j))) 0
  else if o < 0x160000 then 0
  else if o < 0x160C00 then Tab.get 0 x.io ((o - 0x160000) / 8)
  else if o < 0x180000 then 0
  else if o < 0x180080 then fld x.capFf (8 * (o - 0x180000)) 64
  else if o < 0x1800B0 then fld x.capPin (8 * (o - 0x180080)) 64
  else 0

/-- A request at the Splice endpoint: configuration words at offset 0, readback, and the memories. -/
def State.serveSplice (r l : Nat) (k : Packet) (bad : Bool) (s : State) : State :=
  let a := k.addr
  if k.rot ≠ 0 ∨ k.type = 2 ∨ k.type = 3 ∨ 0x280000 ≤ a then s.turnAway r l k 3
  else if k.type = 0 then
    if a < 0x100000 then s.turnAway r l k 3
    else if a < 0x200000 then
      s.reply r l k 0 ((List.range 8).foldl (fun v w => putFld v (64 * w) (s.spl.readWord (a + 8 * w))) 0)
    else
      let q := (a - 0x200000) / 0x8000
      let base := (a - 0x200000) % 0x8000 / 8
      let x := (List.range 8).foldl (fun (acc : BitVec 512 × Bool × State) w =>
        let y := acc.2.2.qRead q (base + w)
        (putFld acc.1 (64 * w) (y.1.setWidth 64), acc.2.1 || y.2.1, y.2.2)) (0, false, s)
      x.2.2.reply r l k (if x.2.1 then 4 else 0) x.1
  else if bad then s
  else if a = 0 ∧ k.off = 0 ∧ k.len = 8 then
    let s := s.cfgWords false [fld k.data 0 64]
    s.wrote r l k
  else
    let q := (a - 0x200000) / 0x8000
    let base := (a - 0x200000) % 0x8000 / 8
    if a < 0x200000 ∨ (s.spl.queue q).mode ≠ 1 then s.turnAway r l k 3
    else
      let s := (List.range 8).foldl (fun s w =>
        let lanes : BitVec 8 := fld k.lanes (8 * w) 8
        if fld lanes 0 5 = (0 : BitVec 5) then s
        else
          let old := (Tab.get 0 s.spl.qmem (4096 * q + base + w)).setWidth 64
          s.qPart q (base + w) ((mixWord old (fld k.data (64 * w) 64) lanes).setWidth 36) (fld lanes 0 5 == (31 : BitVec 5))) s
      s.wrote r l k

/-! ## Crew ports: message slots and the segments of crossing frames (R290, R294, R335; log entry 60) -/

/-- A request or posted write at crew port p: below 0x10000 the slots, 1,024 bytes each, send slots first; then the segments of frames
that cross from another crew port. -/
def State.serveCrew (r l : Nat) (p : BitVec 4) (k : Packet) (bad : Bool) (s : State) : State :=
  if k.addr < 0x10000 then
    let recv := decide (0x8000 ≤ k.addr)
    let slot := k.addr % 0x8000 / 1024
    let base := k.addr % 1024
    if k.type = 0 then
      s.reply r l k 0 (BitVec.ofNat 512 (bytesNat ((List.range 64).map (fun i => (s.port p).slotByte recv slot (base + i)))))
    else if bad then s
    else
      let s := (List.range k.len).foldl (fun s i =>
        s.putSlotByte p recv slot (base + k.off + i) (fld k.data (8 * (k.off + i)) 8)) s
      s.wrote r l k
  else
    match endpointAt k.src k.sport with
    | some (.crew q) =>
      if k.type = 4 ∧ k.addr < 0x20000 then
        s.takeSegment (BitVec.ofNat 4 q) p k.tag (fld k.hdr 70 4 : BitVec 4).toNat k.data bad
      else s.turnAway r l k 3
    | _ => s.turnAway r l k 3

/-! ## Endpoints whose address space the spec does not give (log entry 30) -/

/-- A request at the Director, the Keeper, the host interface or a corner-turn unit: delivered; an RD returns a line that is a free
value. -/
def State.serveOther (r l : Nat) (k : Packet) (bad : Bool) (s : State) : State :=
  if k.type = 2 ∨ k.type = 3 ∨ k.rot ≠ 0 then s.turnAway r l k 3
  else
    let t := s.emit (.mesh (BitVec.ofNat 6 r) (BitVec.ofNat 1 l) k)
    if k.type = 0 then t.bare r l k 5 0
    else if bad then s
    else t.wrote r l k

/-- An endpoint performs a request or posted write that its NI has accepted. -/
def State.attend (e : Endpoint) (r l : Nat) (k : Packet) (bad : Bool) (s : State) : State :=
  match e with
  | .bank b => s.serveBank r l b k bad
  | .context => s.serveContext r l k bad
  | .mram => s.serveMram r l k bad
  | .splice => s.serveSplice r l k bad
  | .crew p => if k.type = 2 ∨ k.type = 3 ∨ k.rot ≠ 0 then s.turnAway r l k 3 else s.serveCrew r l (BitVec.ofNat 4 p) k bad
  | _ => s.serveOther r l k bad

/-- What the NI of endpoint e does with a request or posted write that reaches it and that it does not pass on: DOMAIN_OFF (R340),
MALFORMED (R328), or UE with data that are left open when the data field is uncorrectable (detector 22); none: it accepts it. -/
def State.niRefuses (e : Endpoint) (r l : Nat) (k : Packet) (bad : Bool) (s : State) : Option State :=
  if s.endOff e then
    some (if k.isRequest then s.statusReply r l k 1 else s.upMesh (fun m => { m with epOff := Tab.upd 0 m.epOff (2 * r + l) satInc }))
  else if k.badShape then some (s.turnAway r l k 3)
  else if bad && k.isRequest then some (s.statusReply r l k 4)
  else none

/-- A request or posted write at the NI of an endpoint, and at the endpoint when the NI accepts it. -/
def State.serve (r l : Nat) (k : Packet) (bad : Bool) (s : State) : State :=
  match endpointAt r l with
  | none => s
  | some e =>
    match s.niRefuses e r l k bad with
    | some t => t
    | none => s.attend e r l k bad

end Sys2Proof.Machine
end

