-- ==== Sys2Proof/Machine/Mesh.lean ====
section
/-!
DEFINITION. The mesh (ch. 12): routers and their input VCs (R325 to R335), rate regulators (R336), route epochs (R338, R339),
the dailies (R342, R343), the mesh commands, and the patrol of the staging banks (R352 to R356).
-/

namespace Sys2Proof.Machine

/-! ## Routers and VCs -/

/-- The key of an input VC. -/
def vcKey (r port vn : Nat) : Nat := 24 * r + 4 * port + vn

/-- The packets in an input VC, oldest first. -/
def Mesh.vc (m : Mesh) (r port vn : Nat) : List Flit := Tab.get [] m.vcs (vcKey r port vn)

/-- A router's epoch state and counters. -/
def Mesh.router (m : Mesh) (r : Nat) : Router := Tab.get Router.reset m.routers r

/-- Update a router. -/
def State.upRouter (r : Nat) (f : Router → Router) (s : State) : State :=
  s.upMesh (fun m => { m with routers := Tab.upd Router.reset m.routers r f })

/-- The router that a link leads to: 0 N, 1 E, 2 S, 3 W. -/
def neighbour (r d : Nat) : Option Nat :=
  match d with
  | 0 => if 6 ≤ r then some (r - 6) else none
  | 1 => if r % 6 < 5 then some (r + 1) else none
  | 2 => if r < 30 then some (r + 6) else none
  | 3 => if 0 < r % 6 then some (r - 1) else none
  | _ => none

/-- Where a router sends a packet (R329, R330, R332, R338). -/
inductive Hop where
  | link (d : Nat)
  | eject
  | absent
  | noTable
  deriving DecidableEq, Repr

/-- An output direction, absent off the mesh edge. -/
def hopToward (r d : Nat) : Hop := if (neighbour r d).isSome then .link d else .absent

/-- The next hop of packet k, whose HOPS already counts router r. -/
def Mesh.hop (m : Mesh) (r : Nat) (k : Packet) : Hop :=
  let rt := m.router r
  let n := k.hops - 1
  if k.sr then
    if n < (fld k.xt 28 4).toNat then
      (if 12 ≤ n then .absent else hopToward r (fld k.xt (26 - 2 * n) 2 : BitVec 2).toNat)
    else if k.dst = r then .eject else .absent
  else if 35 < k.dst then .absent
  else if k.dst = r then .eject
  else if k.epoch = rt.cur then hopToward r (Tab.get 0 m.rtc (36 * r + k.dst)).toNat
  else if rt.stby || rt.oldlive then hopToward r (Tab.get 0 m.rts (36 * r + k.dst)).toNat
  else .noTable

/-- INFO of the flit detectors 20 to 22: router 6, input port 3. -/
def flitInfo (r port : Nat) : BitVec 64 := BitVec.ofNat 64 (r + 64 * port)

/-! ## The dailies (R342, R343) -/

/-- The 32 bytes of a dailies record (Table 12-8). -/
def traceBytes (x : TraceRec) : List Byte :=
  natBytes 8 x.time.toNat ++ natBytes 16 x.hdr.toNat ++
    [x.probe.setWidth 8, x.router.setWidth 8, x.port.setWidth 8 ||| (if x.waited then 8 else 0), 0] ++ natBytes 4 x.seq.toNat

/-- A record as a TRACE packet from router r to the host interface. -/
def traceFlit (r : Nat) (epoch : Bool) (x : TraceRec) : Flit :=
  Flit.of ((Packet.make 8 32 0 0 32 0 0 0 (BitVec.ofNat 512 (bytesNat (traceBytes x)))).filled r 0 epoch)

/-- Probe p as packet f enters input port of router r: the count, and every 2^PRESCALE-th match a record, which enters the MGT VC
there, or is lost when that has no room. -/
def State.probe (r port : Nat) (f : Flit) (p : Nat) (s : State) : State :=
  let m := s.mesh
  let ctl := Tab.get 0 m.dlyCtl p
  if !(ctl.msb && (fld ctl 24 6).toNat == r && (fld ctl 21 3).toNat == port && !f.k.hidden &&
      (f.k.hdr &&& Tab.get 0 m.dlyMask p) == Tab.get 0 m.dlyVal p) then s
  else
    let n := Tab.get 0 m.dlyNth p + 1
    let s := s.upMesh (fun m => { m with dlyCnt := Tab.upd 0 m.dlyCnt p satInc, dlyNth := Tab.set 0 m.dlyNth p n })
    if ctl.getLsbD 30 || n % 2 ^ (fld ctl 17 4).toNat != 0 then s
    else
      let rec_ : TraceRec :=
        { time := s.tbNow, hdr := f.k.hdr, probe := BitVec.ofNat 3 p, router := BitVec.ofNat 6 r, port := BitVec.ofNat 3 port,
          waited := f.waited, seq := m.dlySeq }
      let s := s.upMesh (fun m => { m with dlySeq := m.dlySeq + 1 })
      if vcDepth 0 ≤ (m.vc r port 0).length then s.upMesh (fun m => { m with dlyLost := satInc m.dlyLost })
      else s.upMesh (fun m =>
        { m with vcs := Tab.upd [] m.vcs (vcKey r port 0) (· ++ [traceFlit r (m.router r).cur rec_]) })

/-! ## Entering and leaving a router -/

/-- Injections at the input of a router (detectors 19 to 22). -/
def State.flitInject (r port : Nat) (f : Flit) (s : State) : Flit × State :=
  let fits (u _ : Nat) : Bool := u == r
  if s.armedFor 19 fits then ({ f with k := f.k.withHops 15, inj := true }, s.fired)
  else if s.armedFor 20 fits then (f, s.fired.occur 20 0 (flitInfo r port) true)
  else if s.armedFor 21 fits then
    (f, (s.fired.upMesh (fun m => { m with stopped := Tab.set false m.stopped (8 * r + port) true })).occur 21 0
      (flitInfo r port) true)
  else if s.armedFor 22 fits then ({ f with bad := true }, s.fired.occur 22 0 (flitInfo r port) true)
  else (f, s)

/-- A packet enters input port of router r. -/
def State.enterRouter (r port vn : Nat) (f : Flit) (s : State) : State :=
  let x := s.flitInject r port f
  let s := (List.range 8).foldl (fun t p => t.probe r port x.1 p) x.2
  s.upMesh (fun m => { m with vcs := Tab.upd [] m.vcs (vcKey r port vn) (· ++ [{ x.1 with waited := false }]) })

/-- The regulator of endpoint e lets a REQ or PW packet in (R336). -/
def Mesh.mayInject (m : Mesh) (e vn : Nat) : Bool :=
  decide (vn < 2) || !(Tab.get 0x01000010 m.rate e).msb || decide (256 ≤ Tab.get 0 m.bucket e)

/-- The regulator after an injection. -/
def Mesh.charge (m : Mesh) (e vn : Nat) : Mesh :=
  if vn < 2 || !(Tab.get 0x01000010 m.rate e).msb then m else { m with bucket := Tab.upd 0 m.bucket e (· - 256) }

/-- Packets that wait at a bridged NI enter its outbound bridge while that has one of its 16 entries of the VN free (R337). -/
def Mesh.crossOut (m : Mesh) (r l vn : Nat) : Mesh :=
  if niDepth r l vn ≠ 16 then m
  else
    let key := niKey r l vn
    let have_ := Tab.get [] m.bridge key
    let wait := Tab.get [] m.ni key
    { m with bridge := Tab.set [] m.bridge key (have_ ++ wait.take (16 - have_.length)),
             ni := Tab.set [] m.ni key (wait.drop (16 - have_.length)) }

/-- The packets that the NI of router r, port l, has ready to inject: those in its outbound bridge, or where it has none those that
its endpoint has presented. -/
def Mesh.ready (m : Mesh) (r l vn : Nat) : List Flit := Tab.get [] (if niDepth r l vn = 16 then m.bridge else m.ni) (niKey r l vn)

/-- Those packets as given. -/
def Mesh.putReady (m : Mesh) (r l vn : Nat) (fs : List Flit) : Mesh :=
  if niDepth r l vn = 16 then { m with bridge := Tab.set [] m.bridge (niKey r l vn) fs }
  else { m with ni := Tab.set [] m.ni (niKey r l vn) fs }

/-- The NI of router r, port l, injects the oldest packet of a VN that waits there, when it may: the router's input VC has a credit
(R333) and the regulator lets it in (R336). -/
def State.injectNi (r l vn : Nat) (s : State) : State :=
  let e := 2 * r + l
  let s := s.upMesh (fun m => m.crossOut r l vn)
  match s.mesh.ready r l vn with
  | [] => s
  | f :: fs =>
    if vcDepth vn ≤ (s.mesh.vc r (4 + l) vn).length then
      s.upMesh (fun m => m.putReady r l vn ({ f with waited := true } :: fs))
    else if !s.mesh.mayInject e vn then s
    else
      (s.upMesh (fun m => (m.charge e vn).putReady r l vn fs)).enterRouter r (4 + l) vn
        { f with k := f.k.filled r l (s.mesh.router r).cur }

/-- The head of a VC leaves it; a VC noted at a SWAP counts it (R338). -/
def State.dropHead (r port vn : Nat) (s : State) : State :=
  let key := vcKey r port vn
  s.upMesh (fun m => { m with vcs := Tab.upd [] m.vcs key List.tail, noted := Tab.upd 0 m.noted key (· - 1) })

/-- A request is answered NO_TARGET by router r; another packet is dropped (R331, R332). -/
def State.noTarget (r : Nat) (k : Packet) (s : State) : State := if k.isRequest then s.statusReply r k.dport k 2 else s

/-- A packet for which there is no endpoint (R332). -/
def State.absentAt (r : Nat) (k : Packet) (s : State) : State :=
  (s.upRouter r (fun x => { x with notgt := satInc x.notgt })).noTarget r k

/-! ## Delivery at a destination NI -/

/-- A response reaches its requester in the cycle it arrives and frees the response buffer of its tag; a malformed one is dropped and
counted (R328, R334). -/
def State.deliverResponse (r l : Nat) (k : Packet) (bad : Bool) (s : State) : State :=
  if k.badResponse then s.countMalf r l
  else
    (s.upMesh (fun m => { m with issued := Tab.set false m.issued (issueKey r l k.tag) false })).emit
      (.mesh (BitVec.ofNat 6 r) (BitVec.ofNat 1 l) (if bad then { k with hdr := putFld k.hdr 0 (4#8) } else k))

/-- A packet waits in an input VC of the NI. -/
def State.takeIn (r l : Nat) (f : Flit) (s : State) : State :=
  s.upMesh (fun m => { m with recv := Tab.upd [] m.recv (niKey r l (packetVn f.k.type)) (· ++ [f]) })

/-- A packet is ejected at router r to its local port: a response is delivered, a request or posted write that the NI does not pass on
is answered, and any other packet waits in the NI's input VC. -/
def State.eject (r : Nat) (f : Flit) (s : State) : State :=
  let k := f.k
  let l := k.dport
  match endpointAt r l with
  | none => s.absentAt r k
  | some e =>
    if k.type = 5 ∨ k.type = 6 then s.deliverResponse r l k f.bad
    else if k.type < 5 then
      match s.niRefuses e r l k f.bad with
      | some t => t
      | none => s.takeIn r l f
    else s.takeIn r l f

/-! ## PACKET_FORWARD -/

/-- The output that the head of a VC of router r asks for: 0 to 3 a link, 4 L0, 5 L1; none for a packet that goes no further. -/
def Mesh.outOf (m : Mesh) (r : Nat) (f : Flit) : Option Nat :=
  let k := f.k.withHops (f.k.hops + 1)
  if k.hops = 16 then none
  else
    match m.hop r k with
    | .link d => some d
    | .eject => if (endpointAt r k.dport).isSome then some (4 + k.dport) else none
    | _ => none

/-- The far end of an output has a credit for a VN (R333); an NI takes a response at any time (R334). -/
def Mesh.credit (m : Mesh) (r out vn : Nat) : Bool :=
  if out < 4 then
    match neighbour r out with
    | some n => decide ((m.vc n ((out + 2) % 4) vn).length < vcDepth vn)
    | none => false
  else vn == 1 || decide ((m.niVc r (out - 4) vn).length < niDepth r (out - 4) vn)

/-- The class of a VN in the output priority of Table 12-4, highest first: MGT, RSP, then REQ and PW together. -/
def vnClass (vn : Nat) : Nat := min vn 2

/-- A contender's place in the rotation of its class: its input port, and for REQ and PW the VN as well. -/
def vcPlace (port vn : Nat) : Nat := if vn < 2 then port else 2 * port + (vn - 2)

/-- The key of an output's rotation. -/
def turnKey (r out cls : Nat) : Nat := 32 * r + 4 * out + cls

/-- The heads that contend for an output of router r with a credit: (input port, VN). -/
def Mesh.contenders (m : Mesh) (r out : Nat) : List (Nat × Nat) :=
  (List.range 24).filterMap (fun i =>
    let port := i / 4
    let vn := i % 4
    match m.vc r port vn with
    | [] => none
    | f :: _ =>
      if !Tab.get false m.stopped (8 * r + port) && m.outOf r f == some out && m.credit r out vn then some (port, vn) else none)

/-- Whether the output of router r grants VC (port, vn): no VN of higher priority contends, and the rotation reaches no other contender
of its class first (Table 12-4). -/
def Mesh.grants (m : Mesh) (r out port vn : Nat) : Bool :=
  let cls := vnClass vn
  let last := Tab.get 0 m.turn (turnKey r out cls)
  let wait (p v : Nat) : Nat := (vcPlace p v + 12 - last) % 12
  (m.contenders r out).all (fun x =>
    decide (cls < vnClass x.2) || (vnClass x.2 == cls && decide (wait port vn ≤ wait x.1 x.2)))

/-- Router r takes the head of an input VC (R329, R331 to R333): it goes on when its output grants it. -/
def State.forwardHead (r port vn : Nat) (s : State) : State :=
  if Tab.get false s.mesh.stopped (8 * r + port) then s
  else
    match s.mesh.vc r port vn with
    | [] => s
    | f :: fs =>
      let k := f.k.withHops (f.k.hops + 1)
      let drop (s : State) : State := s.dropHead r port vn
      match s.mesh.outOf r f with
      | none =>
        if k.hops = 16 then
          (((drop s).upRouter r (fun x => { x with expire := satInc x.expire })).occur 19 0
            (BitVec.ofNat 64 (r + 64 * (fld k.hdr 72 56).toNat)) f.inj).noTarget r k
        else
          match s.mesh.hop r k with
          | .noTable => ((drop s).upRouter r (fun x => { x with epoch := satInc x.epoch })).noTarget r k
          | _ => (drop s).absentAt r k
      | some out =>
        if !s.mesh.credit r out vn then
          s.upMesh (fun m => { m with vcs := Tab.set [] m.vcs (vcKey r port vn) ({ f with waited := true } :: fs) })
        else if !s.mesh.grants r out port vn then s
        else
          let s := (drop s).upMesh (fun m => { m with turn := Tab.set 0 m.turn (turnKey r out (vnClass vn)) ((vcPlace port vn + 1) % 12) })
          if out < 4 then s.enterRouter ((neighbour r out).getD r) ((out + 2) % 4) vn { f with k := k }
          else s.eject r { f with k := k }

/-- The endpoint at router r, port l, may issue packet k: a request needs its tag's response buffer free (R334), and none is issued from
the moment its domain is marked closing (R340). -/
def State.mayIssue (r l : Nat) (k : Packet) (s : State) : Bool :=
  match endpointAt r l with
  | none => false
  | some e => !k.isRequest || (!s.endOff e && !Tab.get false s.mesh.issued (issueKey r l k.tag))

/-- An endpoint issues a packet: its NI holds it, and a request takes its response buffer. -/
def State.issueFrom (r l : Nat) (k : Packet) (s : State) : State :=
  let s := s.present r l k
  if k.isRequest then s.upMesh (fun m => { m with issued := Tab.set false m.issued (issueKey r l k.tag) true }) else s

/-- PACKET_FORWARD: an endpoint presents a packet to its NI, or router r moves the head of an input VC on; a local port first
takes in a packet that waits at its NI. -/
def execPacketForward (r : BitVec 6) (port : BitVec 3) (vn : BitVec 2) (inj : Option Packet) (s : State) : Answer :=
  let rn := r.toNat
  let pn := port.toNat
  if !s.ready 1 ∨ 36 ≤ rn ∨ 6 ≤ pn then .next s
  else
    match inj with
    | some k =>
      if pn < 4 ∨ (endpointAt rn (pn - 4)).isNone then .next s
      else if 10 < k.type then
        .next ((s.emit (.mesh r (BitVec.ofNat 1 (pn - 4)) ((k.filled rn (pn - 4) false).answer 5 3 (s.freeVal 512)))).took)
      else if !s.mayIssue rn (pn - 4) k then .next s
      else .next ((s.issueFrom rn (pn - 4) k).injectNi rn (pn - 4) (packetVn k.type))
    | none =>
      let s := if 4 ≤ pn then s.injectNi rn (pn - 4) vn.toNat else s
      .next (s.forwardHead rn pn vn.toNat)

/-! ## Route epochs (R338, R339) -/

/-- Whether an entry's value is one that R339 gives router r for destination d. -/
def routeOk (r d : Nat) (v : BitVec 3) : Bool :=
  if d = r then v == 4 else decide (v.toNat < 4) && (neighbour r v.toNat).isSome

/-- MR_RTS_WRITE: an entry of the standby table; ignored while PEND or OLDLIVE is 1.  A reserved encoding leaves the field and sets
REG_RSVD (R11). -/
def State.writeRts (r d : Nat) (value : BitVec 32) (fn source : Nat) (s : State) : State :=
  let x := s.mesh.router r
  let v : BitVec 3 := fld value 0 3
  if !s.ready 1 ∨ 36 ≤ r ∨ 36 ≤ d ∨ x.pend ∨ x.oldlive then s
  else
    let t := s.upRouter r (fun y => { y with stby := true })
    if routeOk r d v then t.upMesh (fun m => { m with rts := Tab.set 0 m.rts (36 * r + d) v })
    else t.regRsvd fn (0x100100 + 1024 * r + 8 * d) source

/-- MR_RTS_WRITE. -/
def execMrRtsWrite (r : BitVec 6) (d : BitVec 6) (value : BitVec 32) (s : State) : Answer :=
  .next (s.writeRts r.toNat d.toNat value 0 0)

/-- The VCs of router r that hold packets of its current epoch, with the number of packets they hold. -/
def Mesh.noteVcs (m : Mesh) (r : Nat) : Tab Nat :=
  (List.range 24).foldl (fun t i =>
    let q := Tab.get [] m.vcs (24 * r + i)
    Tab.set 0 t (24 * r + i) (if q.any (fun f => f.k.epoch == (m.router r).cur) then q.length else 0)) m.noted

/-- SWAP: acted on while STBY is 1 and PEND and OLDLIVE are 0. -/
def State.swapEpoch (r : Nat) (s : State) : State :=
  let x := s.mesh.router r
  if s.ready 1 && decide (r < 36) && x.stby && !x.pend && !x.oldlive then
    (s.upMesh (fun m => { m with noted := m.noteVcs r })).upRouter r (fun y => { y with pend := true })
  else s

/-- MR_EPOCH_SWAP. -/
def execMrEpochSwap (r : BitVec 6) (s : State) : Answer := .next (s.swapEpoch r.toNat)

/-- The entries of one router move from one table to the other. -/
def exchange (r : Nat) (a b : Tab (BitVec 3)) : Tab (BitVec 3) :=
  (List.range 36).foldl (fun t d => Tab.set 0 t (36 * r + d) (Tab.get 0 b (36 * r + d))) a

/-- MR_SWAP_COMPLETE: every noted VC has forwarded what it held: CUR flips and the tables change places. -/
def execMrSwapComplete (r : BitVec 6) (s : State) : Answer :=
  let n := r.toNat
  if (s.mesh.router n).pend && (List.range 24).all (fun i => Tab.get 0 s.mesh.noted (24 * n + i) == 0) then
    .next ((s.upMesh (fun m => { m with rts := exchange n m.rts m.rtc, rtc := exchange n m.rtc m.rts })).upRouter n (fun y =>
      { y with cur := !y.cur, pend := false, stby := false, oldlive := true }))
  else .next s

/-- RELEASE of the old table. -/
def State.releaseEpoch (r : Nat) (s : State) : State :=
  if s.ready 1 && decide (r < 36) && (s.mesh.router r).oldlive then s.upRouter r (fun y => { y with released := true }) else s

/-- MR_EPOCH_RELEASE. -/
def execMrEpochRelease (r : BitVec 6) (s : State) : Answer := .next (s.releaseEpoch r.toNat)

/-- A packet of an epoch other than its router's current one waits in an input VC of a router or of a bridge (R337, R338). -/
def Mesh.holdsOld (m : Mesh) : Bool :=
  m.vcs.any (fun e => e.2.any (fun f => f.k.epoch != (m.router (e.1 / 24)).cur)) ||
    m.recv.any (fun e => decide (niDepth (e.1 / 16) (e.1 / 8 % 2) 0 = 16) && e.2.any (fun f => f.k.epoch != (m.router (e.1 / 16)).cur))

/-- MR_OLDLIVE_CLEAR: RELEASE has been written to all 36 routers and no VC holds a packet of the old epoch. -/
def execMrOldliveClear (s : State) : Answer :=
  let m := s.mesh
  let held := m.holdsOld
  if (List.range 36).all (fun r => (m.router r).oldlive && (m.router r).released) && !held then
    .next (s.upMesh (fun m => { m with routers := (List.range 36).foldl (fun t r =>
      Tab.upd Router.reset t r (fun y => { y with oldlive := false, released := false })) m.routers }))
  else .next s

/-! ## Rate regulators (R336) -/

/-- MR_RATE as a write leaves it, and whether a field was given a reserved encoding. -/
def rateWrite (old v : BitVec 32) : BitVec 32 × Bool :=
  let rateBad := fld v 16 9 == (0 : BitVec 9) || decide (256 < (fld v 16 9).toNat)
  let burstBad := fld v 0 8 == (0 : BitVec 8)
  let new : BitVec 32 := putFld (putFld (putFld 0 31 (fld v 31 1)) 16 (fld (if rateBad then old else v) 16 9)) 0
    (fld (if burstBad then old else v) 0 8)
  (new, rateBad || burstBad)

/-- A write of MR_RATE of endpoint e: writing EN = 1 fills the bucket. -/
def State.writeRate (e : Nat) (value : BitVec 32) (fn source : Nat) (s : State) : State :=
  if !s.ready 1 ∨ (endpointAt (e / 2) (e % 2)).isNone then s
  else
    let w := rateWrite (Tab.get 0x01000010 s.mesh.rate e) value
    let t := s.upMesh (fun m =>
      { m with rate := Tab.set 0x01000010 m.rate e w.1,
               bucket := if value.msb then Tab.set 0 m.bucket e (256 * (fld w.1 0 8).toNat) else m.bucket })
    if w.2 then t.regRsvd fn (0x110000 + 32 * e) source else t

/-- MR_RATE_ENABLE. -/
def execMrRateEnable (e : BitVec 7) (value : BitVec 32) (s : State) : Answer := .next (s.writeRate e.toNat value 0 0)

/-! ## The patrol (R352 to R356) -/

/-- A segment holds a line of the plane transfer that issues (R351). -/
def State.inTransfer (b seg : Nat) (s : State) : Bool :=
  match s.seq.run with
  | some r =>
    match r.e.kind with
    | .transfer _ _ n line =>
      decide (line < 16384 * b + 64 * seg + 64) && decide (16384 * b + 64 * seg < line + 512 * n)
    | _ => false
  | none => false

/-- The next logical segment of bank b, from seg on, that the patrol may borrow: not pinned, and in no transfer (R351, R352); none
when the sweep comes round without one. -/
def State.nextSeg (b seg : Nat) (s : State) : Option Nat :=
  ((List.range 256).map (fun i => (seg + i) % 256)).find? (fun x => !s.banks.pinned b x && !s.inTransfer b x)

/-- SEG of SB_PATROL_STAT: the segment borrowed, or the one to be borrowed next (Table 12-10). -/
def State.patrolSeg (b : Nat) (s : State) : BitVec 8 :=
  let seg := Tab.get 0 s.banks.seg b
  if Tab.get 0 s.banks.phase b ≠ 0 then seg
  else
    match s.nextSeg b seg.toNat with
    | some x => BitVec.ofNat 8 x
    | none => seg

/-- PATROL_BORROW: COPY begins, INTERVAL us after the last borrow; a spare that holds part of a copy is zeroed first (R356). -/
def execPatrolBorrow (b : BitVec 4) (s : State) : Answer :=
  let n := b.toNat
  let k := s.banks
  let last := Tab.get 0 k.borrowed n
  let on := s.ready 7 && (decide (9 ≤ n) || s.dom (21 + n) == 2)
  let due := last == 0 || decide (last - 1 + 1000 * (fld k.ctl 0 10).toNat ≤ s.now)
  match s.nextSeg n (Tab.get 0 k.seg n).toNat with
  | none => .next s
  | some seg =>
    if on && k.ctl.msb && !k.noSpare n && Tab.get 0 k.phase n == 0 && due then
      .next (s.upBanks (fun k =>
        { k with phase := Tab.set 0 k.phase n 1, seg := Tab.set 0 k.seg n (BitVec.ofNat 8 seg),
                 spareDirty := Tab.set false k.spareDirty n false, borrowed := Tab.set 0 k.borrowed n (s.now + 1) }))
    else .next s

/-- PATROL_COPY_DONE: TEST begins. -/
def execPatrolCopyDone (b : BitVec 4) (s : State) : Answer :=
  if Tab.get 0 s.banks.phase b.toNat = 1 then
    .next (s.upBanks (fun k => { k with phase := Tab.set 0 k.phase b.toNat 2 }))
  else .next s

/-- PATROL_TEST_DONE: a pass makes the former spare the logical segment; a mismatch retires the tested segment (R352, R355).  An
injected mismatch is logged and retires nothing (R453). -/
def execPatrolTestDone (b : BitVec 4) (mismatch : Bool) (s : State) : Answer :=
  let n := b.toNat
  if Tab.get 0 s.banks.phase n ≠ 2 then .next s
  else
    let phys := s.banks.phys n (Tab.get 0 s.banks.seg n).toNat
    let inj := s.armedFor 18 (fun u _ => u == n)
    let s := if inj then s.fired else s
    let done (k : Banks) : Banks := (k.switchMap n).endBorrow n
    let retire (k : Banks) : Banks :=
      if mismatch then { k with retired := Tab.set false k.retired (512 * n + phys) true } else k
    let t := s.upBanks (fun k => retire (done k))
    .next (if mismatch || inj then t.occur 18 0 (BitVec.ofNat 64 (n + 16 * phys)) inj else t)

/-- A copy in progress in bank b ends with part of it in the spare (R354, R356). -/
def Banks.endCopy (k : Banks) (b : Nat) : Banks :=
  if Tab.get 0 k.phase b = 1 then { k.endBorrow b with spareDirty := Tab.set false k.spareDirty b true } else k

/-- A write of SB_PINn (R354). -/
def State.writePin (n : Nat) (value : BitVec 32) (s : State) : State :=
  if !s.ready 7 then s
  else
    let b := (fld value 8 4).toNat
    s.upBanks (fun k =>
      let k := { k with pin := Tab.set 0 k.pin n (value &&& 0x80000FFF) }
      if !value.msb || Tab.get 0 k.seg b != fld value 0 8 then k
      else if Tab.get 0 k.phase b = 2 then k.abandon b else k.endCopy b)

/-- SB_PIN_WRITE. -/
def execSbPinWrite (n : BitVec 3) (value : BitVec 32) (s : State) : Answer := .next (s.writePin n.toNat value)

/-- A write of SB_PATROL_CTL: clearing EN ends every copy and abandons every test (R356); INTERVAL 0 is reserved. -/
def State.writePatrolCtl (value : BitVec 32) (fn source : Nat) (s : State) : State :=
  let bad := fld value 0 10 == (0 : BitVec 10)
  let v : BitVec 32 := putFld (putFld 0 31 (fld value 31 1)) 0 (fld (if bad then s.banks.ctl else value) 0 10)
  let stop (k : Banks) (b : Nat) : Banks := if Tab.get 0 k.phase b = 2 then k.abandon b else k.endCopy b
  let t := s.upBanks (fun k => let k := { k with ctl := v }; if value.msb then k else (List.range 16).foldl stop k)
  if bad then t.regRsvd fn 0x180000 source else t

end Sys2Proof.Machine
end

