-- ==== Sys2Proof/Machine/PairIn.lean ====
section
/-!
DEFINITION. Double mode (ch. 11): joining (R311, R312), ordered inputs and their delivery (R314 to R316), paired inputs and masked
lines (R315), compared outputs (R317), and the outcomes of a divergence (R320 to R322).
-/

namespace Sys2Proof.Machine

/-! ## The survivor (R322) -/

/-- The first own occurrence of a source goes. -/
def Pair.took (p : Pair) (source : BitVec 7) : Pair := { p with mine := p.mine.eraseP (fun x => x.1.source == source) }

/-- The occurrences on this member that no ordered input stands for yet. -/
def Pair.unordered (p : Pair) : Pair :=
  p.orders.foldl (fun p o =>
    match o.input with
    | .eventLine n => p.took (n.setWidth 7 + 64)
    | .lineRecord k _ _ _ _ => p.took (k.setWidth 7)
    | .maskedLine k _ => p.took (k.setWidth 7)
    | _ => p) p

/-- A survivor becomes Solo: it releases what it held, and takes the inputs that only it has seen (R322). -/
def State.survive (s : State) : State :=
  let s := s.reportPair 1
  let lead := s.isLead
  let held := s.pair.held
  let mine := (if lead then s.pair else s.pair.unordered).mine
  let s := s.upPair (fun p => { p with st := .solo, verdict := 0, held := [], theirs := [], mine := [], notices := [] })
  let s := held.foldl (fun s h => s.releaseOut h.out) s
  let s := s.upIng (fun g =>
    { g with slots := g.slots.map (fun (e : Nat × Slot) => (e.1,
        { e.2 with jobs := e.2.jobs.map (fun j =>
            if mine.any (fun x => x.1.source.toNat == e.1 && x.1.number == j.line) then { j with noticed := false } else j) })) })
  (mine.foldl (fun s x => if x.1.source.msb then s.raise (x.1.source.toNat - 64) else s) s).soloMode

/-- SPLIT, and LINK while the heartbeat runs: the lead continues Solo, the mate enters the safe state. -/
def State.leadSurvives (s : State) : State := if s.isLead then s.survive else s.enterSafe

/-! ## Joining (R312) -/

/-- HELLO to the partner (Table 11-3): identifier, ROLE, life-cycle state, REFCLK count over 100 us, Keeper measurement digest, T_s, and
whether this member refuses. -/
def State.sendHello (refuse : Bool) (s : State) : State :=
  let d := s.pairDigest
  let role : BitVec 32 := (bit1 refuse ++ s.keep.lc.code ++ (fld s.pair.ctl 30 1 : BitVec 1) : BitVec 5).setWidth 32
  s.sendPair 0 ((List.range 4).map (fun i => fld s.ident (32 * i) 32) ++ [role, 10000] ++
    (List.range 12).map (fun i => fld d (32 * i) 32) ++ [fld s.pair.ts 0 32, fld s.pair.ts 32 32])

/-- CREW_LINK_UP: training has ended, which told the neighbour's identifier, address and port; both ends start at LSEQ 0 (R275, R283,
R295).  A joining member sends HELLO on port 15 (R312). -/
def execCrewLinkUp (p nport : BitVec 4) (naddr : BitVec 8) (navalid : Bool) (ident : BitVec 128) (s : State) : Answer :=
  if (s.port p).up || !s.mayTrain p then .next s
  else
    let t := (((s.upPort p (fun q =>
      { q with up := true, train := false, nport := nport, naddr := naddr, navalid := navalid, nident := ident, txSeq := 0,
               rxSeq := 0, ahead := 0, naked := false, used := [], freed := [], back := [], owed := [] })).crewEvent p false).orderPorts).pump p
    .next (if p = 15 ∧ t.pair.st = .joining then t.sendHello false else t)

/-- A joining check fails: Solo, with a code of Table 11-2. -/
def State.refusePair (code : BitVec 4) (s : State) : State := s.upPair (fun p => { p with st := .solo, refuse := code, ts := 0 })

/-- A channel other than channel 0 is open. -/
def State.othersOpen (s : State) : Bool := s.host.chans.any (fun e => decide (e.1 ≠ 0) && decide (e.2.st ≠ .free))

/-- PAIR_CTL as a write leaves it: a reserved RESP keeps the field (R11). -/
def pairCtl (old v : BitVec 32) : BitVec 32 :=
  let resp : BitVec 2 := if v.getLsbD 29 then fld old 28 2 else fld v 28 2
  putFld (v &&& 0xCC000000) 28 resp

/-- EN = 0 dissolves a pair, also one that is still joining: cause SPLIT, the lead goes on Solo and the mate enters the safe state,
whichever was written (R313, R320). -/
def State.split (s : State) : State :=
  ((s.upPair (fun p => { p with verdict := 0, ctl := setBit p.ctl 31 false })).divergeFree 9).leadSurvives

/-- A write of PAIR_CTL (R312, R313, R320): while JOINING or PAIRED only EN = 0 counts. -/
def State.writePairCtl (v : BitVec 32) (fn source : Nat) (s : State) : State :=
  if !s.ready 6 then s
  else
    match s.pair.st with
    | .paired => if v.msb then s else s.split
    | .joining => if v.msb then s else s.split
    | .safe =>
      let t := s.upPair (fun p => { p with ctl := pairCtl p.ctl v })
      if v.getLsbD 29 then t.regRsvd fn 0x60000 source else t
    | .solo =>
      let t := s.upPair (fun p => { p with ctl := pairCtl p.ctl v })
      let t := if v.getLsbD 29 then t.regRsvd fn 0x60000 source else t
      if !v.msb then t
      else
        let t := if (t.port 15).up then t.portDown 15 else t
        t.upPair (fun p => { p with st := .joining, since := t.now, ts := 0, seq := 0, rxNum := 0 })

/-- PAIR_JOIN: PAIR_CTL is written with EN = 1. -/
def execPairJoin (ctl : BitVec 32) (s : State) : Answer := .next (if ctl.msb then s.writePairCtl ctl 0 0 else s)

/-- PAIR_TIM as a write leaves it, and whether a field was given a reserved encoding (Table 11-4). -/
def pairTim (old v : BitVec 32) : BitVec 32 × Bool :=
  let lagBad := decide ((fld v 20 12).toNat < 256)
  let cmpBad := decide ((fld v 8 8).toNat < 4)
  let waitBad := fld v 0 8 == (0 : BitVec 8)
  let new : BitVec 32 := putFld (putFld (putFld 0 20 (fld (if lagBad then old else v) 20 12)) 8 (fld (if cmpBad then old else v) 8 8)) 0
    (fld (if waitBad then old else v) 0 8)
  (new, lagBad || cmpBad || waitBad)

/-- A write of PAIR_TIM (R313). -/
def State.writePairTim (v : BitVec 32) (fn source : Nat) (s : State) : State :=
  if !s.ready 6 ∨ s.pair.st = .joining ∨ s.pair.st = .paired then s
  else
    let w := pairTim s.pair.tim v
    let t := s.upPair (fun p => { p with tim := w.1 })
    if w.2 then t.regRsvd fn 0x60008 source else t

/-- PAIR_JOIN_TIMEOUT: port 15 is not up within 1 ms. -/
def execPairJoinTimeout (s : State) : Answer :=
  if s.pair.st = .joining ∧ !(s.port 15).up ∧ s.pair.since + 1000000 ≤ s.now then .next (s.refusePair 1) else .next s

/-- The code of the first joining condition that a HELLO fails (Table 11-2); the own count is nominal, 10,000 of REFCLK in 100 us (log
entry 31). -/
def State.helloCode (h : Hello) (s : State) : Option (BitVec 4) :=
  if h.mate = s.pair.ctl.getLsbD 30 then some 2
  else if s.othersOpen then some 3
  else if h.digest ≠ s.pairDigest then some 4
  else if h.refclk ≠ 10000 then some 5
  else if h.lc ≠ s.keep.lc.code then some 6
  else if h.refused then some 7
  else none

/-- What the link layer sees of a PAIR frame: CLASS 0, as long as its cells. -/
def pairFrame (x : PairLink) : Frame :=
  { hdr := putFld (putFld (putFld (0#128) 124 (0xB#4)) 84 x.lseq) 68 (BitVec.ofNat 8 (min 128 (8 * x.cells.toNat - 5))),
    payload := [], crcOk := x.crcOk }

/-- The link side of a PAIR frame on port 15 (R281, R282, R324): whether it is accepted.  Its cells are free at once; a gap in the pair
sequence numbers is a lost PAIR frame, cause LINK. -/
def State.pairReceive (x : PairLink) (s : State) : State × Bool :=
  let f := pairFrame x
  if !(s.port 15).up || !s.carriesType 15 0xB then (s, false)
  else
    let r := s.linkReceive 15 f false
    if !r.2 then r
    else
      let t := r.1.grantCells 15 f.pool f.cells
      let gap := t.pair.rxNum != x.num
      let t := t.upPair (fun p => { p with rxNum := x.num + 1 })
      if gap then (t.divergeFree 8, false) else (t, true)

/-- HELLO_FRAME: the partner's HELLO is checked; the lead then sends T_s, at least 100 us ahead, by how much more being left open. -/
def execHelloFrame (h : Hello) (link : PairLink) (s : State) : Answer :=
  let r := s.pairReceive link
  let s := r.1
  if !r.2 ∨ s.pair.st ≠ .joining then .next s
  else
    let s := s.upPair (fun p => { p with partner := h.ident })
    match s.helloCode h with
    | some c => .next ((if h.refused then s else s.sendHello true).refusePair c)
    | none =>
      if s.pair.ts ≠ 0 then .next s
      else if s.isLead then
        let t := s.took.upPair (fun p => { p with ts := s.tbNow + 100000 + (s.freeVal 20).setWidth 64 })
        .next (t.sendHello false)
      else .next (s.upPair (fun p => { p with ts := h.ts }))

/-- PAIR_TS_REACHED: at T_s this member takes a Director reset, numbers its Director cycles from 0, and is PAIRED; the lead's channel 0
and its port words are the first ordered inputs, so that both members hold the same (R319).  DESIGN
CHOICE: R7 asks for one mode on both members and the spec does not say which at T_s; both enter Endure there, which every rule
allows, and are raised from it as R421 and R422 give (log entry 25). -/
def execPairTsReached (s : State) : Answer :=
  if s.pair.st ≠ .joining ∨ s.pair.ts = 0 ∨ s.tbNow < s.pair.ts then .next s
  else
    let t := s.resetDirector
    let t := t.upPair (fun p =>
      { p with st := .paired, ueSince := false, cyc0 := t.dir.cyc, orders := [], nums := [], held := [], theirs := [], mine := [],
               notices := [], ptime := p.ts, pcyc := t.dir.cyc, plast := p.ts, verdict := 0, sig := 0, sigCyc := 0,
               inverted := false, assigned := 0, maint := t.chan 0, ports := 0 })
    let t := ((t.enterMode 3).upGaf (fun g => { g with own := 3, partner := 3, raising := none, withheld := false, qualify := 0 })).limits
    let c := t.chan 0
    .next (if t.isLead then (t.orderInput (.channel 0 c.context c.subReel c.compReel)).orderPorts else t)

/-! ## Outcomes (R320 to R322) -/

/-- The outcome that RESP and the SELF bits give once both VERDICTs are in (R320). -/
def State.decideVerdict (partner : Bool) (s : State) : State :=
  if fld s.pair.ctl 28 2 = (1 : BitVec 2) ∧ !s.pair.self ∧ partner then s.survive else s.enterSafe

/-- A divergence has begun and waits for its outcome, with a cause that awaits VERDICT. -/
def State.awaits (link : Bool) (s : State) : Bool :=
  s.paired && decide (s.pair.verdict ≠ 0) && (link == (s.pair.cause == 8))

/-- VERDICT_FRAME: the partner's VERDICT; one that opens the divergence here carries its cause, and SPLIT ends a joining pair too. -/
def execVerdictFrame (cause : BitVec 4) (self : Bool) (link : PairLink) (s : State) : Answer :=
  let r := s.pairReceive link
  let s := r.1
  if !r.2 ∨ !(s.paired || (s.double && cause == 9)) then .next s
  else if cause = 9 then .next s.split
  else
    let s := if s.pair.verdict = 0 then s.divergeFree cause else s
    .next (if s.awaits false then s.decideVerdict self else s)

/-- VERDICT_TIMEOUT: no VERDICT within 5 us: the safe state. -/
def execVerdictTimeout (s : State) : Answer :=
  .next (if s.awaits false ∧ s.pair.verdict + 5000 ≤ s.now + 1 then s.enterSafe else s)

/-- HEARTBEAT_SILENT: PAIR_HB_I has been silent for 20 us after a LINK divergence: survivor under FAILOVER, else safe. -/
def execHeartbeatSilent (s : State) : Answer :=
  .next (if s.awaits true ∧ s.pair.hbIn + 20000 ≤ s.now + 1 then
      (if fld s.pair.ctl 28 2 = (1 : BitVec 2) then s.survive else s.enterSafe)
    else s)

/-- PAIR_HB_TOGGLE: every 1 us PAIR_HB_O toggles while EN = 1 (R488); hbI says that PAIR_HB_I has toggled too, which decides a LINK
divergence for the lead. -/
def execPairHbToggle (hbI : Bool) (s : State) : Answer :=
  let t := s.upPair (fun p =>
    { p with hbOut := if p.ctl.msb then !p.hbOut else p.hbOut, hbIn := if hbI then s.now + 1 else p.hbIn })
  .next (if hbI && t.awaits true then t.leadSurvives else t)

/-- PAIR_SPLIT: PAIR_CTL is written with EN = 0. -/
def execPairSplit (ctl : BitVec 32) (s : State) : Answer := .next (if ctl.msb then s else s.writePairCtl ctl 0 0)

/-- CREW_PORT_DOWN: a port that is up loses its link (R291, R295, R300); on the pair port it gives cause LINK. -/
def execCrewPortDown (p : BitVec 4) (s : State) : Answer := .next (if (s.port p).up then s.linkFailed p else s)

/-- Replay from the k-th frame of the replay buffer; when the retry of the pair port is exhausted, PAIR frames are lost: cause LINK
(R283, R324). -/
def State.replay (p : BitVec 4) (k : Nat) (s : State) : State :=
  let t := s.replayFrom p k
  if (t.port p).up then t
  else
    let t := t.orderPorts
    if p = 15 then t.divergeFree 8 else t

/-- LINK_NAK: replay in order from the LSEQ named (R282). -/
def execLinkNak (p : BitVec 4) (lseq : BitVec 12) (crcOk : Bool) (s : State) : Answer :=
  let q := s.port p
  if !crcOk || !q.up then .next s
  else
    match q.replay.findIdx? (fun r => r.f.lseq == lseq) with
    | none => .next s
    | some k => .next (s.replay p k)

/-- REPLAY_TIMEOUT: the oldest frame without acknowledgement 2 us after it was sent (R282). -/
def execReplayTimeout (p : BitVec 4) (s : State) : Answer :=
  match (s.port p).replay with
  | [] => .next s
  | r :: _ => if r.sent + 2000 ≤ s.now then .next (s.replay p 0) else .next s

/-! ## Ordered inputs (R314 to R316) -/

/-- PE row and plane group of the slot's line LINE, by the form of the stream (R215). -/
def Slot.placeOf (line : BitVec 24) (sl : Slot) : Nat × Nat :=
  { sl with arrival := line }.target (sl.index - (sl.arrival - line).toNat)

/-- A masked line (R315): the row of its planes is written with zeros in the tiles its region covers, no record is written, and the line
counts in CT_DROPINC. -/
def State.maskLine (k : Nat) (line : BitVec 24) (s : State) : State :=
  let sl := s.slot k
  let own := sl.jobs.find? (fun j => j.line == line)
  let place := sl.placeOf line
  let j := own.getD { sl.newJob 0 with row := BitVec.ofNat 9 place.1, group := BitVec.ofNat 4 place.2 }
  let sel : Plane := j.cols.foldl (fun m c => m ||| segPes j.row.toNat c) 0
  let s := s.upArr (fun a => (List.range (planesOf j.fmt)).foldl (fun a b => a.mergePlane (j.plane b) sel 0) a)
  s.upSlot k (fun sl => match own with
    | some j => sl.abandonJob j.id
    | none => sl.drop 3)

/-- An ordered input is delivered at the start of its cycle. -/
def State.deliverInput (o : Ordered) (s : State) : State :=
  match o.input with
  | .slate ch x =>
    let s := if s.isLead then s else s.upChan ch (fun c => { c with fetch := BitVec.ofNat 12 ((c.fetch.toNat + 1) % c.depthOf) })
    s.takeSlate ch x
  | .putData ch data => s.putData ch data
  | .eventLine n => (s.upPair (fun p => if s.isLead then p else p.took (n.setWidth 7 + 64))).raise n.toNat
  | .lineRecord k w0 w1 w2 w3 => (s.upPair (fun p => if s.isLead then p else p.took (k.setWidth 7))).recordLine k.toNat (w0, w1, w2, w3)
  | .maskedLine k line => (s.upPair (fun p => if s.isLead then p else p.took (k.setWidth 7))).maskLine k.toNat line
  | .pairTime t => s.upPair (fun p => { p with ptime := t, pcyc := p.cyc0 + (o.cycle.toNat - p.lag) })
  | .mode m => s.deliverMode m
  | .crewFrame p f => s.scanDeliver p f
  | .cueVerdict r =>
    match s.cue.inbox with
    | [] => s
    | e :: rest => (s.upCue (fun c => { c with inbox := rest })).applyVerdict e (if r = 0 then none else some r)
  | .clap ch tail head =>
    if s.isLead then s else s.upChan ch (fun c => { c with tail := fld tail 0 12, head := fld head 0 12 })
  | .eventSlot => if s.isLead then s else s.upChan 0 Chan.advance
  | .frameEnd k line => if (s.slot k.toNat).lastLine = line then s.setFe k.toNat else s
  | .dmaError ch code => s.failDma ch code
  | .roundTimeout g v => s.timeoutRound g v
  | .portWords w => s.upPair (fun p => { p with ports := w })
  | .channel ch ctx sq cq => if s.isLead then s else s.upChan ch (fun c => (c.withContext ctx).withReels sq cq)

/-- ORDERED_INPUT_DELIVERY: the oldest ordered input whose delivery cycle has begun. -/
def execOrderedInputDelivery (s : State) : Answer :=
  match s.pair.orders with
  | [] => .next s
  | o :: rest =>
    if s.pair.st = .safe ∨ s.pairCycle < o.cycle.toNat then .next s
    else .next ((s.upPair (fun p => { p with orders := rest })).deliverInput o)

/-- ORDER_FRAME: a frame with a piece of an ordered input reaches the mate; o is the input that it completes.  After its delivery
cycle the pair diverges with LAG (R314). -/
def execOrderFrame (o : Option Ordered) (link : PairLink) (s : State) : Answer :=
  let r := s.pairReceive link
  let s := r.1
  if !r.2 ∨ !s.isMate then .next s
  else
    match o with
    | none => .next s
    | some o =>
      if o.cycle.toNat < s.pairCycle then .next (s.divergeFree 7)
      else .next (s.upPair (fun p => { p with orders := p.orders ++ [o] }))

/-- PAIR_TIME_ASSIGN: every 1 us the lead samples its timebase as the pair-time input (R316). -/
def execPairTimeAssign (s : State) : Answer :=
  if s.paired && s.isLead && (s.pair.assigned == 0 || decide (s.pair.assigned - 1 + 1000 ≤ s.now)) then
    .next ((s.upPair (fun p => { p with assigned := s.now + 1 })).orderInput (.pairTime s.tbNow))
  else .next s

/-- NOTICE_FRAME: the lead matches an occurrence of the mate in order of arrival per source.  Source 127 is event line 63, a
union, and the mate's report of its mode (log entry 25). -/
def execNoticeFrame (n : Notice) (link : PairLink) (s : State) : Answer :=
  let r := s.pairReceive link
  let s := r.1
  if !r.2 ∨ !s.paired || !s.isLead then .next s
  else if n.source = 127 then
    .next (if n.number = 0 then s.orderInput (.eventLine 63) else s.partnerMode (fld (n.number - 1) 0 2))
  else
    let t := s.upPair (fun p => { p with notices := p.notices ++ [(n, s.now)] })
    .next (t.matchSource n.source t.pair.notices.length)

/-- The first occurrence of a source in a list is n, has stood for LINEWAIT, and the other member has not raised it. -/
def State.aloneFor (n : Notice) (l other : List (Notice × Nat)) (s : State) : Bool :=
  match l.find? (fun x => x.1.source == n.source) with
  | some x =>
    x.1 == n && decide (x.2 + s.pair.linewait ≤ s.now) && !other.any (fun y => y.1.source == n.source && y.1.number == n.number)
  | none => false

/-- LINEWAIT_EXPIRY: a line or event that one member alone has held for LINEWAIT: cause INPUT, or a masked line (R315). -/
def execLinewaitExpiry (n : Notice) (s : State) : Answer :=
  let p := s.pair
  let here := s.aloneFor n p.mine p.notices
  if !s.paired || !s.isLead || !(here || s.aloneFor n p.notices p.mine) then .next s
  else
    let first (x : Notice × Nat) : Bool := x.1.source == n.source
    let t := s.upPair (fun p => { p with mine := if here then p.mine.eraseP first else p.mine,
                                         notices := if here then p.notices else p.notices.eraseP first })
    if !n.source.msb && s.pair.ctl.getLsbD 27 then
      .next ((t.orderInput (.maskedLine (fld n.source 0 6) n.number)).matchSource n.source p.mine.length)
    else .next (t.diverge 5 n.number)

/-! ## Compared outputs (R317) -/

/-- DIGEST_FRAME: the partner's digest releases the held output that it matches, or the pair diverges. -/
def execDigestFrame (kind : BitVec 2) (number : BitVec 32) (digest : BitVec 64) (link : PairLink) (s : State) : Answer :=
  let r := s.pairReceive link
  let s := r.1
  if !r.2 ∨ !s.paired || !s.releasing then .next s
  else
    match s.pair.held.find? (fun h => h.kind == kind && h.num == number) with
    | none => .next (s.upPair (fun p => { p with theirs := p.theirs ++ [(kind, number, digest)] }))
    | some h =>
      let t := s.upPair (fun p => { p with held := p.held.filter (fun x => !(x.kind == kind && x.num == number)) })
      .next (if h.digest = digest then t.releaseOut h.out else t.diverge (mismatchCause kind) (fld number 0 24))

/-- CMPTMO_EXPIRY: no partner digest within CMPTMO of the member's own. -/
def execCmptmoExpiry (kind : BitVec 2) (number : BitVec 32) (s : State) : Answer :=
  if !s.paired || !s.releasing then .next s
  else
    match s.pair.held.find? (fun h => h.kind == kind && h.num == number) with
    | none => .next s
    | some h =>
      if s.now < h.since + s.pair.cmptmo then .next s
      else
        .next ((s.upPair (fun p => { p with held := p.held.filter (fun x => !(x.kind == kind && x.num == number)) })).diverge 6
          (fld number 0 24))

end Sys2Proof.Machine
end

