-- ==== Sys2Proof/Machine/RegRead.lean ====
section
/-!
DEFINITION. Reading the set-up registers (ch. 18): the value of each register of Tables 18-3 to 18-12 and of the windows, what a read
clears, the functions that serve them (R496), host reads with their latches (R461 to R465) and SMBus reads (R473).
-/

namespace Sys2Proof.Machine

/-- The offset o lies in an array of n registers of stride st from b, and is one of them: its index. -/
def idxOf (o b st n : Nat) : Option Nat := if b ≤ o ∧ (o - b) % st = 0 ∧ (o - b) / st < n then some ((o - b) / st) else none

/-! ## Values by region: none where the offset names no register -/

/-- FN_BASE, FN_COUNT, FN_DOM, FN_CLAPDROP of function f (Table 8-3). -/
def State.fnReg (f k : Nat) (s : State) : Nat :=
  let h := s.host
  match k with
  | 0 => (Tab.get 0 h.base f).toNat
  | 1 => (Tab.get 0 h.count f).toNat
  | 2 => (Tab.get 0 h.dom f).toNat
  | _ => (Tab.get 0 h.clapDrop f).toNat

/-- Host interface, device control, boot (Table 18-3), as function f reads it. -/
def State.hostReg (f o : Nat) (s : State) : Option Nat :=
  let h := s.host
  let r := s.rst
  if o < 0x20 then some (s.fnReg f (o / 8))
  else if 0x1000 ≤ o then
    if o < 0x2000 ∧ o % 0x40 < 0x20 then some (s.fnReg ((o - 0x1000) / 0x40) (o % 0x40 / 8)) else none
  else
    match o with
    | 0x20 => some (Tab.get 0 h.lastStat f ++ Tab.get 0 h.badAcc f : BitVec 32).toNat
    | 0x100 => some r.rdy.toNat
    | 0x108 => some r.cause.toNat
    | 0x110 => some 0
    | 0x118 => some (r.bootCode ++ (0#12) ++ r.patchRej ++ r.kcode : BitVec 32).toNat
    | 0x120 => some 0
    | 0x128 => some r.bootAddr.toNat
    | 0x200 => some h.admSq.toNat
    | 0x208 => some h.admCq.toNat
    | 0x210 => some 0
    | 0x218 => some h.evOvf.toNat
    | _ => none

/-- Gaffer (Table 18-4). -/
def State.gafReg (o : Nat) (s : State) : Option Nat :=
  let g := s.gaf
  match o with
  | 0x0 => some ((0#22) ++ g.env ++ g.modeReq ++ g.limit ++ (0#2) ++ g.mode : BitVec 32).toNat
  | 0x8 => some (bit1 g.thold ++ bit1 g.raising.isSome ++ bit1 g.therm ++ (0#29) : BitVec 32).toNat
  | 0x10 => some (g.total ++ g.array : BitVec 32).toNat
  | 0x18 => some ((0#11) ++ g.tmaxSensor ++ g.tmax : BitVec 32).toNat
  | 0x20 => some g.twarn.toNat
  | 0x28 => some g.domReq.toNat
  | 0x30 => some g.domStat.toNat
  | 0x38 => some g.domRef.toNat
  | _ => (idxOf o 0x100 8 20).map (fun n => (Tab.get 0 g.temps n).toNat)

/-- Timebase and cue list (Table 18-5). -/
def State.cueReg (o : Nat) (s : State) : Option Nat :=
  let c := s.cue
  match o with
  | 0x0 => some c.ctl.toNat
  | 0x8 => some c.adj.toNat
  | 0x10 => some 0
  | 0x18 => some 0
  | 0x20 => some s.tbNow.toNat
  | 0x28 => some (bit1 (decide (c.slew ≠ 0)) ++ bit1 c.stepRef ++ (0#30) : BitVec 32).toNat
  | 0x100 => some c.warn.toNat
  | 0x108 => some ((0#2) ++ c.hwm ++ (0#2) ++ BitVec.ofNat 14 c.pend.length : BitVec 32).toNat
  | 0x110 => some c.rej.toNat
  | 0x118 => some c.rejCnt.toNat
  | 0x120 => some c.maskedCnt.toNat
  | _ => none

/-- Keeper (Table 18-6). -/
def State.keepReg (o : Nat) (s : State) : Option Nat :=
  let k := s.keep
  match o with
  | 0x0 => some k.cmdOp.toNat
  | 0x8 => some k.kaddr.toNat
  | 0x10 => some (bit1 k.busy ++ bit1 k.tampered ++ bit1 k.vblost ++ bit1 k.mtoken.isSome ++ k.lc.code ++ (0#9) ++ k.code ++ (0#8) :
      BitVec 32).toNat
  | 0x18 => some ((0#8) ++ k.vbsrc ++ (0#8) ++ k.src : BitVec 32).toNat
  | _ => none

/-- Error log and injection (Table 18-6). -/
def State.errReg (o : Nat) (s : State) : Option Nat :=
  let e := s.err
  match o with
  | 0x0 => some e.sum.toNat
  | 0x8 => some e.wpos.toNat
  | 0x10 => some e.lost.toNat
  | 0x18 => some e.inj.toNat
  | 0x20 => some 0
  | 0x28 => some (bit1 e.armed.isSome ++ bit1 e.fired ++ (0#14) ++ e.code ++ (0#8) : BitVec 32).toNat
  | _ =>
    match idxOf o 0x100 8 48 with
    | some n => some (Tab.get 0 e.cnt n).toNat
    | none => (idxOf o 0x300 8 48).map (fun n => (Tab.get 0 e.ctl n).toNat)

/-- Micro-sequencer view (Table 18-7). -/
def State.seqReg (o : Nat) (s : State) : Option Nat :=
  match o with
  | 0x0 => some s.seq.mstat.toNat
  | 0x8 => some s.seq.yieldOn.toNat
  | 0x10 => some s.seq.commits.toNat
  | _ => none

/-- PAIR_STAT.STATE. -/
def PairSt.code : PairSt → BitVec 3
  | .solo => 0
  | .joining => 1
  | .paired => 2
  | .safe => 3

/-- Pair (Table 18-7). -/
def State.pairReg (o : Nat) (s : State) : Option Nat :=
  let p := s.pair
  match o with
  | 0x0 => some p.ctl.toNat
  | 0x8 => some p.tim.toNat
  | 0x10 =>
    let hb := decide (p.hbIn ≠ 0) && decide (s.now + 1 ≤ p.hbIn + 10000)
    some (p.st.code ++ bit1 hb ++ p.refuse ++ p.cause ++ bit1 p.self ++ (0#19) : BitVec 32).toNat
  | _ => none

/-- SP_CFG of port i, with its KIND. -/
def State.spCfg (i : Nat) (s : State) : BitVec 32 := putFld (s.sport i).cfg 30 (BitVec.ofNat 2 (sportKind i).1)

/-- Word j of a slot (Table 18-8). -/
def Slot.reg (sl : Slot) (j : Nat) : BitVec 32 :=
  match j with
  | 0 => sl.src
  | 1 => sl.fmt
  | 2 => sl.roi
  | 3 => sl.place
  | 4 => sl.lim
  | 5 => sl.dmax
  | 6 => sl.ev
  | 7 => sl.chan
  | 8 => sl.alloc
  | 9 => sl.lines
  | 10 => sl.dropOvf
  | 11 => sl.dropRate
  | 12 => sl.dropInc
  | 13 => sl.dropFmt
  | 14 => sl.dropAlloc
  | 15 => sl.copy
  | _ => sl.dropCopy

/-- Sensor ports and stream slots (Table 18-8). -/
def State.ingReg (o : Nat) (s : State) : Option Nat :=
  if o < 0xA00 then
    let i := o / 0x20
    let p := s.sport i
    match o % 0x20 with
    | 0x0 => some (s.spCfg i).toNat
    | 0x8 => some p.ip.toNat
    | 0x10 => some (bit1 p.up ++ (0#15) ++ p.errs : BitVec 32).toNat
    | _ => some p.uncl.toNat
  else if 0x10000 ≤ o ∧ o < 0x14000 ∧ o % 0x100 < 0x88 then some ((s.slot ((o - 0x10000) / 0x100)).reg (o % 0x100 / 8)).toNat
  else none

/-- Crew register block (Table 18-9). -/
def State.crewReg (o : Nat) (s : State) : Option Nat :=
  let c := s.crew
  if !crewRegNamed o then none
  else if o < 0x80 then some (bit1 (s.port (BitVec.ofNat 4 (o / 8))).en ++ (0#31) : BitVec 32).toNat
  else if o < 0x100 then
    let q := s.port (BitVec.ofNat 4 ((o - 0x80) / 8))
    some (bit1 q.up ++ bit1 q.train ++ (0#2) ++ q.nport ++ q.naddr ++ bit1 q.navalid ++ (0#15) : BitVec 32).toNat
  else if o = 0x100 then some ((0#30) ++ bit1 c.bypState ++ bit1 c.bypOpen : BitVec 32).toNat
  else if o = 0x108 then some c.addr.toNat
  else if o = 0x110 then some (bit1 c.remote ++ bit1 c.tmaster ++ (0#2) ++ c.tparent ++ (0#16) ++ c.inc : BitVec 32).toNat
  else if o = 0x118 then some (c.cur ++ bit1 c.stby ++ bit1 c.oldlive ++ (0#26) : BitVec 32).toNat
  else if o = 0x120 then some c.hxmap.toNat
  else if o = 0x128 then some (bit1 c.sync ++ c.tdepth ++ (0#11) ++ c.toffset : BitVec 32).toNat
  else if o < 0x280 then some (s.grpReg (BitVec.ofNat 4 ((o - 0x200) / 8))).toNat
  else if o < 0x1000 then some (Tab.get 0 c.rts ((o - 0x800) / 8)).toNat
  else if o < 0x1800 then some (Tab.get 0 c.rtc ((o - 0x1000) / 8)).toNat
  else some (Tab.get 0 c.cnt (16 * ((o - 0x2000) / 0x80) + o % 0x80 / 8)).toNat

/-- Mesh routers, NIs and dailies (Table 18-10). -/
def State.meshReg (o : Nat) (s : State) : Option Nat :=
  let m := s.mesh
  if o < 0x9000 then
    let r := o / 0x400
    let k := o % 0x400
    let x := m.router r
    if k = 0 then some (bit1 x.cur ++ bit1 x.stby ++ bit1 x.pend ++ bit1 x.oldlive ++ (0#28) : BitVec 32).toNat
    else if k = 0x8 then some x.notgt.toNat
    else if k = 0x10 then some x.expire.toNat
    else if k = 0x18 then some x.epoch.toNat
    else
      match idxOf k 0x100 8 36 with
      | some d => some (Tab.get 0 m.rts (36 * r + d)).toNat
      | none => (idxOf k 0x280 8 36).map (fun d => (Tab.get 0 m.rtc (36 * r + d)).toNat)
  else if 0x10000 ≤ o ∧ o < 0x10900 then
    let e := (o - 0x10000) / 0x20
    if (endpointAt (e / 2) (e % 2)).isNone then none
    else
      match o % 0x20 with
      | 0x0 => some (Tab.get 0x01000010 m.rate e).toNat
      | 0x8 => some (Tab.get 0 m.epOff e).toNat
      | 0x10 => some (Tab.get 0 m.epMalf e).toNat
      | _ => none
  else if o < 0x18000 ∨ 0x18220 ≤ o then none
  else if o < 0x18040 then some (Tab.get 0 m.dlyCtl ((o - 0x18000) / 8)).toNat
  else if o < 0x18080 then some (Tab.get 0 m.dlyCnt ((o - 0x18040) / 8)).toNat
  else if o < 0x18100 then none
  else if o < 0x18200 then
    let p := (o - 0x18100) / 0x20
    some (if o % 0x20 < 0x10 then Tab.get 0 m.dlyMask p else Tab.get 0 m.dlyVal p).toNat
  else
    match o with
    | 0x18200 => some m.dlyBase.toNat
    | 0x18208 => some m.dlySize.toNat
    | 0x18210 => some m.dlyWptr.toNat
    | _ => some m.dlyLost.toNat

/-- Staging banks (Table 18-11). -/
def State.bankReg (o : Nat) (s : State) : Option Nat :=
  let k := s.banks
  if o = 0 then some k.ctl.toNat
  else
    match idxOf o 0x40 8 8 with
    | some n => some (Tab.get 0 k.pin n).toNat
    | none =>
      if o < 0x100 ∨ 0x300 ≤ o then none
      else
        let b := (o - 0x100) / 0x20
        match o % 0x20 with
        | 0x0 => some (Tab.get 0 k.phase b ++ bit1 (k.noSpare b) ++ (0#5) ++ s.patrolSeg b ++ (0#16) : BitVec 32).toNat
        | 0x8 => some (Tab.get 0 k.abort b).toNat
        | 0x10 => some (Tab.get 0 k.coll b).toNat
        | _ => none

/-- Splice fabric registers (Table 18-12). -/
def State.splReg (o : Nat) (s : State) : Option Nat :=
  let x := s.spl
  let sess : BitVec 2 := match x.sess with
    | none => 0
    | some y => if y.byHost then 1 else 2
  match o with
  | 0x0 => some 0
  | 0x8 =>
    some (sess ++ bit1 (match x.sess with | some y => y.full | none => false) ++ (0#5) ++ x.code ++ x.where_ : BitVec 32).toNat
  | 0x10 => some (match x.sess with | some y => (y.next ++ y.num ++ (0#8) : BitVec 32).toNat | none => 0)
  | 0x18 => some x.run.toNat
  | 0x20 => some (bit1 x.capDone ++ (0#31) : BitVec 32).toNat
  | 0x28 => some x.lateAns.toNat
  | _ =>
    if o < 0x100 ∨ 0x300 ≤ o then none
    else
      let q := (o - 0x100) / 0x20
      match o % 0x20 with
      | 0x0 =>
        let n := Tab.get 0 x.qfill q
        some ((x.queue q).mode ++ bit1 (n == 0) ++ bit1 (x.queueFull q) ++ (0#15) ++ BitVec.ofNat 13 n : BitVec 32).toNat
      | 0x8 => some (Tab.get 0 x.qovf q).toNat
      | 0x10 => some (Tab.get 0 x.qunf q).toNat
      | _ => none

/-! ## The map of PF 0 (Table 18-1) -/

/-- The value of the register at offset o, as function f reads it; none where o names none. -/
def State.regValue (f o : Nat) (s : State) : Option Nat :=
  if o % 8 ≠ 0 then none
  else if o < 0x10000 then s.hostReg f o
  else if o < 0x20000 then s.gafReg (o - 0x10000)
  else if o < 0x30000 then s.cueReg (o - 0x20000)
  else if o < 0x40000 then s.keepReg (o - 0x30000)
  else if o < 0x50000 then s.errReg (o - 0x40000)
  else if o < 0x60000 then s.seqReg (o - 0x50000)
  else if o < 0x70000 then s.pairReg (o - 0x60000)
  else if o < 0x80000 then none
  else if o < 0xC0000 then s.ingReg (o - 0x80000)
  else if o < 0xD0000 then s.crewReg (o - 0xC0000)
  else if o < 0x100000 then none
  else if o < 0x180000 then s.meshReg (o - 0x100000)
  else if o < 0x190000 then s.bankReg (o - 0x180000)
  else if o < 0x1A0000 then s.splReg (o - 0x190000)
  else none

/-- The start and width of the register that offset a lies in: a second slot belongs to a 128-bit register. -/
def regSpan (a : Nat) : Nat × Nat :=
  let o := a / 8 * 8
  if 0x118100 ≤ o ∧ o < 0x118200 then (o / 16 * 16, 128)
  else if o = 0x10 ∨ (0x1000 ≤ o ∧ o < 0x2000 ∧ o % 0x40 = 0x10) ∨
      o ∈ [0x128, 0x200, 0x208, 0x10030, 0x20018, 0x20020, 0x20110, 0x30008, 0x40000, 0x40008, 0x40018, 0x118200, 0x190000, 0x190018] then
    (o, 64)
  else (o, 32)

/-- The function of Table 16-3 that serves an offset (R496); none for the device registers, which are always served. -/
def regFunction (o : Nat) : Option Nat :=
  if o < 0x10000 then (if 0x100 ≤ o ∧ o < 0x200 then none else some 9)
  else if o < 0x20000 then some 0
  else if o < 0x20100 then some 4
  else if o < 0x30000 then some 5
  else if o < 0x40000 then some 3
  else if o < 0x50000 then some 2
  else if o < 0x60000 then some 13
  else if o < 0x70000 then some 6
  else if o < 0xC0000 then some 10
  else if o < 0xD0000 then some 6
  else if o < 0x180000 then some 1
  else if o < 0x190000 then some 7
  else if o < 0x200000 then some 5
  else if o < 0x210000 then some 13
  else some 5

/-- The offset is answered DOMAIN_OFF (R436, R496): its function's bit is clear, or, for the micro-sequencer's views, ARR is not ON. -/
def State.regOff (o : Nat) (s : State) : Bool :=
  (match regFunction o with
    | some b => !s.ready b
    | none => false) ||
  ((regFunction o == some 13) && s.dom 0 != 2)

/-- The part after a power-on reset, with what MRAM keeps: the values that a register reads while its function is not ready. -/
def State.asReset (s : State) : State :=
  { State.reset with
    crew := Crew.reset s.crew.inc, err := { Err.reset with wpos := s.err.wpos }, banks := { Banks.reset with retired := s.banks.retired },
    keep := { Keep.reset with lc0 := s.keep.lc0, lc1 := s.keep.lc1, lc2 := s.keep.lc2 } }

/-- What the register reads now: its value, or the reset value while its function is off. -/
def State.regSeen (f o : Nat) (s : State) : Nat := ((if s.regOff o then s.asReset.regValue f o else s.regValue f o).getD 0)

/-- What a read by function f clears: the RC fields of Tables 18-3 to 18-12. -/
def State.regClear (f o : Nat) (s : State) : State :=
  if s.regOff o then s
  else if o = 0x18 then s.upHost (fun h => { h with clapDrop := Tab.set 0 h.clapDrop f 0 })
  else if o = 0x20 then s.upHost (fun h => { h with badAcc := Tab.set 0 h.badAcc f 0 })
  else if o = 0x218 then s.upHost (fun h => { h with evOvf := 0 })
  else if o = 0x10018 then s.upGaf (fun g => { g with tmax := 0x8000, tmaxSensor := 0 })
  else if o = 0x20108 then s.upCue (fun c => { c with hwm := 0 })
  else if o = 0x20118 then s.upCue (fun c => { c with rejCnt := 0 })
  else if o = 0x20120 then s.upCue (fun c => { c with maskedCnt := 0 })
  else if o = 0x40010 then s.upErr (fun e => { e with lost := 0 })
  else if 0x40100 ≤ o ∧ o < 0x40280 then s.upErr (fun e => { e with cnt := Tab.set 0 e.cnt ((o - 0x40100) / 8) 0 })
  else if 0x80000 ≤ o ∧ o < 0x80A00 then
    let i := (o - 0x80000) / 0x20
    if o % 0x20 = 0x10 then s.upSport i (fun p => { p with errs := 0 })
    else if o % 0x20 = 0x18 then s.upSport i (fun p => { p with uncl := 0 })
    else s
  else if 0xC2000 ≤ o ∧ o < 0xC2800 then
    s.upCrew (fun c => { c with cnt := Tab.set 0 c.cnt (16 * ((o - 0xC2000) / 0x80) + o % 0x80 / 8) 0 })
  else if 0x100000 ≤ o ∧ o < 0x109000 then
    let r := (o - 0x100000) / 0x400
    match o % 0x400 with
    | 0x8 => s.upRouter r (fun x => { x with notgt := 0 })
    | 0x10 => s.upRouter r (fun x => { x with expire := 0 })
    | 0x18 => s.upRouter r (fun x => { x with epoch := 0 })
    | _ => s
  else if 0x110000 ≤ o ∧ o < 0x110900 then
    let e := (o - 0x110000) / 0x20
    match o % 0x20 with
    | 0x8 => s.upMesh (fun m => { m with epOff := Tab.set 0 m.epOff e 0 })
    | 0x10 => s.upMesh (fun m => { m with epMalf := Tab.set 0 m.epMalf e 0 })
    | _ => s
  else if 0x118040 ≤ o ∧ o < 0x118080 then s.upMesh (fun m => { m with dlyCnt := Tab.set 0 m.dlyCnt ((o - 0x118040) / 8) 0 })
  else if o = 0x118218 then s.upMesh (fun m => { m with dlyLost := 0 })
  else if 0x180100 ≤ o ∧ o < 0x180300 then
    let b := (o - 0x180100) / 0x20
    match o % 0x20 with
    | 0x8 => s.upBanks (fun k => { k with abort := Tab.set 0 k.abort b 0 })
    | 0x10 => s.upBanks (fun k => { k with coll := Tab.set 0 k.coll b 0 })
    | _ => s
  else if o = 0x190008 then s.upSpl (fun x => { x with code := 0 })
  else if o = 0x190028 then s.upSpl (fun x => { x with lateAns := 0 })
  else if 0x190100 ≤ o ∧ o < 0x190300 then
    let q := (o - 0x190100) / 0x20
    match o % 0x20 with
    | 0x8 => s.upSpl (fun x => { x with qovf := Tab.set 0 x.qovf q 0 })
    | 0x10 => s.upSpl (fun x => { x with qunf := Tab.set 0 x.qunf q 0 })
    | _ => s
  else s

/-! ## BAR0 accesses (R461 to R465) -/

/-- An access without effect: BADACC advances (R461). -/
def State.badAccess (f : Nat) (s : State) : State := s.upHost (fun h => { h with badAcc := Tab.upd 0 h.badAcc f satInc })

/-- An access answered other than OK: LASTSTAT (R465). -/
def State.lastStatus (f : Nat) (v : BitVec 8) (s : State) : State :=
  s.upHost (fun h => { h with lastStat := Tab.set 0 h.lastStat f v })

/-- The latch and held parts of function f, as they stand for the register at o (R463). -/
def State.halfOf (f o : Nat) (s : State) : Half :=
  match Tab.get none s.host.halves f with
  | some h => if h.off = o then h else { off := o, parts := 0, held := 0, latched := none }
  | none => { off := o, parts := 0, held := 0, latched := none }

/-- The latch and held parts after an access; an access elsewhere discards them. -/
def State.setHalf (f : Nat) (h : Option Half) (s : State) : State :=
  s.upHost (fun x => { x with halves := Tab.set none x.halves f h })

/-- Whether function f sees an offset (R470); o lies in a window or names a register. -/
def State.inView (f o : Nat) (s : State) : Bool := (decide (f = 0) || decide (o < 0x28)) && (s.regValue f o).isSome

/-- The script table window (R468) and the Splice window (R469). -/
def inWindow (a : Nat) : Bool := (decide (0x200000 ≤ a) && decide (a < 0x210000)) || (decide (0x1100000 ≤ a) && decide (a < 0x1280000))

/-- Eight bytes of a window from offset a, a multiple of 8; whether the word is uncorrectable. -/
def State.windowWord (a : Nat) (s : State) : BitVec 64 × Bool × State :=
  if a < 0x210000 then
    let x := (a - 0x200000) / 0x40
    let m := a % 0x40
    (if m < 40 then fld (Tab.get 0 s.seq.table x) (8 * m) 64 else 0, false, s)
  else if a < 0x1200000 then (s.spl.readWord (a - 0x1000000), false, s)
  else
    let o := a - 0x1200000
    let r := s.qRead (o / 0x8000) (o % 0x8000 / 8)
    (r.1.setWidth 64, r.2.1, r.2.2)

/-- A read in a window. -/
def State.readWindow (f a : Nat) (wide : Bool) (s : State) : BitVec 64 × State :=
  let s := s.setHalf f none
  if s.regOff a then (0, s.lastStatus f 1)
  else
    let r := s.windowWord (a / 8 * 8)
    if r.2.1 then (0, r.2.2.lastStatus f 4)
    else (if wide then r.1 else if a % 8 = 4 then r.1 >>> 32 else (fld r.1 0 32).setWidth 64, r.2.2)

/-- A BAR0 read by function f at offset a: 4 bytes, or 8 when wide. -/
def State.hostRead (f a : Nat) (wide : Bool) (s : State) : BitVec 64 × State :=
  let n := if wide then 8 else 4
  if a % n ≠ 0 then (0, (s.setHalf f none).badAccess f)
  else if f = 0 ∧ inWindow a then s.readWindow f a wide
  else
    let sp := regSpan a
    let o := sp.1
    if !s.inView f o then (0, (s.setHalf f none).badAccess f)
    else
      let h := s.halfOf f o
      let v : BitVec 128 := BitVec.ofNat 128 (s.regSeen f o)
      let part := a - o
      let s := if s.regOff o then s.lastStatus f 1 else s
      let s := if part = 0 then s.regClear f o else s
      let bits (w : BitVec 128) : BitVec 64 := if wide then fld w (8 * part) 64 else (fld w (8 * part) 32).setWidth 64
      if sp.2 = 32 then (bits v, s.setHalf f (some { h with latched := none }))
      else if part = 0 then
        (bits v, s.setHalf f (some { h with latched := if sp.2 = 64 ∧ wide then none else some v }))
      else (bits (h.latched.getD v), s.setHalf f (some { h with latched := if sp.2 = 64 then none else h.latched }))

/-! ## SMBus reads (R473, Table 18-13) -/

/-- The register and the bits that an SMBus command reads; none for an unlisted command. -/
def smbusReg (cmd : Nat) : Option (Nat × Nat × Nat) :=
  match cmd with
  | 0x00 => some (0x100, 0, 32)
  | 0x01 => some (0x108, 0, 8)
  | 0x02 => some (0x118, 0, 32)
  | 0x03 => some (0x10008, 24, 8)
  | 0x04 => some (0x10010, 0, 32)
  | 0x05 => some (0x10018, 0, 32)
  | 0x06 => some (0x30010, 25, 3)
  | _ => if 0x10 ≤ cmd ∧ cmd < 0x24 then some (0x10100 + 8 * (cmd - 0x10), 0, 16) else none

/-- An SMBus read: it clears nothing; an unlisted command is not acknowledged, nor is any before CLOCK is set (R443). -/
def State.smbusRead (cmd : Nat) (s : State) : State :=
  match (if s.ready 0 then smbusReg cmd else none) with
  | none => s
  | some (o, lo, w) => s.emit (.read 0x41 (BitVec.ofNat 128 (s.regSeen 0 o / 2 ^ lo % 2 ^ w)))

/-! ## BAR4 and configuration space (R227, R228, R250; log entry 58) -/

/-- 32-bit word i of BAR4 of a function: the MSI-X table from offset 0 on, 4 words an entry, and the pending bits from
offset 0x2000 on (R472). -/
def HostIf.msixWord (fn : BitVec 6) (i : Nat) (h : HostIf) : BitVec 32 :=
  let e := Tab.get MsixVec.reset h.msix (256 * fn.toNat + i / 4)
  if i < 1024 then
    match i % 4 with
    | 0 => fld e.addr 0 32
    | 1 => fld e.addr 32 32
    | 2 => e.data
    | _ => (bit1 e.mask).setWidth 32
  else if 2048 ≤ i ∧ i < 2056 then
    BitVec.ofNat 32 ((List.range 32).foldl (fun v n =>
      if Tab.get false h.msixPend (256 * fn.toNat + 32 * (i - 2048) + n) then v + 2 ^ n else v) 0)
  else 0

/-- A read of BAR4: 4 bytes, or 8 when wide; a misaligned one reads 0. -/
def HostIf.msixRead (fn : BitVec 6) (off : Nat) (wide : Bool) (h : HostIf) : BitVec 64 :=
  if off % (if wide then 8 else 4) ≠ 0 then 0
  else if wide then h.msixWord fn (off / 4 + 1) ++ h.msixWord fn (off / 4) else (h.msixWord fn (off / 4)).setWidth 64

/-- A read of configuration space: 0 is Device Control, 4 the MSI-X Message Control (table size 256). -/
def HostIf.configRead (fn : BitVec 6) (off : Nat) (h : HostIf) : BitVec 32 :=
  match off with
  | 0 => BitVec.ofNat 32 (32 * h.mps.toNat + 4096 * h.mrrs.toNat)
  | 4 => BitVec.ofNat 32 (255 + 16384 * (Tab.get 0 h.msixCtl fn.toNat).toNat)
  | _ => 0

/-- TB_NOW_LOW_READ: a read of a register; the one that gives the row its name is the host's 4-byte read of TB_NOW[31:0], which latches
bits [63:32] (R259, R463).  The table has no other row for a read (log entry 33), so reads of the clap area, which return
zero (R237), of BAR4 and of configuration space come here too. -/
def execTbNowLowRead (rd : Reader) (s : State) : Answer :=
  match rd with
  | .host fn off wide =>
    let r := s.hostRead fn.toNat off.toNat wide
    .next (r.2.emit (.read (fn.setWidth 8) (r.1.setWidth 128)))
  | .smbus cmd => .next (s.smbusRead cmd.toNat)
  | .claps fn => .next (s.emit (.read (fn.setWidth 8) 0))
  | .msix fn off wide => .next (s.emit (.read (fn.setWidth 8) ((s.host.msixRead fn off.toNat wide).setWidth 128)))
  | .config fn off => .next (s.emit (.read (fn.setWidth 8) ((s.host.configRead fn off.toNat).setWidth 128)))

end Sys2Proof.Machine
end

