-- ==== Sys2Proof/Machine/RegWrite.lean ====
section
/-!
DEFINITION. Writing the set-up registers (ch. 18): the access types of Table 0-3 with reserved encodings (R11, detector 11), the order
and composition of BAR0 writes (R461 to R466), Envor's writes over the mesh and the rows REGISTER_WRITE, ADM_CQ_ENABLE and MESH_CFGW.
-/

namespace Sys2Proof.Machine

/-- v with its field of width w at lo replaced by old's when the encoding given is reserved (R11). -/
def keepFld {n : Nat} (old v : BitVec n) (lo w : Nat) (bad : Bool) : BitVec n := if bad then putFld v lo (fld old lo w) else v

/-- After a write: REG_RSVD logs it when a field was given a reserved encoding. -/
def State.rsvdIf (bad : Bool) (fn o source : Nat) (s : State) : State := if bad then s.regRsvd fn o source else s

/-! ## Host interface and device control -/

/-- Channel 0's reel descriptors as ADM_SQ and a write of ADM_CQ with EN = 1 set them (R229, Table 8-7). -/
def Chan.enabled (sq cq : BitVec 64) (c : Chan) : Chan :=
  { c with fetch := 0, tail := 0, depth := fld sq 0 4, sbase := fld sq 12 35, write := 0, head := 0, phase := true,
           vec := fld cq 0 8, cbase := fld cq 16 31 }

/-- A write of ADM_CQ; on a mate the descriptors are those of its maintenance reel (R319). -/
def State.writeAdmCq (value : BitVec 64) (s : State) : State :=
  let v := value &&& 0x7FFFFFFF01FF
  let s := s.upHost (fun h => { h with admCq := v })
  if !v.getLsbD 8 then s
  else if s.isMate then s.upPair (fun p => { p with maint := p.maint.enabled s.host.admSq v })
  else s.upChan 0 (Chan.enabled s.host.admSq v)

/-- A depth code that Table 8-3 reserves. -/
def depthBad (d : BitVec 4) : Bool := decide (d.toNat < 4) || decide (12 < d.toNat)

/-- A write of ADM_SQ. -/
def State.writeAdmSq (value : BitVec 64) (fn source : Nat) (s : State) : State :=
  let bad := depthBad (fld value 0 4)
  (s.upHost (fun h => { h with admSq := keepFld h.admSq value 0 4 bad &&& 0x7FFFFFFFF00F })).rsvdIf bad fn 0x200 source

/-- A write of DEV_BOOTCTL: RETRY is accepted while CODE is 0x4, in every state except SCRAPPED (R440); the image comes with BOOT_RETRY
(log entry 34). -/
def State.writeBootCtl (value : BitVec 32) (s : State) : State :=
  if value.getLsbD 0 ∧ s.rst.bootCode = 4 ∧ s.keep.lc ≠ .scrapped then s.upRst (fun r => { r with retry := true }) else s

/-- Table 18-3. -/
def State.writeHostReg (o : Nat) (value : BitVec 64) (fn source : Nat) (s : State) : State :=
  let v : BitVec 32 := value.setWidth 32
  match o with
  | 0x110 => if resetKey v then s.restart true 1 else s
  | 0x120 => s.writeBootCtl v
  | 0x128 => s.upRst (fun r => { r with bootAddr := value &&& 0x7FFFFFFFFFC0 })
  | 0x200 => s.writeAdmSq value fn source
  | 0x208 => s.writeAdmCq value
  | 0x210 => if v.getLsbD 0 ∧ s.dir.run ≠ .held then s.resetDirector else s
  | _ => s

/-! ## Gaffer, timebase, Keeper, errors, pair -/

/-- Table 18-4. -/
def State.writeGafReg (o : Nat) (v : BitVec 32) (fn source : Nat) (s : State) : State :=
  match o with
  | 0x20 =>
    let bad := decide (150 < (fld v 0 8).toNat)
    (s.upGaf (fun g => { g with twarn := if bad then g.twarn else fld v 0 8 })).rsvdIf bad fn 0x10020 source
  | 0x28 => s.writeDomReq v
  | 0x38 => s.upGaf (fun g => { g with domRef := g.domRef &&& ~~~ fld v 0 30 })
  | _ => s

/-- TB_CTL as a write leaves it, and whether a field was given a reserved encoding (Table 9-1). -/
def tbCtl (old v : BitVec 32) : BitVec 32 × Bool :=
  let srcBad := fld v 30 2 == (3 : BitVec 2)
  let roleBad := v.getLsbD 29
  let domBad := v.getLsbD 23
  (keepFld old (keepFld old (keepFld old v 30 2 srcBad) 28 2 roleBad) 16 8 domBad, srcBad || roleBad || domBad)

/-- Table 18-5. -/
def State.writeCueReg (o : Nat) (value : BitVec 64) (fn source : Nat) (s : State) : State :=
  let v : BitVec 32 := value.setWidth 32
  match o with
  | 0x0 =>
    let w := tbCtl s.cue.ctl v
    (s.upCue (fun c => { c with ctl := w.1 })).rsvdIf w.2 fn 0x20000 source
  | 0x8 =>
    let bad := decide (16777216 < v.toInt.natAbs)
    (if bad then s else s.upCue (fun c => { c with adj := v })).rsvdIf bad fn 0x20008 source
  | 0x10 => s.writeTbSlew v
  | 0x18 => s.writeTbStep value
  | 0x28 => if v.getLsbD 30 then s.upCue (fun c => { c with stepRef := false }) else s
  | 0x100 =>
    let bad := decide (8192 < (fld v 0 14).toNat)
    (if bad then s else s.upCue (fun c => { c with warn := fld v 0 14 })).rsvdIf bad fn 0x20100 source
  | _ => s

/-- A write of KP_CMD; one with GO whose OP needs a token waits for it with BUSY set. -/
def State.writeKpCmd (value : BitVec 32) (fn source : Nat) (s : State) : State :=
  let op : BitVec 8 := fld value 0 8
  let bad := decide (5 < op.toNat)
  let s := if bad then s.regRsvd fn 0x30000 source else s.upKeep (fun k => { k with cmdOp := op })
  if !value.msb || s.keep.busy then s
  else
    match s.keep.cmdOp.toNat with
    | 0 => s
    | 3 => s.kpEndToken
    | 5 => s.kpIdentity
    | _ => s.upKeep (fun k => { k with busy := true, kpOp := k.cmdOp })

/-- Keeper registers of Table 18-6. -/
def State.writeKeepReg (o : Nat) (value : BitVec 64) (fn source : Nat) (s : State) : State :=
  match o with
  | 0x0 => s.writeKpCmd (value.setWidth 32) fn source
  | 0x8 => s.upKeep (fun k => { k with kaddr := value &&& 0x7FFFFFFFFFC0 })
  | _ => s

/-- ERR_INJ as a write leaves it. -/
def errInj (old v : BitVec 64) : BitVec 64 := keepFld old (v &&& 0xFEFFFFFFFFFFFFFF) 58 6 (decide (48 ≤ (fld v 58 6).toNat))

/-- Error registers of Table 18-6. -/
def State.writeErrReg (o : Nat) (value : BitVec 64) (fn source : Nat) (s : State) : State :=
  match o with
  | 0x0 => s.upErr (fun e => { e with sum := e.sum &&& ~~~ fld value 0 48 })
  | 0x18 =>
    (s.upErr (fun e => { e with inj := errInj e.inj value })).rsvdIf (decide (48 ≤ (fld value 58 6).toNat)) fn 0x40018 source
  | 0x20 => s.writeInjCmd (value.setWidth 32)
  | 0x28 => if value.getLsbD 30 then s.upErr (fun e => { e with fired := false }) else s
  | _ =>
    match idxOf o 0x300 8 48 with
    | some n => s.upErr (fun e => { e with ctl := Tab.set 0 e.ctl n (fld value 0 2) })
    | none => s

/-- Pair registers of Table 18-7. -/
def State.writePairReg (o : Nat) (v : BitVec 32) (fn source : Nat) (s : State) : State :=
  match o with
  | 0x0 => s.writePairCtl v fn source
  | 0x8 => s.writePairTim v fn source
  | _ => s

/-! ## Sensor ports -/

/-- SP_CFG of a port as a write leaves it, EN apart, and whether a field was given a reserved encoding (Table 7-2); only
CoaXPress links 16-31 have the device role (Table 7-1). -/
def spCfgWrite (port : Nat) (old v : BitVec 32) : BitVec 32 × Bool :=
  let modes := match sportKind port with
    | (0, _) => 2
    | (1, link) => if link < 16 then 0 else 1
    | _ => 1
  let modeBad := decide (modes < (fld v 24 3).toNat)
  let fecBad := fld v 22 2 == (3 : BitVec 2)
  (keepFld old (keepFld old v 24 3 modeBad) 22 2 fecBad &&& 0x27C01FF0, modeBad || fecBad)

/-- A write of SP_CFG of port i: EN = 1 in a domain that is not ON stays 0 (R428); a port that no longer receives is down. -/
def State.writeSpCfg (i : Nat) (v : BitVec 32) (fn source : Nat) (s : State) : State :=
  let w := spCfgWrite i (s.sport i).cfg v
  let b := portDomain i
  let off := v.getLsbD 29 && s.dom b != 2
  let s := if off then s.upGaf (fun g => { g with domRef := setBit g.domRef b true }) else s
  let s := s.upSport i (fun p => { p with cfg := if off then setBit w.1 29 false else w.1 })
  let s := if !(s.sport i).en && (s.sport i).up then s.linkLost i false else s
  s.rsvdIf w.2 fn (0x80000 + 0x20 * i) source

/-- Sensor port registers of Table 18-8. -/
def State.writeIngReg (o : Nat) (v : BitVec 32) (fn source : Nat) (s : State) : State :=
  if 0xA00 ≤ o then s
  else
    match o % 0x20 with
    | 0x0 => s.writeSpCfg (o / 0x20) v fn source
    | 0x8 => s.upSport (o / 0x20) (fun p => { p with ip := v })
    | _ => s

/-! ## Mesh, dailies, banks, Splice -/

/-- DLY_PCTL as a write leaves it, and whether a field was given a reserved encoding (Table 12-7). -/
def dlyPctl (old v : BitVec 32) : BitVec 32 × Bool :=
  let routerBad := decide (36 ≤ (fld v 24 6).toNat)
  let portBad := decide (6 ≤ (fld v 21 3).toNat)
  (keepFld old (keepFld old v 24 6 routerBad) 21 3 portBad &&& 0xFFFE0000, routerBad || portBad)

/-- Dailies registers of Table 18-10, through PF 0 only. -/
def State.writeDlyReg (o : Nat) (value : BitVec 128) (fn source : Nat) (s : State) : State :=
  let v : BitVec 32 := value.setWidth 32
  if o < 0x18040 then
    let p := (o - 0x18000) / 8
    let w := dlyPctl (Tab.get 0 s.mesh.dlyCtl p) v
    (s.upMesh (fun m => { m with dlyCtl := Tab.set 0 m.dlyCtl p w.1 })).rsvdIf w.2 fn (0x100000 + o) source
  else if 0x18100 ≤ o ∧ o < 0x18200 then
    let p := (o - 0x18100) / 0x20
    s.upMesh (fun m => if o % 0x20 < 0x10 then { m with dlyMask := Tab.set 0 m.dlyMask p value }
      else { m with dlyVal := Tab.set 0 m.dlyVal p value })
  else
    match o with
    | 0x18200 => s.upMesh (fun m => { m with dlyBase := value.setWidth 64 &&& 0x7FFFFFFFF000 })
    | 0x18208 =>
      let bad := decide (9 ≤ (fld v 0 4).toNat)
      (s.upMesh (fun m => { m with dlySize := keepFld m.dlySize v 0 4 bad &&& 0x8000000F })).rsvdIf bad fn 0x118208 source
    | _ => s

/-- Table 18-10. -/
def State.writeMeshReg (o : Nat) (value : BitVec 128) (fn source : Nat) (s : State) : State :=
  let v : BitVec 32 := value.setWidth 32
  if o < 0x9000 then
    let r := o / 0x400
    let k := o % 0x400
    if k = 0 then
      let s := if v.getLsbD 0 then s.swapEpoch r else s
      if v.getLsbD 1 then s.releaseEpoch r else s
    else
      match idxOf k 0x100 8 36 with
      | some d => s.writeRts r d v fn source
      | none => s
  else if 0x10000 ≤ o ∧ o < 0x10900 then (if o % 0x20 = 0 then s.writeRate ((o - 0x10000) / 0x20) v fn source else s)
  else if 0x18000 ≤ o ∧ source = 0 then s.writeDlyReg o value fn source
  else s

/-- Table 18-11. -/
def State.writeBankReg (o : Nat) (v : BitVec 32) (fn source : Nat) (s : State) : State :=
  if o = 0 then s.writePatrolCtl v fn source
  else
    match idxOf o 0x40 8 8 with
    | some n => s.writePin n v
    | none => s

/-- Table 18-12: a word for the configuration port, or SPL_CAPCTL. -/
def State.writeSplReg (o : Nat) (value : BitVec 64) (source : Nat) (s : State) : State :=
  match o with
  | 0x0 => s.cfgWords (source == 0) [value]
  | 0x20 => s.writeCapCtl (value.setWidth 32)
  | _ => s

/-! ## The map -/

/-- A whole-register write at BAR0 offset o (R466): its fields by the access types of Table 0-3; source 0 is the host's function fn,
source 1 Envor or an MGT record (R11). -/
def State.writeReg (o : Nat) (value : BitVec 128) (fn source : Nat) (s : State) : State :=
  let q : BitVec 64 := value.setWidth 64
  let v : BitVec 32 := value.setWidth 32
  if o % 8 ≠ 0 ∨ s.regOff o then s
  else if o < 0x10000 then s.writeHostReg o q fn source
  else if o < 0x20000 then s.writeGafReg (o - 0x10000) v fn source
  else if o < 0x30000 then s.writeCueReg (o - 0x20000) q fn source
  else if o < 0x40000 then s.writeKeepReg (o - 0x30000) q fn source
  else if o < 0x50000 then s.writeErrReg (o - 0x40000) q fn source
  else if o < 0x60000 then s
  else if o < 0x70000 then s.writePairReg (o - 0x60000) v fn source
  else if o < 0x80000 then s
  else if o < 0xC0000 then s.writeIngReg (o - 0x80000) v fn source
  else if o < 0xD0000 then s.writeCrewReg (o - 0xC0000) v fn source
  else if o < 0x100000 then s
  else if o < 0x180000 then s.writeMeshReg (o - 0x100000) value fn source
  else if o < 0x190000 then s.writeBankReg (o - 0x180000) v fn source
  else if o < 0x1A0000 then s.writeSplReg (o - 0x190000) q source
  else s

/-- The offset names a register with a field to write. -/
def regWritable (o : Nat) : Bool :=
  o ∈ [0x110, 0x120, 0x128, 0x200, 0x208, 0x210, 0x10020, 0x10028, 0x10038, 0x20000, 0x20008, 0x20010, 0x20018, 0x20028, 0x20100,
    0x30000, 0x30008, 0x40000, 0x40018, 0x40020, 0x40028, 0x60000, 0x60008, 0x118200, 0x118208, 0x180000, 0x190000, 0x190020] ||
  (idxOf o 0x40300 8 48).isSome || (idxOf o 0x80000 0x20 80).isSome || (idxOf o 0x80008 0x20 80).isSome ||
  (decide (0xC0000 ≤ o) && decide (o < 0xD0000) && crewRegWritable (o - 0xC0000)) ||
  (decide (0x100000 ≤ o) && decide (o < 0x109000) &&
    (o % 0x400 == 0 || (idxOf (o % 0x400) 0x100 8 36).isSome)) ||
  (match idxOf o 0x110000 0x20 72 with
    | some e => (endpointAt (e / 2) (e % 2)).isSome
    | none => false) ||
  (idxOf o 0x118000 8 8).isSome || (decide (0x118100 ≤ o) && decide (o < 0x118200) && o % 16 == 0) || (idxOf o 0x180040 8 8).isSome

/-! ## Host writes -/

/-- What the lowest multi-bit field of a register keeps under detector 11's injection: its bits, and whether the value held stands, a
value of 0 acts for it (W1C and key fields), or the whole write has no effect (WO). -/
inductive Lowest where
  | keep (lo w : Nat)
  | zero (lo w : Nat)
  | drop
  deriving DecidableEq, Repr

/-- The lowest multi-bit field that the register at o can be written in; none where it has none. -/
def lowField (o : Nat) : Option Lowest :=
  match o with
  | 0x110 => some (.zero 16 16)
  | 0x128 => some (.keep 6 41)
  | 0x200 => some (.keep 0 4)
  | 0x208 => some (.keep 0 8)
  | 0x10020 => some (.keep 0 8)
  | 0x10028 => some (.keep 0 30)
  | 0x10038 => some (.zero 0 30)
  | 0x20000 => some (.keep 0 16)
  | 0x20008 => some (.keep 0 32)
  | 0x20010 => some .drop
  | 0x20018 => some .drop
  | 0x20100 => some (.keep 0 14)
  | 0x30000 => some (.keep 0 8)
  | 0x30008 => some (.keep 6 41)
  | 0x40000 => some (.zero 0 48)
  | 0x40018 => some (.keep 0 48)
  | 0x60000 => some (.keep 28 2)
  | 0x60008 => some (.keep 0 8)
  | 0x118200 => some (.keep 12 35)
  | 0x118208 => some (.keep 0 4)
  | 0x180000 => some (.keep 0 10)
  | 0x190000 => some .drop
  | 0xC0108 => some (.keep 0 8)
  | 0xC0110 => some (.keep 24 4)
  | 0xC0120 => some (.keep 0 4)
  | _ =>
    if 0x80000 ≤ o ∧ o < 0x80A00 then (if o % 0x20 = 0 then some (.keep 4 4) else some (.keep 0 32))
    else if 0xC0200 ≤ o ∧ o < 0xC0280 then some (.keep 0 16)
    else if 0xC0800 ≤ o ∧ o < 0xC1000 then some (.keep 0 4)
    else if 0x100000 ≤ o ∧ o < 0x109000 then (if o % 0x400 = 0 then none else some (.keep 0 3))
    else if 0x110000 ≤ o ∧ o < 0x110900 then some (.keep 0 8)
    else if 0x118000 ≤ o ∧ o < 0x118040 then some (.keep 17 4)
    else if 0x118100 ≤ o ∧ o < 0x118200 then some (.keep 0 128)
    else if 0x180040 ≤ o ∧ o < 0x180080 then some (.keep 0 8)
    else none

/-- A host write of a whole register takes effect, with detector 11's injection for its function. -/
def State.hostWriteReg (f o : Nat) (value : BitVec 128) (s : State) : State :=
  match (if s.armedFor 11 (fun u _ => u == f) then lowField o else none) with
  | none => s.writeReg o value f 0
  | some l =>
    let old : BitVec 128 := BitVec.ofNat 128 ((s.regValue f o).getD 0)
    let s := s.fired.occur 11 0 (BitVec.ofNat 64 (f + 64 * o)) true
    match l with
    | .keep lo w => s.writeReg o (putFld value lo (fld old lo w)) f 0
    | .zero lo w => s.writeReg o (putFld value lo (0 : BitVec w)) f 0
    | .drop => s

/-- A write in a window: a word of a Splice memory in RAM mode; elsewhere in the Splice window MALFORMED (R469), and without effect in
the script table window (R468). -/
def State.writeWindow (f a : Nat) (wide : Bool) (value : BitVec 64) (s : State) : State :=
  let s := s.setHalf f none
  if a < 0x210000 then s.badAccess f
  else if s.regOff a then s.lastStatus f 1
  else if a < 0x1200000 then s.lastStatus f 3
  else
    let q := (a - 0x1200000) / 0x8000
    let w := (a - 0x1200000) % 0x8000 / 8
    if (s.spl.queue q).mode ≠ 1 then s.lastStatus f 3
    else
      let old := Tab.get 0 s.spl.qmem (4096 * q + w)
      let new : BitVec 36 := if wide then value.setWidth 36
        else if a % 8 = 4 then putFld old 32 (fld value 0 4) else putFld old 0 (fld value 0 32)
      s.qPart q w new wide

/-- The parts of a register that an access of n bytes at byte m covers, as bits, lowest 4 bytes first. -/
def partsOf (m n : Nat) : BitVec 4 := (if n = 8 then (3 : BitVec 4) else 1) <<< (m / 4)

/-- Where a part is set, the 32 bits of a; elsewhere those of b. -/
def mixParts (parts : BitVec 4) (a b : BitVec 128) : BitVec 128 :=
  (List.range 4).foldl (fun v i => putFld v (32 * i) (fld (if parts.getLsbD i then a else b) (32 * i) 32)) 0

/-- A BAR0 write by function f at offset a: 4 bytes, or 8 when wide (R461 to R465). -/
def State.hostWrite (f a : Nat) (wide : Bool) (value : BitVec 64) (s : State) : State :=
  let n := if wide then 8 else 4
  if a % n ≠ 0 then (s.setHalf f none).badAccess f
  else if f = 0 ∧ inWindow a then s.writeWindow f a wide value
  else
    let sp := regSpan a
    let o := sp.1
    if !s.inView f o || !regWritable o then (s.setHalf f none).badAccess f
    else
      let h := s.halfOf f o
      let m := a - o
      let keep : Half := { h with latched := none }
      if sp.2 = 32 ∧ m ≠ 0 then s.setHalf f (some keep)
      else
        let mine : BitVec 128 := (if wide then value.setWidth 128 else (fld value 0 32).setWidth 128) <<< (8 * m)
        let parts := partsOf m n ||| h.parts
        let held := mixParts (partsOf m n) mine h.held
        if m + n < sp.2 / 8 then s.setHalf f (some { keep with parts := parts, held := held })
        else
          let s := s.setHalf f (some { keep with parts := 0, held := 0 })
          if s.regOff o then s.lastStatus f 1
          else s.hostWriteReg f o (mixParts parts held (BitVec.ofNat 128 ((s.regValue f o).getD 0)))

/-! ## The rows -/

/-! ## BAR4 and configuration space (R227, R228, R250; log entry 58) -/

/-- The messages of a function that are pending and may be sent now are sent (R250). -/
def State.msixDue (fn : BitVec 6) (s : State) : State :=
  ((s.host.msixPend.map (·.1)).filter (fun k => k / 256 == fn.toNat)).foldl (fun s k =>
    let vec : BitVec 8 := BitVec.ofNat 8 k
    if s.host.msixOpen fn vec then
      (s.upHost (fun h => { h with msixPend := Tab.set false h.msixPend k false })).post (.msix fn vec)
    else s) s

/-- An entry of the MSI-X table with one of its words written. -/
def MsixVec.write (i : Nat) (v : BitVec 32) (e : MsixVec) : MsixVec :=
  match i with
  | 0 => { e with addr := putFld e.addr 0 (v &&& 0xFFFFFFFC) }
  | 1 => { e with addr := putFld e.addr 32 v }
  | 2 => { e with data := v }
  | _ => { e with mask := v.getLsbD 0 }

/-- A write of one 32-bit word of BAR4; the pending bits are read-only. -/
def State.msixPut (fn : BitVec 6) (i : Nat) (v : BitVec 32) (s : State) : State :=
  if 1024 ≤ i then s
  else s.upHost (fun h => { h with msix := Tab.upd MsixVec.reset h.msix (256 * fn.toNat + i / 4) (MsixVec.write (i % 4) v) })

/-- A write of BAR4: 4 bytes, or 8 when wide; a misaligned one changes nothing. -/
def State.msixWrite (fn : BitVec 6) (off : Nat) (wide : Bool) (v : BitVec 64) (s : State) : State :=
  if off % (if wide then 8 else 4) ≠ 0 then s
  else
    let t := s.msixPut fn (off / 4) (fld v 0 32)
    (if wide then t.msixPut fn (off / 4 + 1) (fld v 32 32) else t).msixDue fn

/-- A write of configuration space: Device Control of PF 0, which holds for every function, or a function's MSI-X Message
Control. -/
def State.configWrite (fn : BitVec 6) (off : Nat) (v : BitVec 32) (s : State) : State :=
  match off with
  | 0 => if fn = 0 then s.upHost (fun h => { h with mps := fld v 5 3, mrrs := fld v 12 3 }) else s
  | 4 => (s.upHost (fun h => { h with msixCtl := Tab.set 0 h.msixCtl fn.toNat (fld v 14 2) })).msixDue fn
  | _ => s

/-- REGISTER_WRITE: by the host through a function in BAR0, BAR4 or configuration space, by Envor over the mesh, or by a record of an MGT frame, which reaches the crew
register block while REMOTE is 1 (R288). -/
def execRegisterWrite (w : Writer) (off : BitVec 25) (wide : Bool) (value : BitVec 64) (s : State) : Answer :=
  let o := off.toNat
  match w with
  | .host fn => .next (s.hostWrite fn.toNat o wide value)
  | .msix fn => .next (s.msixWrite fn o wide value)
  | .config fn => .next (s.configWrite fn o (value.setWidth 32))
  | .envor => .next (s.writeReg o (value.setWidth 128) 0 1)
  | .mgt => .next (if s.crew.remote && decide (0xC0000 ≤ o) && decide (o < 0xD0000) then s.writeReg o (value.setWidth 128) 0 1 else s)

/-- ADM_CQ_ENABLE: a write of ADM_CQ with EN = 1 (R229). -/
def execAdmCqEnable (value : BitVec 64) (s : State) : Answer :=
  .next (if s.ready 9 && value.getLsbD 8 then s.writeAdmCq value else s)

end Sys2Proof.Machine
end

