-- ==== Sys2Proof/Machine/MeshServe.lean ====
section
/-!
DEFINITION. What the mesh's NIs hand over to their endpoints (R326, R333, R337, R340, R343), and the packet commands: a packet of each
type that reaches its destination's NI.
-/

namespace Sys2Proof.Machine

/-! ## CFGW and TRACE -/

/-- A CFGW packet writes the registers of the router it reaches, or of that router's NIs, in whose line it lies: ADDR is their offset in
the set-up map, a register each 8 bytes, and one whose four low bytes are all written takes them (Table 12-2, R339; log entry 49). -/
def State.cfgwWrite (r : Nat) (k : Packet) (s : State) : State :=
  (List.range 8).foldl (fun s w =>
    let o := k.addr / 64 * 64 + 8 * w
    let here := decide (0x100000 + 1024 * r ≤ o ∧ o < 0x100000 + 1024 * (r + 1)) ||
      decide (0x110000 + 64 * r ≤ o ∧ o < 0x110000 + 64 * (r + 1))
    if here && fld k.lanes (8 * w) 4 == (15 : BitVec 4) then
      s.writeReg o ((fld k.onLanes (64 * w) 32 : BitVec 32).setWidth 128) 0 1
    else s) s

/-- The host interface writes a record to the trace reel, or loses it while DLY_SIZE.EN is 0 (R343). -/
def State.traceWrite (bytes : List Byte) (s : State) : State :=
  if s.mesh.dlySize.msb then
    (s.toHost (.hostWrite 0 (s.mesh.dlyBase + 32 * s.mesh.dlyWptr.setWidth 64) bytes)).upMesh (fun m =>
      { m with dlyWptr := BitVec.ofNat 32 ((m.dlyWptr.toNat + 1) % 2 ^ ((fld m.dlySize 0 4).toNat + 7)) })
  else s.upMesh (fun m => { m with dlyLost := satInc m.dlyLost })

/-! ## From the NI to the endpoint -/

/-- What comes of a packet other than a response at the NI of endpoint e. -/
def State.handOver (e : Endpoint) (r l : Nat) (f : Flit) (s : State) : State :=
  let k := f.k
  match k.type with
  | 7 => s.cfgwWrite r k
  | 8 => if e = .host then s.traceWrite (natBytes 32 k.data.toNat) else s
  | 9 => s.bare r l k 0xA 0
  | 10 => s.emit (.mesh (BitVec.ofNat 6 r) (BitVec.ofNat 1 l) k)
  | _ => s.attend e r l k f.bad

/-- The NI of router r, port l, hands the oldest packet of a VN to its endpoint; a request or posted write that it accepted before its
domain was marked closing is still performed (R340). -/
def State.serveHead (r l vn : Nat) (s : State) : State :=
  match endpointAt r l, s.mesh.niVc r l vn with
  | some e, f :: fs => (s.upMesh (fun m => { m with recv := Tab.set [] m.recv (niKey r l vn) fs })).handOver e r l f
  | _, _ => s

/-- One packet of each VN of every NI that holds any (log entry 55 leaves the bank cycle out). -/
def State.serveNis (s : State) : State :=
  (s.mesh.recv.map (·.1)).foldl (fun s key => s.serveHead (key / 16) (key / 8 % 2) (key % 8)) s

/-- All packets of a VN of an NI. -/
def State.drainVc (r l vn : Nat) (s : State) : State :=
  (List.range (s.mesh.niVc r l vn).length).foldl (fun s _ => s.serveHead r l vn) s

/-! ## The packet commands -/

/-- A packet reaches its destination's NI and, after those before it in its VC, the endpoint; an absent one is answered or dropped by
the router that would eject it, for DROUTER above 35 the first it enters (R332). -/
def State.meshArrive (k : Packet) (s : State) : State :=
  if !s.ready 1 then s
  else if 35 < k.dst then s.absentAt (if k.src < 36 then k.src else 0) k
  else
    match endpointAt k.dst k.dport with
    | none => s.absentAt k.dst k
    | some e =>
      if k.type = 5 ∨ k.type = 6 then s.deliverResponse k.dst k.dport k false
      else
        let s := s.drainVc k.dst k.dport (packetVn k.type)
        if k.type < 5 then s.serve k.dst k.dport k false else s.handOver e k.dst k.dport (Flit.of k)

/-- MESH_RD (R344, R348). -/
def execMeshRd (k : Packet) (s : State) : Answer := .next (if k.type = 0 then s.meshArrive k else s)
/-- MESH_WR (R348). -/
def execMeshWr (k : Packet) (s : State) : Answer := .next (if k.type = 1 then s.meshArrive k else s)
/-- MESH_ADD (R347). -/
def execMeshAdd (k : Packet) (s : State) : Answer := .next (if k.type = 2 then s.meshArrive k else s)
/-- MESH_SWAP (R347). -/
def execMeshSwap (k : Packet) (s : State) : Answer := .next (if k.type = 3 then s.meshArrive k else s)
/-- MESH_PWR (R326). -/
def execMeshPwr (k : Packet) (s : State) : Answer := .next (if k.type = 4 then s.meshArrive k else s)
/-- MESH_RDR: the response is accepted in the cycle it arrives (R334). -/
def execMeshRdr (k : Packet) (s : State) : Answer := .next (if k.type = 5 then s.meshArrive k else s)
/-- MESH_WRR (R334). -/
def execMeshWrr (k : Packet) (s : State) : Answer := .next (if k.type = 6 then s.meshArrive k else s)
/-- MESH_CFGW: a CFGW packet writes router or NI configuration (R326, Table 12-2). -/
def execMeshCfgw (k : Packet) (s : State) : Answer := .next (if k.type = 7 then s.meshArrive k else s)
/-- MESH_PING: the destination NI answers PONG (Table 12-2). -/
def execMeshPing (k : Packet) (s : State) : Answer := .next (if k.type = 9 then s.meshArrive k else s)
/-- MESH_PONG. -/
def execMeshPong (k : Packet) (s : State) : Answer := .next (if k.type = 10 then s.meshArrive k else s)
/-- MESH_TRACE: a record reaches the host interface (R343). -/
def execMeshTrace (x : TraceRec) (s : State) : Answer := .next (if s.ready 1 then s.traceWrite (traceBytes x) else s)

end Sys2Proof.Machine
end

