-- ==== Sys2Proof/Machine/Dispatch.lean ====
section
/-!
DEFINITION. The dispatch of a command to its meaning, one arm per row of spec/opcode_table.json.
-/

namespace Sys2Proof.Machine

open Sys2Proof

def exec (i : Instr) (s : State) : Host.Outcome State Fault Refusal :=
  match i with
  | .powerOnReset pin supply => Sys2Proof.Machine.execPowerOnReset pin supply s
  | .warmReset => Sys2Proof.Machine.execWarmReset s
  | .hostDeviceResetRequest fn value => Sys2Proof.Machine.execHostDeviceResetRequest fn value s
  | .smbusResetRequest value pecOk => Sys2Proof.Machine.execSmbusResetRequest value pecOk s
  | .functionLevelReset fn => Sys2Proof.Machine.execFunctionLevelReset fn s
  | .directorReset byHost fn value => Sys2Proof.Machine.execDirectorReset byHost fn value s
  | .readyBitSet bit => Sys2Proof.Machine.execReadyBitSet bit s
  | .bootCopy slotA slotB => Sys2Proof.Machine.execBootCopy slotA slotB s
  | .bootRetry fn value img => Sys2Proof.Machine.execBootRetry fn value img s
  | .registerWrite w off wide value => Sys2Proof.Machine.execRegisterWrite w off wide value s
  | .powerSample total array => Sys2Proof.Machine.execPowerSample total array s
  | .junctionSensorSample temps => Sys2Proof.Machine.execJunctionSensorSample temps s
  | .voltageSettled => Sys2Proof.Machine.execVoltageSettled s
  | .vregFault => Sys2Proof.Machine.execVregFault s
  | .setMode ch => Sys2Proof.Machine.execSetMode ch s
  | .gfDomreqWrite value => Sys2Proof.Machine.execGfDomreqWrite value s
  | .domainGated b => Sys2Proof.Machine.execDomainGated b s
  | .domainOpened b => Sys2Proof.Machine.execDomainOpened b s
  | .microword => Sys2Proof.Machine.execMicroword s
  | .shadowWrite tile => Sys2Proof.Machine.execShadowWrite tile s
  | .orResultReady => Sys2Proof.Machine.execOrResultReady s
  | .tallyResultReady => Sys2Proof.Machine.execTallyResultReady s
  | .entryStart => Sys2Proof.Machine.execEntryStart s
  | .scriptEnd => Sys2Proof.Machine.execScriptEnd s
  | .yieldEffect => Sys2Proof.Machine.execYieldEffect s
  | .planeTransferEnd => Sys2Proof.Machine.execPlaneTransferEnd s
  | .haloStripRead edge => Sys2Proof.Machine.execHaloStripRead edge s
  | .imageCommit => Sys2Proof.Machine.execImageCommit s
  | .imageBusyTimeout => Sys2Proof.Machine.execImageBusyTimeout s
  | .nop z un => Sys2Proof.Machine.execNop z un s
  | .halt z => Sys2Proof.Machine.execHalt z s
  | .wfe z => Sys2Proof.Machine.execWfe z s
  | .wfeWake => Sys2Proof.Machine.execWfeWake s
  | .sev f => Sys2Proof.Machine.execSev f s
  | .wtu f => Sys2Proof.Machine.execWtu f s
  | .wtuComplete => Sys2Proof.Machine.execWtuComplete s
  | .wtuCompareMatch u => Sys2Proof.Machine.execWtuCompareMatch u s
  | .trap n => Sys2Proof.Machine.execTrap n s
  | .interruptEntry => Sys2Proof.Machine.execInterruptEntry s
  | .reti z => Sys2Proof.Machine.execReti z s
  | .rep n => Sys2Proof.Machine.execRep n s
  | .repn n => Sys2Proof.Machine.execRepn n s
  | .ext z lit => Sys2Proof.Machine.execExt z lit s
  | .mfs sr => Sys2Proof.Machine.execMfs sr s
  | .mts sr => Sys2Proof.Machine.execMts sr s
  | .mfsTbl => Sys2Proof.Machine.execMfsTbl s
  | .mtsWtuvh u => Sys2Proof.Machine.execMtsWtuvh u s
  | .fsave => Sys2Proof.Machine.execFsave s
  | .asave => Sys2Proof.Machine.execAsave s
  | .fload => Sys2Proof.Machine.execFload s
  | .aload => Sys2Proof.Machine.execAload s
  | .afloadWrite => Sys2Proof.Machine.execAfloadWrite s
  | .dstateNormalWrite => Sys2Proof.Machine.execDstateNormalWrite s
  | .maintProductReady => Sys2Proof.Machine.execMaintProductReady s
  | .ldaDirect d => Sys2Proof.Machine.execLdaDirect d s
  | .staDirect d => Sys2Proof.Machine.execStaDirect d s
  | .ldi imm => Sys2Proof.Machine.execLdi imm s
  | .ldaIndexed am => Sys2Proof.Machine.execLdaIndexed am s
  | .staIndexed am => Sys2Proof.Machine.execStaIndexed am s
  | .ldx am => Sys2Proof.Machine.execLdx am s
  | .stx am => Sys2Proof.Machine.execStx am s
  | .ldy am => Sys2Proof.Machine.execLdy am s
  | .sty am => Sys2Proof.Machine.execSty am s
  | .addMem am => Sys2Proof.Machine.execAddMem am s
  | .subMem am => Sys2Proof.Machine.execSubMem am s
  | .andMem am => Sys2Proof.Machine.execAndMem am s
  | .orMem am => Sys2Proof.Machine.execOrMem am s
  | .xorMem am => Sys2Proof.Machine.execXorMem am s
  | .mulMem am => Sys2Proof.Machine.execMulMem am s
  | .muluMem am => Sys2Proof.Machine.execMuluMem am s
  | .ldg g am => Sys2Proof.Machine.execLdg g am s
  | .stg g am => Sys2Proof.Machine.execStg g am s
  | .add g => Sys2Proof.Machine.execAdd g s
  | .adc g => Sys2Proof.Machine.execAdc g s
  | .sub g => Sys2Proof.Machine.execSub g s
  | .sbc g => Sys2Proof.Machine.execSbc g s
  | .and g => Sys2Proof.Machine.execAnd g s
  | .or g => Sys2Proof.Machine.execOr g s
  | .xor g => Sys2Proof.Machine.execXor g s
  | .andn g => Sys2Proof.Machine.execAndn g s
  | .mul g => Sys2Proof.Machine.execMul g s
  | .mulu g => Sys2Proof.Machine.execMulu g s
  | .mova g => Sys2Proof.Machine.execMova g s
  | .movg g => Sys2Proof.Machine.execMovg g s
  | .movx g => Sys2Proof.Machine.execMovx g s
  | .getx g => Sys2Proof.Machine.execGetx g s
  | .movy g => Sys2Proof.Machine.execMovy g s
  | .gety g => Sys2Proof.Machine.execGety g s
  | .shl g => Sys2Proof.Machine.execShl g s
  | .shr g => Sys2Proof.Machine.execShr g s
  | .sar g => Sys2Proof.Machine.execSar g s
  | .rol g => Sys2Proof.Machine.execRol g s
  | .xch g => Sys2Proof.Machine.execXch g s
  | .addx g => Sys2Proof.Machine.execAddx g s
  | .addy g => Sys2Proof.Machine.execAddy g s
  | .neg => Sys2Proof.Machine.execNeg s
  | .not => Sys2Proof.Machine.execNot s
  | .clz => Sys2Proof.Machine.execClz s
  | .popc => Sys2Proof.Machine.execPopc s
  | .sext8 => Sys2Proof.Machine.execSext8 s
  | .sext16 => Sys2Proof.Machine.execSext16 s
  | .zext8 => Sys2Proof.Machine.execZext8 s
  | .xferAToX => Sys2Proof.Machine.execXferAToX s
  | .xferXToA => Sys2Proof.Machine.execXferXToA s
  | .xferAToY => Sys2Proof.Machine.execXferAToY s
  | .xferYToA => Sys2Proof.Machine.execXferYToA s
  | .xferAToRc => Sys2Proof.Machine.execXferAToRc s
  | .xferRcToA => Sys2Proof.Machine.execXferRcToA s
  | .xferAToDp => Sys2Proof.Machine.execXferAToDp s
  | .addi imm => Sys2Proof.Machine.execAddi imm s
  | .subi imm => Sys2Proof.Machine.execSubi imm s
  | .andi imm => Sys2Proof.Machine.execAndi imm s
  | .ori imm => Sys2Proof.Machine.execOri imm s
  | .xori imm => Sys2Proof.Machine.execXori imm s
  | .addxi imm => Sys2Proof.Machine.execAddxi imm s
  | .addyi imm => Sys2Proof.Machine.execAddyi imm s
  | .ldxi imm => Sys2Proof.Machine.execLdxi imm s
  | .ceq d r => Sys2Proof.Machine.execCeq d r s
  | .cne d r => Sys2Proof.Machine.execCne d r s
  | .clt d r => Sys2Proof.Machine.execClt d r s
  | .cle d r => Sys2Proof.Machine.execCle d r s
  | .cgt d r => Sys2Proof.Machine.execCgt d r s
  | .cge d r => Sys2Proof.Machine.execCge d r s
  | .cltu d r => Sys2Proof.Machine.execCltu d r s
  | .cleu d r => Sys2Proof.Machine.execCleu d r s
  | .cgtu d r => Sys2Proof.Machine.execCgtu d r s
  | .cgeu d r => Sys2Proof.Machine.execCgeu d r s
  | .cbs d r => Sys2Proof.Machine.execCbs d r s
  | .cbc d r => Sys2Proof.Machine.execCbc d r s
  | .bnz g disp => Sys2Proof.Machine.execBnz g disp s
  | .bz g disp => Sys2Proof.Machine.execBz g disp s
  | .bra disp => Sys2Proof.Machine.execBra disp s
  | .call disp => Sys2Proof.Machine.execCall disp s
  | .jmp z g => Sys2Proof.Machine.execJmp z g s
  | .callIndirect z g => Sys2Proof.Machine.execCallIndirect z g s
  | .ret z => Sys2Proof.Machine.execRet z s
  | .fadd d r => Sys2Proof.Machine.execFadd d r s
  | .fsub d r => Sys2Proof.Machine.execFsub d r s
  | .fmul d r => Sys2Proof.Machine.execFmul d r s
  | .fdiv d r => Sys2Proof.Machine.execFdiv d r s
  | .ffma d r => Sys2Proof.Machine.execFfma d r s
  | .fsqrt d r => Sys2Proof.Machine.execFsqrt d r s
  | .fmov d r => Sys2Proof.Machine.execFmov d r s
  | .fneg d r => Sys2Proof.Machine.execFneg d r s
  | .fabs d r => Sys2Proof.Machine.execFabs d r s
  | .fceq g r => Sys2Proof.Machine.execFceq g r s
  | .fclt g r => Sys2Proof.Machine.execFclt g r s
  | .fcle g r => Sys2Proof.Machine.execFcle g r s
  | .fcun g r => Sys2Proof.Machine.execFcun g r s
  | .fin f => Sys2Proof.Machine.execFin f s
  | .fout f => Sys2Proof.Machine.execFout f s
  | .fcvti f => Sys2Proof.Machine.execFcvti f s
  | .fcvtu f => Sys2Proof.Machine.execFcvtu f s
  | .ftoi f => Sys2Proof.Machine.execFtoi f s
  | .ftou f => Sys2Proof.Machine.execFtou f s
  | .dadd z g => Sys2Proof.Machine.execDadd z g s
  | .dsub z g => Sys2Proof.Machine.execDsub z g s
  | .divu z g => Sys2Proof.Machine.execDivu z g s
  | .divs z g => Sys2Proof.Machine.execDivs z g s
  | .scriptCall idx => Sys2Proof.Machine.execScriptCall idx s
  | .callQueueResume => Sys2Proof.Machine.execCallQueueResume s
  | .abar z => Sys2Proof.Machine.execAbar z s
  | .abarRetire => Sys2Proof.Machine.execAbarRetire s
  | .rdor z g => Sys2Proof.Machine.execRdor z g s
  | .rdorComplete => Sys2Proof.Machine.execRdorComplete s
  | .rdtally z g => Sys2Proof.Machine.execRdtally z g s
  | .rdtallyComplete => Sys2Proof.Machine.execRdtallyComplete s
  | .mset z => Sys2Proof.Machine.execMset z s
  | .mclr z => Sys2Proof.Machine.execMclr z s
  | .minv z => Sys2Proof.Machine.execMinv z s
  | .mload z g => Sys2Proof.Machine.execMload z g s
  | .halo edge slot z => Sys2Proof.Machine.execHalo edge slot z s
  | .ard sel g => Sys2Proof.Machine.execArd sel g s
  | .awr sel g => Sys2Proof.Machine.execAwr sel g s
  | .yield z => Sys2Proof.Machine.execYield z s
  | .unpark z => Sys2Proof.Machine.execUnpark z s
  | .unparkResume => Sys2Proof.Machine.execUnparkResume s
  | .pload z g => Sys2Proof.Machine.execPload z g s
  | .pstore z g => Sys2Proof.Machine.execPstore z g s
  | .spliceOpcode op snd rcv => Sys2Proof.Machine.execSpliceOpcode op snd rcv s
  | .opcodeAnswer d0 d1 => Sys2Proof.Machine.execOpcodeAnswer d0 d1 s
  | .opcodeWithdrawal => Sys2Proof.Machine.execOpcodeWithdrawal s
  | .spliceNoanswer => Sys2Proof.Machine.execSpliceNoanswer s
  | .spliceEventOut n => Sys2Proof.Machine.execSpliceEventOut n s
  | .cuetime snd rcv => Sys2Proof.Machine.execCuetime snd rcv s
  | .cuepost snd rcv => Sys2Proof.Machine.execCuepost snd rcv s
  | .cuepostResume => Sys2Proof.Machine.execCuepostResume s
  | .cueEntry => Sys2Proof.Machine.execCueEntry s
  | .cueEdgeDue => Sys2Proof.Machine.execCueEdgeDue s
  | .tbStepWrite value => Sys2Proof.Machine.execTbStepWrite value s
  | .tbSlewWrite value => Sys2Proof.Machine.execTbSlewWrite value s
  | .slewComplete => Sys2Proof.Machine.execSlewComplete s
  | .tbNowLowRead rd => Sys2Proof.Machine.execTbNowLowRead rd s
  | .ptpEventMessage port domain fcsOk => Sys2Proof.Machine.execPtpEventMessage port domain fcsOk s
  | .csi2LongPacket port vc dt ecc crcOk pixels => Sys2Proof.Machine.execCsi2LongPacket port vc dt ecc crcOk pixels s
  | .csi2FrameStart port vc ecc => Sys2Proof.Machine.execCsi2FrameStart port vc ecc s
  | .csi2FrameEnd port vc ecc => Sys2Proof.Machine.execCsi2FrameEnd port vc ecc s
  | .dphyDeskewBurst port => Sys2Proof.Machine.execDphyDeskewBurst port s
  | .dphyAlignmentLoss port vc dt => Sys2Proof.Machine.execDphyAlignmentLoss port vc dt s
  | .cxpImageHeader link stream tag pfnc tap1x1y lineLen => Sys2Proof.Machine.execCxpImageHeader link stream tag pfnc tap1x1y lineLen s
  | .cxpStreamPacket link stream tag crcOk pixels => Sys2Proof.Machine.execCxpStreamPacket link stream tag crcOk pixels s
  | .cxpControlPacket link discovery bytes => Sys2Proof.Machine.execCxpControlPacket link discovery bytes s
  | .cxpTriggerEdge link => Sys2Proof.Machine.execCxpTriggerEdge link s
  | .cxpTriggerReceived link => Sys2Proof.Machine.execCxpTriggerReceived link s
  | .gvspLeader port ip udp block image pfnc width height fcsOk => Sys2Proof.Machine.execGvspLeader port ip udp block image pfnc width height fcsOk s
  | .gvspPayload port ip udp block first pixels len fcsOk => Sys2Proof.Machine.execGvspPayload port ip udp block first pixels len fcsOk s
  | .gvspTrailer port ip udp block fcsOk => Sys2Proof.Machine.execGvspTrailer port ip udp block fcsOk s
  | .arpRequest port ip bytes fcsOk => Sys2Proof.Machine.execArpRequest port ip bytes fcsOk s
  | .sensorLink port => Sys2Proof.Machine.execSensorLink port s
  | .lineComplete slot => Sys2Proof.Machine.execLineComplete slot s
  | .clap fn off len payload => Sys2Proof.Machine.execClap fn off len payload s
  | .admCqEnable value => Sys2Proof.Machine.execAdmCqEnable value s
  | .slateFetch ch slate => Sys2Proof.Machine.execSlateFetch ch slate s
  | .slateTimeout ch => Sys2Proof.Machine.execSlateTimeout ch s
  | .dmaReadCompletion ch status poisoned data => Sys2Proof.Machine.execDmaReadCompletion ch status poisoned data s
  | .dmaCompletionTimeout ch => Sys2Proof.Machine.execDmaCompletionTimeout ch s
  | .pcieLinkdown ltssm => Sys2Proof.Machine.execPcieLinkdown ltssm s
  | .pcieLinkReturn => Sys2Proof.Machine.execPcieLinkReturn s
  | .eventRecordWrite => Sys2Proof.Machine.execEventRecordWrite s
  | .slateNop ch => Sys2Proof.Machine.execSlateNop ch s
  | .start ch => Sys2Proof.Machine.execStart ch s
  | .stop ch => Sys2Proof.Machine.execStop ch s
  | .stopComplete ch => Sys2Proof.Machine.execStopComplete ch s
  | .msg ch => Sys2Proof.Machine.execMsg ch s
  | .msgAnswer ch => Sys2Proof.Machine.execMsgAnswer ch s
  | .put ch => Sys2Proof.Machine.execPut ch s
  | .get ch => Sys2Proof.Machine.execGet ch s
  | .mark ch => Sys2Proof.Machine.execMark ch s
  | .createChannel ch => Sys2Proof.Machine.execCreateChannel ch s
  | .destroyChannel ch => Sys2Proof.Machine.execDestroyChannel ch s
  | .drainEnd ch idle => Sys2Proof.Machine.execDrainEnd ch idle s
  | .loadRecipe ch img => Sys2Proof.Machine.execLoadRecipe ch img s
  | .unbind ch => Sys2Proof.Machine.execUnbind ch s
  | .bindInput ch => Sys2Proof.Machine.execBindInput ch s
  | .bindOutput ch => Sys2Proof.Machine.execBindOutput ch s
  | .crewScan ch => Sys2Proof.Machine.execCrewScan ch s
  | .scanCollectEnd => Sys2Proof.Machine.execScanCollectEnd s
  | .attest ch => Sys2Proof.Machine.execAttest ch s
  | .loadPatch ch img => Sys2Proof.Machine.execLoadPatch ch img s
  | .reloadVerify ch => Sys2Proof.Machine.execReloadVerify ch s
  | .logRead ch => Sys2Proof.Machine.execLogRead ch s
  | .channelInfo ch => Sys2Proof.Machine.execChannelInfo ch s
  | .setRange ch => Sys2Proof.Machine.execSetRange ch s
  | .mgmtTx ch bytes => Sys2Proof.Machine.execMgmtTx ch bytes s
  | .mgmtRx ch => Sys2Proof.Machine.execMgmtRx ch s
  | .mgmtCtl ch => Sys2Proof.Machine.execMgmtCtl ch s
  | .crewLinkUp p nport naddr navalid ident => Sys2Proof.Machine.execCrewLinkUp p nport naddr navalid ident s
  | .crewPortDown p => Sys2Proof.Machine.execCrewPortDown p s
  | .crewBypWrite value => Sys2Proof.Machine.execCrewBypWrite value s
  | .bypassSettled => Sys2Proof.Machine.execBypassSettled s
  | .crewMsgFrame p w => Sys2Proof.Machine.execCrewMsgFrame p w s
  | .haloFrame p w => Sys2Proof.Machine.execHaloFrame p w s
  | .redUpFrame p w => Sys2Proof.Machine.execRedUpFrame p w s
  | .redDnFrame p w => Sys2Proof.Machine.execRedDnFrame p w s
  | .timeFrame p w => Sys2Proof.Machine.execTimeFrame p w s
  | .crewSevFrame p w => Sys2Proof.Machine.execCrewSevFrame p w s
  | .scanFrame p w => Sys2Proof.Machine.execScanFrame p w s
  | .identFrame p w => Sys2Proof.Machine.execIdentFrame p w s
  | .mgtFrame p w => Sys2Proof.Machine.execMgtFrame p w s
  | .mgtrFrame p w => Sys2Proof.Machine.execMgtrFrame p w s
  | .linkAck p lseq crcOk => Sys2Proof.Machine.execLinkAck p lseq crcOk s
  | .linkNak p lseq crcOk => Sys2Proof.Machine.execLinkNak p lseq crcOk s
  | .crewCreditReturn p pool total crcOk => Sys2Proof.Machine.execCrewCreditReturn p pool total crcOk s
  | .delayRequest p crcOk => Sys2Proof.Machine.execDelayRequest p crcOk s
  | .delayResponse p peer crcOk => Sys2Proof.Machine.execDelayResponse p peer crcOk s
  | .delayMeasure => Sys2Proof.Machine.execDelayMeasure s
  | .timeFrameSend => Sys2Proof.Machine.execTimeFrameSend s
  | .replayTimeout p => Sys2Proof.Machine.execReplayTimeout p s
  | .sendSlotGo p slot => Sys2Proof.Machine.execSendSlotGo p slot s
  | .crewRtsWrite d value => Sys2Proof.Machine.execCrewRtsWrite d value s
  | .crewEpochSwap => Sys2Proof.Machine.execCrewEpochSwap s
  | .crewEpochRelease => Sys2Proof.Machine.execCrewEpochRelease s
  | .crewOldliveClear => Sys2Proof.Machine.execCrewOldliveClear s
  | .hxsend snd rcv => Sys2Proof.Machine.execHxsend snd rcv s
  | .hxdone snd rcv => Sys2Proof.Machine.execHxdone snd rcv s
  | .crarm snd rcv => Sys2Proof.Machine.execCrarm snd rcv s
  | .crread snd rcv => Sys2Proof.Machine.execCrread snd rcv s
  | .crGrpWrite g value => Sys2Proof.Machine.execCrGrpWrite g value s
  | .crewContribution g => Sys2Proof.Machine.execCrewContribution g s
  | .crewRoundTimeout g => Sys2Proof.Machine.execCrewRoundTimeout g s
  | .pairJoin ctl => Sys2Proof.Machine.execPairJoin ctl s
  | .helloFrame h link => Sys2Proof.Machine.execHelloFrame h link s
  | .pairTsReached => Sys2Proof.Machine.execPairTsReached s
  | .orderFrame o link => Sys2Proof.Machine.execOrderFrame o link s
  | .orderedInputDelivery => Sys2Proof.Machine.execOrderedInputDelivery s
  | .pairTimeAssign => Sys2Proof.Machine.execPairTimeAssign s
  | .noticeFrame n link => Sys2Proof.Machine.execNoticeFrame n link s
  | .linewaitExpiry n => Sys2Proof.Machine.execLinewaitExpiry n s
  | .digestFrame kind number digest link => Sys2Proof.Machine.execDigestFrame kind number digest link s
  | .cmptmoExpiry kind number => Sys2Proof.Machine.execCmptmoExpiry kind number s
  | .verdictFrame cause self link => Sys2Proof.Machine.execVerdictFrame cause self link s
  | .verdictTimeout => Sys2Proof.Machine.execVerdictTimeout s
  | .heartbeatSilent => Sys2Proof.Machine.execHeartbeatSilent s
  | .pairHbToggle hbI => Sys2Proof.Machine.execPairHbToggle hbI s
  | .pairSplit ctl => Sys2Proof.Machine.execPairSplit ctl s
  | .meshRd k => Sys2Proof.Machine.execMeshRd k s
  | .meshWr k => Sys2Proof.Machine.execMeshWr k s
  | .meshAdd k => Sys2Proof.Machine.execMeshAdd k s
  | .meshSwap k => Sys2Proof.Machine.execMeshSwap k s
  | .meshPwr k => Sys2Proof.Machine.execMeshPwr k s
  | .meshRdr k => Sys2Proof.Machine.execMeshRdr k s
  | .meshWrr k => Sys2Proof.Machine.execMeshWrr k s
  | .meshCfgw k => Sys2Proof.Machine.execMeshCfgw k s
  | .meshTrace rec => Sys2Proof.Machine.execMeshTrace rec s
  | .meshPing k => Sys2Proof.Machine.execMeshPing k s
  | .meshPong k => Sys2Proof.Machine.execMeshPong k s
  | .packetForward r port vn inj => Sys2Proof.Machine.execPacketForward r port vn inj s
  | .mrRtsWrite r d value => Sys2Proof.Machine.execMrRtsWrite r d value s
  | .mrEpochSwap r => Sys2Proof.Machine.execMrEpochSwap r s
  | .mrSwapComplete r => Sys2Proof.Machine.execMrSwapComplete r s
  | .mrEpochRelease r => Sys2Proof.Machine.execMrEpochRelease r s
  | .mrOldliveClear => Sys2Proof.Machine.execMrOldliveClear s
  | .mrRateEnable e value => Sys2Proof.Machine.execMrRateEnable e value s
  | .patrolBorrow b => Sys2Proof.Machine.execPatrolBorrow b s
  | .patrolCopyDone b => Sys2Proof.Machine.execPatrolCopyDone b s
  | .patrolTestDone b mismatch => Sys2Proof.Machine.execPatrolTestDone b mismatch s
  | .sbPinWrite n value => Sys2Proof.Machine.execSbPinWrite n value s
  | .splCfginWord byHost w => Sys2Proof.Machine.execSplCfginWord byHost w s
  | .cfgBegin byHost ws => Sys2Proof.Machine.execCfgBegin byHost ws s
  | .cfgBlock byHost ws => Sys2Proof.Machine.execCfgBlock byHost ws s
  | .cfgRoute byHost ws => Sys2Proof.Machine.execCfgRoute byHost ws s
  | .cfgIocell byHost ws => Sys2Proof.Machine.execCfgIocell byHost ws s
  | .cfgQueue byHost ws => Sys2Proof.Machine.execCfgQueue byHost ws s
  | .cfgHardout byHost ws => Sys2Proof.Machine.execCfgHardout byHost ws s
  | .cfgSafe byHost ws => Sys2Proof.Machine.execCfgSafe byHost ws s
  | .cfgStart byHost ws => Sys2Proof.Machine.execCfgStart byHost ws s
  | .cfgAbort byHost ws => Sys2Proof.Machine.execCfgAbort byHost ws s
  | .cramCheck b mismatch => Sys2Proof.Machine.execCramCheck b mismatch s
  | .spliceCapture => Sys2Proof.Machine.execSpliceCapture s
  | .splCapctlGo value => Sys2Proof.Machine.execSplCapctlGo value s
  | .queuePush q wd pop => Sys2Proof.Machine.execQueuePush q wd pop s
  | .queuePop q => Sys2Proof.Machine.execQueuePop q s
  | .queueRamRead q addr => Sys2Proof.Machine.execQueueRamRead q addr s
  | .queueRamWrite q addr wd => Sys2Proof.Machine.execQueueRamWrite q addr wd s
  | .queueDelayPush q wd => Sys2Proof.Machine.execQueueDelayPush q wd s
  | .kpTransition tok => Sys2Proof.Machine.execKpTransition tok s
  | .kpMtoken tok => Sys2Proof.Machine.execKpMtoken tok s
  | .kpMtokenEnd => Sys2Proof.Machine.execKpMtokenEnd s
  | .mtokenExpiry => Sys2Proof.Machine.execMtokenExpiry s
  | .kpDomainRelease tok => Sys2Proof.Machine.execKpDomainRelease tok s
  | .kpIdentity => Sys2Proof.Machine.execKpIdentity s
  | .tamper src => Sys2Proof.Machine.execTamper src s
  | .vbatTamper src => Sys2Proof.Machine.execVbatTamper src s
  | .spdmGetVersion => Sys2Proof.Machine.execSpdmGetVersion s
  | .spdmGetCapabilities => Sys2Proof.Machine.execSpdmGetCapabilities s
  | .spdmNegotiateAlgorithms supported => Sys2Proof.Machine.execSpdmNegotiateAlgorithms supported s
  | .spdmGetDigests => Sys2Proof.Machine.execSpdmGetDigests s
  | .spdmGetCertificate slot off len => Sys2Proof.Machine.execSpdmGetCertificate slot off len s
  | .spdmChallenge slot nonce => Sys2Proof.Machine.execSpdmChallenge slot nonce s
  | .spdmGetMeasurements index sign nonce => Sys2Proof.Machine.execSpdmGetMeasurements index sign nonce s
  | .spdmKeyExchange slot reqSession => Sys2Proof.Machine.execSpdmKeyExchange slot reqSession s
  | .spdmFinish sid macOk => Sys2Proof.Machine.execSpdmFinish sid macOk s
  | .spdmHeartbeat sid => Sys2Proof.Machine.execSpdmHeartbeat sid s
  | .spdmKeyUpdate sid => Sys2Proof.Machine.execSpdmKeyUpdate sid s
  | .spdmEndSession sid => Sys2Proof.Machine.execSpdmEndSession sid s
  | .ideKmRequest sid op stream sub keySet => Sys2Proof.Machine.execIdeKmRequest sid op stream sub keySet s
  | .jtagExtest cells => Sys2Proof.Machine.execJtagExtest cells s
  | .jtagIdcode => Sys2Proof.Machine.execJtagIdcode s
  | .jtagSamplePreload cells => Sys2Proof.Machine.execJtagSamplePreload cells s
  | .jtagIntest cells => Sys2Proof.Machine.execJtagIntest cells s
  | .jtagBypass code => Sys2Proof.Machine.execJtagBypass code s
  | .jtagDebug code => Sys2Proof.Machine.execJtagDebug code s
  | .errInjArm value => Sys2Proof.Machine.execErrInjArm value s
  | .errInjDisarm value => Sys2Proof.Machine.execErrInjDisarm value s
  | .errorQueueFlush => Sys2Proof.Machine.execErrorQueueFlush s
  | .linkPll pll group => Sys2Proof.Machine.execLinkPll pll group s
  | .ethernetUnmatchedFrame port bytes fcsOk => Sys2Proof.Machine.execEthernetUnmatchedFrame port bytes fcsOk s
  | .sensorLinkUp port fast => Sys2Proof.Machine.execSensorLinkUp port fast s
  | .linkPllLock pll group => Sys2Proof.Machine.execLinkPllLock pll group s
  | .crewSyncClear => Sys2Proof.Machine.execCrewSyncClear s
  | .pairJoinTimeout => Sys2Proof.Machine.execPairJoinTimeout s
  | .vbatLost => Sys2Proof.Machine.execVbatLost s
  | .lineCopyComplete slot => Sys2Proof.Machine.execLineCopyComplete slot s

end Sys2Proof.Machine
end

