-- ==== Sys2Proof/Machine/Tick.lean ====
section
/-!
DEFINITION. One tick of the device: what happens at the passing of time alone (log entry 7).
-/

namespace Sys2Proof.Machine

/-- What a tick adds to a slot's token bucket: LRATE x 1,000 lines per second for 5 ns, at most two lines (R222). -/
def Slot.refill (sl : Slot) : Slot := { sl with tokens := min 2000000 (sl.tokens + 5 * ctLrate sl.lim) }

/-- What six mesh cycles (1.2 GHz, 5 ns) add to the buckets of the regulators that are on (R336). -/
def Mesh.refill (m : Mesh) : Mesh :=
  { m with bucket := m.rate.foldl (fun t e =>
      if e.2.msb then
        Tab.set 0 t e.1 (min (Tab.get 0 t e.1 + 6 * (fld e.2 16 9).toNat) (256 * (fld e.2 0 8).toNat))
      else t) m.bucket }

/-- 5 ns pass: the timebase once it counts (Table 16-3), the token buckets and regulators, three Director cycles (600 MHz) while the
Director waits or stands still. -/
def State.elapse (s : State) : State :=
  { s with cue := if s.ready 4 then s.cue.tick else s.cue, now := s.now + 5, mesh := s.mesh.refill,
           dir := if s.issuing then s.dir else { s.dir with cyc := s.dir.cyc + 3 },
           ing := { s.ing with slots := s.ing.slots.map (fun (e : Nat × Slot) => (e.1, e.2.refill)) } }

/-- What the blocks do in a tick: the crew ports, groups and scans, the NIs, and the Splice cycles, three in every two ticks. -/
def State.work (newUs : Bool) (s : State) : State :=
  let s := s.crewTick.grpTick.scanTick.serveNis.spliceCycle newUs
  if s.now / 5 % 2 = 0 then s.spliceCycle false else s

/-- One timebase tick of 5 ns.  Nothing that the blocks do in it moves time, the timebase or the queue. -/
def State.tick (s : State) : State :=
  let t := s.elapse
  let u := t.work (decide (s.tbNow.toNat / 1000 ≠ t.tbNow.toNat / 1000))
  { u with now := t.now, pending := t.pending,
           cue := { u.cue with tb := t.cue.tb, slew := t.cue.slew, slewTick := t.cue.slewTick } }

end Sys2Proof.Machine
end

