-- ==== Sys2Proof/Safety.lean ====
section
/-!
DEFINITION. What counts as a safe run: every step answers a next state, the memories stay in their canonical form, and the status codes
stay among those that the spec says occur.
-/

namespace Sys2Proof.Machine

/-- Every memory of the device is in its canonical form: array planes, data and program memory, patch RAM, staging bank bytes, MRAM
words and Splice memories. -/
def Memory.wf (s : State) : Bool :=
  Tab.wf 0 s.arr.mem && Tab.wf 0 s.sys.dmem && Tab.wf 0 s.sys.pmem && Tab.wf 0 s.seq.cs && Tab.wf 0 s.banks.mem &&
    Tab.wf 0 s.banks.mram && Tab.wf 0 s.spl.qmem

/-- The encodings that Tables 15-5, 16-6 and 17-4 say never occur, and the reserved detector number that R11 keeps out of ERR_INJ. -/
def State.legalCodes (s : State) : Prop :=
  s.gaf.env ≠ 3 ∧ s.gaf.limit ≠ 3 ∧ s.rst.bootCode.toNat ≤ 4 ∧ (s.err.code = 0 ∨ s.err.code = 7) ∧ (fld s.err.inj 58 6 : BitVec 6).toNat < 48

/-- The blocks that State is made of. -/
inductive Block where
  | arr | seq | dir | sys | ing | host | cue | crew | pair | mesh | banks | spl | keep | gaf | rst | err | now | out | free | pending
  deriving DecidableEq, Repr

/-- A block holds in t what it holds in s. -/
def Block.same (b : Block) (s t : State) : Prop :=
  match b with
  | .arr => t.arr = s.arr
  | .seq => t.seq = s.seq
  | .dir => t.dir = s.dir
  | .sys => t.sys = s.sys
  | .ing => t.ing = s.ing
  | .host => t.host = s.host
  | .cue => t.cue = s.cue
  | .crew => t.crew = s.crew
  | .pair => t.pair = s.pair
  | .mesh => t.mesh = s.mesh
  | .banks => t.banks = s.banks
  | .spl => t.spl = s.spl
  | .keep => t.keep = s.keep
  | .gaf => t.gaf = s.gaf
  | .rst => t.rst = s.rst
  | .err => t.err = s.err
  | .now => t.now = s.now
  | .out => t.out = s.out
  | .free => t.free = s.free
  | .pending => t.pending = s.pending

/-- Every block but those named is unchanged: the frame of a command. -/
def State.only (bs : List Block) (s t : State) : Prop := ∀ b, b ∉ bs → b.same s t

/-- The Director issues the word at its PC and nothing comes before the word's own checks: it runs, it does not hold, the word is
correctable, no injection of detectors 8 and 9 waits for this fetch, and no signature of retired instructions is compared (Table 11-1). -/
def State.issues (s : State) : Prop :=
  s.dir.run = .running ∧ s.dir.hold = .none ∧ Tab.get false s.sys.ppoison s.dir.pc.toNat = false ∧
    s.armedFor 8 (fun _ x => x == s.dir.pc.toNat) = false ∧ s.armedFor 9 (fun _ x => x == s.dir.pc.toNat) = false ∧
    (s.paired && s.pair.ctl.getLsbD 26) = false

/-- It issues a word that no REP, REPN or EXT prefixes. -/
def State.issuesAlone (s : State) : Prop := s.issues ∧ s.sys.rep = none ∧ s.sys.ext = none

/-- It issues a word that no REP or REPN prefixes, alone or as an EXT pair. -/
def State.issuesOnce (s : State) : Prop := s.issues ∧ s.sys.rep = none

/-- Registers d as the end of an instruction leaves them in s: the load issued before it is written over d (R132), the PC stands at
next, n Director cycles and one for an EXT word have passed. -/
def State.endDir (d : Dir) (n : Nat) (next : BitVec 18) (s : State) : Dir :=
  let d' := match s.sys.ld with
    | some p => d.setLoaded p
    | none => d
  { d' with pc := next, cyc := s.dir.cyc + n + (if s.sys.ext.isSome then 1 else 0) }

/-- The end of an instruction that leaves the registers d and transfers no control: nothing outside the Director changes. -/
def State.completed (d : Dir) (n : Nat) (s : State) : State :=
  { s with dir := s.endDir d n (s.dir.pc + 1), sys := { s.sys with ld := none, ext := none } }

/-- The end of an instruction that transfers control to next, in one more cycle. -/
def State.jumped (d : Dir) (n : Nat) (next : BitVec 18) (s : State) : State :=
  { s with dir := s.endDir d (n + 1) next, sys := { s.sys with ld := none, ext := none } }

/-- Data memory answers a read of a: a region of the code in force grants it, the word is correctable, and no injection of detectors 6 and
7 waits for it (R185). -/
def State.readable (a : BitVec 18) (s : State) : Prop :=
  s.mayAccess false a = true ∧ Tab.get false s.sys.dpoison a.toNat = false ∧ s.armedFor 6 (fun _ x => x == a.toNat) = false ∧
    s.armedFor 7 (fun _ x => x == a.toNat) = false

/-- A load issued: its value waits for the end of the next instruction (R132); register 1 A, 2 X, 3 Y. -/
def State.loading (reg : BitVec 2) (v : Word) (s : State) : State := { s with sys := { s.sys with ld := some (reg, v) } }

/-- What a power-on and a warm reset of s leave alike in t (Table 0-4): every function at its reset values, MRAM's records as they were. -/
def State.restarted (s t : State) : Prop :=
  t.arr = Arr.reset ∧ t.seq = Seq.reset ∧ t.dir = Dir.reset ∧ t.ing = Ing.reset ∧ t.host = HostIf.reset ∧ t.cue = Cue.reset ∧
    t.pair = Pair.reset ∧ t.mesh = Mesh.reset ∧ t.gaf = Gaf.reset ∧ t.spl = Splice.reset s.spl.safeMram ∧ t.keep.lc = s.keep.lc ∧
    t.keep.log = s.keep.log ∧ t.keep.counter = s.keep.counter ∧ t.keep.floors = s.keep.floors ∧ t.keep.mtoken = none ∧
    t.banks.mram = s.banks.mram ∧ t.err.log = s.err.log ∧ t.err.wpos = s.err.wpos ∧ t.err.armed = none ∧ t.crew.inc = s.crew.inc + 1 ∧
    t.pending = s.pending

/-- The slate of e is in execution on channel ch of a device in Solo mode that is ready, with its link up and no injection armed. -/
def State.executes (ch : BitVec 18) (e : Exec) (s : State) : Prop :=
  (s.chan ch).exec = some e ∧ (s.chan ch).stale = [] ∧ s.pair.st = .solo ∧ s.host.link = true ∧ s.recording ch = true ∧
    s.ready 14 = true ∧ s.ready 11 = true ∧ s.dom 0 = 2 ∧ s.err.armed = none ∧ Tab.wf Chan.free s.host.chans = true

/-- The slate of e has ended in t with a completion record of this status, RESULT and DETAIL, written to the completion reel's place as it
stood in s (R240, Table 8-14). -/
def State.recorded (ch : BitVec 18) (e : Exec) (status : BitVec 8) (result detail : BitVec 32) (s t : State) : Prop :=
  (t.chan ch).exec = none ∧
    .hostWrite (BitVec.ofNat 6 (s.ownerOf ch.toNat)) (BitVec.ofNat 64 (65536 * (s.chan ch).cbase.toNat + 16 * (s.chan ch).write.toNat))
      (recordBytes (slTag e.slate) result detail (slSeq e.slate) status (s.chan ch).phase false) ∈ t.out

/-- The slate of e that command c executes on channel ch ends FAILED with this DETAIL, reason in its low byte, and beside its record nothing
changes in the blocks outside bs, in any other channel, or in what this one is (R247, Table 8-15). -/
def State.slateFails (bs : List Block) (c : Instr) (ch : BitVec 18) (e : Exec) (detail : BitVec 32) (s : State) : Prop :=
  ∃ t, exec c s = .next t ∧ s.recorded ch e 1 0 detail t ∧ State.only ([.host, .out, .keep] ++ bs) s t ∧ (∀ j, j ≠ ch → t.chan j = s.chan j) ∧
    (t.chan ch).st = (s.chan ch).st ∧ (t.chan ch).recipe = (s.chan ch).recipe ∧ (t.chan ch).out = (s.chan ch).out ∧ t.keep.lc = s.keep.lc

/-- It ends WRONG_STATE, with the state of channel k. -/
def State.wrongFor (c : Instr) (ch : BitVec 18) (e : Exec) (k : BitVec 18) (s : State) : Prop :=
  s.slateFails [] c ch e ((s.chan k).st.code.setWidth 24 ++ 1#8)

/-- TARGET names no channel that the slate may name: another function's, which is DENIED, or one of another generation or FREE, which is
TARGET_STALE. -/
def State.targetFails (c : Instr) (ch : BitVec 18) (e : Exec) (s : State) : Prop :=
  (s.ownerOf (slTindex e.slate).toNat ≠ s.ownerOf ch.toNat → s.slateFails [] c ch e 2) ∧
    (s.ownerOf (slTindex e.slate).toNat = s.ownerOf ch.toNat →
      (s.chan (slTindex e.slate)).st = .free ∨ (s.chan (slTindex e.slate)).gen ≠ slTgen e.slate → s.slateFails [] c ch e 13)

/-- The binding slate of e changes s into s' for channel k, and answers result: at once while k is BOUND; while k is RUNNING when the proof
holds with the change, and otherwise it fails DEADLINE and nothing changes (R247, R272). -/
def State.binds (c : Instr) (ch k : BitVec 18) (e : Exec) (result : BitVec 32) (s s' : State) : Prop :=
  ((s.chan k).st = .bound → ∃ t, exec c s = .next t ∧ s.recorded ch e 0 result 0 t ∧ State.only [.host, .out, .keep, .ing, .cue] s t ∧
    t.ing = s'.ing ∧ t.cue = s'.cue ∧ (t.chan k).recipe = (s'.chan k).recipe ∧ (t.chan k).out = (s'.chan k).out) ∧
  ((s.chan k).st = .running →
    (∀ d, s'.prove k (some s) = .error d → s.slateFails [] c ch e (d ++ 8#8)) ∧
    (∀ w, s'.prove k (some s) = .ok w → ∃ t, exec c s = .next t ∧ s.recorded ch e 0 result 0 t ∧
      State.only [.host, .out, .keep, .ing, .cue] s t ∧ t.ing = s'.ing ∧ t.cue = s'.cue ∧
      (t.chan k).recipe = (s'.chan k).recipe.map (fun r => { r with proven := w }) ∧ (t.chan k).out = (s'.chan k).out))

/-- The image of p stands in t with all its words and its entries es at once, counted in ST_COMMITS (R92, R93). -/
def State.loaded (p : Placed) (es : List (BitVec 320)) (s t : State) : Prop :=
  t.seq.cs = Tab.setList 0 s.seq.cs p.base (p.img.words.map (rebase p.base)) ∧
    t.seq.table = (p.img.dir.zip es).foldl (fun t (e : BitVec 64 × BitVec 320) => Tab.set 0 t (dirIndex e.1).toNat e.2) s.seq.table ∧
    t.seq.commits = s.seq.commits + 1 ∧ t.seq.images = s.seq.images ++ [p] ∧ t.sys.pmem = Tab.setList 0 s.sys.pmem p.pbase p.img.prog

/-- TARGET of a slate on ch names the channel k, which the same function owns and which has a clean context (R247). -/
def State.targets (ch : BitVec 18) (x : BitVec 512) (k : BitVec 18) (s : State) : Prop :=
  slTarget x = k ++ (s.chan k).gen ∧ s.ownerOf k.toNat = s.ownerOf ch.toNat ∧ (s.chan k).st ≠ .free ∧ (s.chan k).ue = 0

/-- Slot k admits line i when it arrives in s (R221, R222): selected, with room in the FIFO, a token, and its planes within the allocation;
no older job has the number that its job takes. -/
def State.admits (k i : Nat) (s : State) : Prop :=
  (s.slot k).ignores i = false ∧ (s.slot k).fill + lineBytes (s.slot k).fmt ≤ 16384 ∧ 1000000 ≤ (s.slot k).tokens ∧
    (s.slot k).allocated ((s.slot k).target i).2 = true ∧ (∀ j ∈ (s.slot k).jobs, j.id ≠ (s.slot k).ids) ∧
    Tab.wf Slot.reset s.ing.slots = true

/-- Slot k has taken line i of pixels px in t: its job, timed by the timebase (R21), holds the bits of its region; its segments join the
shadow queues of their tiles (R211 to R213) after those of the lines before it, and wait while one of these is still arriving (R219). -/
def State.lineTaken (k i : Nat) (px : List Pixel) (s t : State) : Prop :=
  ∃ bits, ((s.slot k).newJob i).region [(0, px)] = some bits ∧
    (t.slot k).fill = (s.slot k).fill + lineBytes (s.slot k).fmt ∧ (t.slot k).tokens = (s.slot k).tokens - 1000000 ∧
    (t.slot k).arrival = (s.slot k).arrival + 1 ∧
    ((∀ j ∈ (s.slot k).jobs, j.time.isSome = true ∧ j.queued = true) →
      (t.slot k).jobs = (s.slot k).jobs ++ [{ (s.slot k).newJob i with
        time := some s.tbNow, px := bits, segs := (((s.slot k).newJob i).segsOf k bits).length, queued := true }] ∧
      t.arr = (((s.slot k).newJob i).segsOf k bits).foldl
        (fun r g => r.queueSeg (16 * (((s.slot k).target i).1 % 512 / 32) + g.1) (k / 4) g.2) s.arr) ∧
    (∀ (j : LineJob) (js : List LineJob), (s.slot k).jobs = j :: js → j.time = none →
      (t.slot k).jobs = (s.slot k).jobs ++ [{ (s.slot k).newJob i with
        time := some s.tbNow, px := bits, segs := (((s.slot k).newJob i).segsOf k bits).length }] ∧ t.arr = s.arr)

/-- Port p of a device in Solo mode is up, with its line free and no frame waiting, no injection armed and the crew's tables canonical. -/
def State.linked (p : BitVec 4) (s : State) : Prop :=
  (s.port p).up = true ∧ (s.port p).txq = [] ∧ (s.port p).txEnd ≤ 100 * s.now ∧ (s.port p).ahead = 0 ∧ s.pair.st = .solo ∧
    s.err.armed = none ∧ Tab.wf CrewPort.reset s.crew.ports = true ∧ Tab.wf 0 s.crew.cnt = true

/-- Counter c of crew port p (Table 10-11). -/
def State.portCount (p : BitVec 4) (c : Nat) (s : State) : BitVec 32 := Tab.get 0 s.crew.cnt (16 * p.toNat + c)

/-- Counter c of port p has advanced by n, saturating. -/
def State.counted (p : BitVec 4) (c n : Nat) (s t : State) : Prop :=
  t.portCount p c = BitVec.ofNat 32 (min 4294967295 ((s.portCount p c).toNat + n))

/-- The cells of w carry a frame of type ty, no part of a longer one, that is the next in order on port p, and the link layer accepts
it (R278 to R282). -/
def State.accepts (ty : BitVec 4) (p : BitVec 4) (w : Wire) (s : State) : Prop :=
  s.linked p ∧ w.inside = false ∧ w.frame.type = ty ∧ w.frame.crcOk = true ∧ w.frame.lseq = (s.port p).rxSeq ∧ w.frame.malformed false = false

/-- What accepting f does to port p before its effect: the next LSEQ is expected and the frame is acknowledged. -/
def State.acked (p : BitVec 4) (f : Frame) (s : State) : State :=
  (s.upPort p (fun q => { q with rxSeq := q.rxSeq + 1, naked := false })).emit (.crewCell p 0 (f.lseq.setWidth 64))

/-- The frame f as it leaves port p, with its LSEQ (R282). -/
def State.sent (p : BitVec 4) (f : Frame) (s : State) : Frame := { f with hdr := putFld f.hdr 84 (s.port p).txSeq }

/-- Port p has credit and replay space for f (R279, Table 10-6). -/
def State.room (p : BitVec 4) (f : Frame) (s : State) : Prop :=
  Tab.get 0 (s.port p).used f.pool + f.cells ≤ s.poolCells p f.pool ∧ (s.port p).replay = [] ∧ f.cells ≤ 1024

/-- The link layer of port 15 accepts the frame that x tells of, as the next in order, in a joining or paired member (R281, R282, R324). -/
def State.pairAccepts (x : PairLink) (s : State) : Prop :=
  s.double = true ∧ (s.port 15).up = true ∧ (s.port 15).ahead = 0 ∧ s.err.armed = none ∧ Tab.wf CrewPort.reset s.crew.ports = true ∧
    x.crcOk = true ∧ x.lseq = (s.port 15).rxSeq

/-- What accepting a PAIR frame does before its effect: it is acknowledged, its cells are free again, and the next pair sequence number is
expected (R324). -/
def State.pairTaken (x : PairLink) (s : State) : State :=
  ((s.acked 15 (pairFrame x)).grantCells 15 (pairFrame x).pool (pairFrame x).cells).upPair (fun p => { p with rxNum := x.num + 1 })

/-- The PAIR frame of a subtype with its payload as port 15 sends it next, alone on the link (Table 11-3, R279, R282). -/
def State.pairSent (sub : BitVec 4) (payload : List (BitVec 32)) (s : State) : Out :=
  let f := s.mkFrame 0xB 0 0 (sub ++ 0#30) payload
  .crew 15 (({ f with hdr := putFld (putFld f.hdr 84 (s.port 15).txSeq) 0 s.pair.seq } : Frame).wire false)

/-- Port 15 is up, nothing waits or is awaited on it, and its line and all credit are free. -/
def State.pairIdle (s : State) : Prop :=
  (s.port 15).up = true ∧ (s.port 15).txq = [] ∧ (s.port 15).txEnd ≤ 100 * s.now ∧ (s.port 15).replay = [] ∧ (s.port 15).used = [] ∧
    s.err.armed = none ∧ Tab.wf CrewPort.reset s.crew.ports = true

/-- Port A of bank b has written lanes of line l from v, with no write of port B in the same bank cycle (R345, R348, R349). -/
def State.lineWritten (b l : Nat) (lanes : BitVec 64) (v : BitVec 512) (s : State) : State :=
  (s.upBanks (fun k => { k with wrote := Tab.set PortUse.none k.wrote (2 * b) { time := s.now, line := l, lanes := lanes } })).putLine b l lanes v

/-- The Keeper command c of s ends with a failure code and changes nothing else but line 62 (R391, Table 1-4). -/
def State.kpFails (c : Instr) (code : BitVec 8) (s : State) : Prop :=
  ∃ t, exec c s = .next t ∧ t.keep = { s.keep with code := code, cmdOp := t.keep.cmdOp } ∧ State.only [.keep, .dir] s t ∧
    t.dir = { s.dir with evp := t.dir.evp } ∧ (s.dir.run ≠ .held → t.dir.evp = setBit s.dir.evp 62 true)

/-- The words ws are one whole configuration frame f of type ty from a writer that may write and has no words waiting (R376). -/
def State.feeds (ty : Nat) (byHost : Bool) (ws : List (BitVec 64)) (f : CfgFrame) (s : State) : Prop :=
  s.ready 5 = true ∧ cfgComplete ws = some f ∧ f.type = ty ∧ (if byHost then s.spl.partHost else s.spl.partEnvor) = [] ∧
    ∀ e, s.spl.sess = some e → e.byHost = byHost

/-- The fabric takes the configuration f, and the balls show the edges that this makes while a boundary-scan instruction drives them (R492). -/
def State.configured (f : Splice → Splice) (s : State) : State := (s.upSpl f).emitBalls s.spl

/-- Session e after an accepted frame f. -/
def Sess.advance (e : Sess) (f : CfgFrame) : Sess := { e with next := e.next + 1, crcs := e.crcs ++ [fld f.crc 0 32] }

/-- Word w of Splice memory q is correctable and no injection is armed. -/
def State.wordClean (q w : Nat) (s : State) : Prop := s.err.armed = none ∧ Tab.get false s.spl.qpoison (4096 * q + w) = false

/-- A run of k steps that stops nowhere. -/
def State.Safe (k : Nat) (s : State) : Prop := ∃ t, Sys2Proof.core.run k s = .next t

end Sys2Proof.Machine
end

