-- ==== Sys2Proof/Certificates/Slice0/Obligations.lean ====
section
/-!
DEFINITION. The statements for the provers.  Where a statement gives a command's result, its conclusion is that `exec` answers that next
state, so it says where the command completes as well as what it does and what it leaves alone.
-/

open Sys2Proof Sys2Proof.Machine

/-! ## The machine -/

/-- A step runs the command at the front of the queue, with the queue's rest. -/
def Obligations.StepRunsFront : Prop :=
  ∀ (c : Instr) (s : State) (rest : List Instr), s.pending = c :: rest → step s = exec c { s with pending := rest }

/-- On an empty queue a step passes one timebase tick: 5 ns and ADJ x 2^-32 ns once the timebase counts and with no slew in progress
(R255; that an empty queue ticks is the model's choice, log entry 7). -/
def Obligations.EmptyQueueTicks : Prop :=
  ∀ s : State, s.pending = [] → s.ready 4 = true → s.cue.slew = 0 →
    ∃ t, step s = .next t ∧ t.now = s.now + 5 ∧ t.cue.tb = s.cue.tb + BitVec.ofInt 96 (21474836480 + s.cue.adj.toInt) ∧ t.pending = []

/-! ## The Director: registers (chapter 5) -/

/-- Group 0x5: the register ALU, moves, shifts and multiplies (Table 5-9a), with their C and V (Table 5-2); only the registers that the
table names change. -/
def Sys2Proof.Claim.RegisterAlu : Prop :=
  ∀ (s : State) (g : BitVec 3), s.issuesAlone →
    (exec (.add g) s = .next (s.completed { s.dir with
        a := s.dir.a + s.dir.g g, c := decide (16777216 ≤ s.dir.a.toNat + (s.dir.g g).toNat),
        v := BitVec.saddOverflow s.dir.a (s.dir.g g) } 1)) ∧
    (exec (.adc g) s = .next (s.completed { s.dir with
        a := s.dir.a + s.dir.g g + (if s.dir.c then 1 else 0),
        c := decide (16777216 ≤ s.dir.a.toNat + (s.dir.g g).toNat + s.dir.c.toNat),
        v := decide (s.dir.a.toInt + (s.dir.g g).toInt + s.dir.c.toNat < -8388608) ||
          decide (8388607 < s.dir.a.toInt + (s.dir.g g).toInt + s.dir.c.toNat) } 1)) ∧
    (exec (.sub g) s = .next (s.completed { s.dir with
        a := s.dir.a - s.dir.g g, c := s.dir.a.ult (s.dir.g g), v := BitVec.ssubOverflow s.dir.a (s.dir.g g) } 1)) ∧
    (exec (.sbc g) s = .next (s.completed { s.dir with
        a := s.dir.a - s.dir.g g - (if s.dir.c then 1 else 0),
        c := decide (s.dir.a.toNat < (s.dir.g g).toNat + s.dir.c.toNat),
        v := decide (s.dir.a.toInt - (s.dir.g g).toInt - s.dir.c.toNat < -8388608) ||
          decide (8388607 < s.dir.a.toInt - (s.dir.g g).toInt - s.dir.c.toNat) } 1)) ∧
    (exec (.and g) s = .next (s.completed { s.dir with a := s.dir.a &&& s.dir.g g } 1)) ∧
    (exec (.or g) s = .next (s.completed { s.dir with a := s.dir.a ||| s.dir.g g } 1)) ∧
    (exec (.xor g) s = .next (s.completed { s.dir with a := s.dir.a ^^^ s.dir.g g } 1)) ∧
    (exec (.andn g) s = .next (s.completed { s.dir with a := s.dir.a &&& ~~~ s.dir.g g } 1)) ∧
    (exec (.mova g) s = .next (s.completed { s.dir with a := s.dir.g g } 1)) ∧
    (exec (.movg g) s = .next (s.completed (s.dir.setG g s.dir.a) 1)) ∧
    (exec (.movx g) s = .next (s.completed { s.dir with x := s.dir.g g } 1)) ∧
    (exec (.getx g) s = .next (s.completed (s.dir.setG g s.dir.x) 1)) ∧
    (exec (.movy g) s = .next (s.completed { s.dir with y := s.dir.g g } 1)) ∧
    (exec (.gety g) s = .next (s.completed (s.dir.setG g s.dir.y) 1)) ∧
    (exec (.shl g) s = .next (s.completed { s.dir with a := s.dir.a <<< ((s.dir.g g).toNat % 32) } 1)) ∧
    (exec (.shr g) s = .next (s.completed { s.dir with a := s.dir.a >>> ((s.dir.g g).toNat % 32) } 1)) ∧
    (exec (.sar g) s = .next (s.completed { s.dir with a := s.dir.a.sshiftRight ((s.dir.g g).toNat % 32) } 1)) ∧
    (exec (.rol g) s = .next (s.completed { s.dir with a := s.dir.a.rotateLeft ((s.dir.g g).toNat % 32) } 1)) ∧
    (exec (.xch g) s = .next (s.completed { s.dir.setG g s.dir.a with a := s.dir.g g } 1)) ∧
    (exec (.addx g) s = .next (s.completed { s.dir with x := s.dir.x + s.dir.g g } 1)) ∧
    (exec (.addy g) s = .next (s.completed { s.dir with y := s.dir.y + s.dir.g g } 1))

/-- UNARY and XFER (Table 5-9a): only the destination changes, and C and V for NEG. -/
def Sys2Proof.Claim.UnaryAndTransfer : Prop :=
  ∀ s : State, s.issuesAlone →
    (exec .neg s = .next (s.completed { s.dir with
        a := - s.dir.a, c := decide (s.dir.a ≠ 0), v := decide (s.dir.a = 0x800000) } 1)) ∧
    (exec .not s = .next (s.completed { s.dir with a := ~~~ s.dir.a } 1)) ∧
    (∃ n, n ≤ 24 ∧ (∀ i, 24 - n ≤ i → s.dir.a.getLsbD i = false) ∧ (n < 24 → s.dir.a.getLsbD (23 - n) = true) ∧
      exec .clz s = .next (s.completed { s.dir with a := BitVec.ofNat 24 n } 1)) ∧
    (exec .popc s = .next (s.completed { s.dir with
        a := BitVec.ofNat 24 ((List.range 24).filter (fun i => s.dir.a.getLsbD i)).length } 1)) ∧
    (exec .sext8 s = .next (s.completed { s.dir with a := (s.dir.a.setWidth 8).signExtend 24 } 1)) ∧
    (exec .sext16 s = .next (s.completed { s.dir with a := (s.dir.a.setWidth 16).signExtend 24 } 1)) ∧
    (exec .zext8 s = .next (s.completed { s.dir with a := s.dir.a &&& 0xFF } 1)) ∧
    (exec .xferAToX s = .next (s.completed { s.dir with x := s.dir.a } 1)) ∧
    (exec .xferXToA s = .next (s.completed { s.dir with a := s.dir.x } 1)) ∧
    (exec .xferAToY s = .next (s.completed { s.dir with y := s.dir.a } 1)) ∧
    (exec .xferYToA s = .next (s.completed { s.dir with a := s.dir.y } 1)) ∧
    (exec .xferAToRc s = .next (s.completed { s.dir with rc := s.dir.a } 1)) ∧
    (exec .xferRcToA s = .next (s.completed { s.dir with a := s.dir.rc } 1)) ∧
    (exec .xferAToDp s = .next (s.completed { s.dir with dp := s.dir.a.setWidth 8 } 1))

/-- Director register operations: results, flags, frame: the claims above together. -/
def Obligations.RegisterOperations : Prop :=
  Claim.RegisterAlu ∧ Claim.UnaryAndTransfer

/-- MUL and MULU in normal state: PH : A takes the 48-bit product, signed or unsigned (R165); in maintenance state the product enters the
maintenance pipeline, seen three cycles later, and A and PH keep their values (R166). -/
def Sys2Proof.Claim.Multiply : Prop :=
  ∀ (s : State) (g : BitVec 3), s.issuesAlone →
    (∃ p : BitVec 48, p.toInt = s.dir.a.toInt * (s.dir.g g).toInt ∧
      (s.sys.normal = true → exec (.mul g) s = .next (s.completed { s.dir with a := fld p 0 24, ph := fld p 24 24 } 1)) ∧
      (s.sys.normal = false → exec (.mul g) s =
        .next ((s.completed s.dir 1).upSys (fun y => { y with mpipe := y.mpipe ++ [(p, s.dir.cyc + 3)] })))) ∧
    (∃ p : BitVec 48, p.toNat = s.dir.a.toNat * (s.dir.g g).toNat ∧
      (s.sys.normal = true → exec (.mulu g) s = .next (s.completed { s.dir with a := fld p 0 24, ph := fld p 24 24 } 1)) ∧
      (s.sys.normal = false → exec (.mulu g) s =
        .next ((s.completed s.dir 1).upSys (fun y => { y with mpipe := y.mpipe ++ [(p, s.dir.cyc + 3)] }))))

/-- Group 0x4 on A and the word at the index (Table 5-8): C and V for add and subtract, PH : A for the products in normal state. -/
def Sys2Proof.Claim.MemoryOperations : Prop :=
  ∀ (s : State) (am : BitVec 4) (y : Bool) (m : Mod) (a : BitVec 18) (v : Word), s.issuesAlone → amode am = some (y, m) →
    a = fld (if y then s.dir.y else s.dir.x) 0 18 → s.readable a → v = s.word a →
    exec (.addMem am) s = .next (s.completed (modify y m { s.dir with
      a := s.dir.a + v, c := decide (16777216 ≤ s.dir.a.toNat + v.toNat), v := BitVec.saddOverflow s.dir.a v }) 1) ∧
    exec (.subMem am) s = .next (s.completed (modify y m { s.dir with
      a := s.dir.a - v, c := s.dir.a.ult v, v := BitVec.ssubOverflow s.dir.a v }) 1) ∧
    exec (.andMem am) s = .next (s.completed (modify y m { s.dir with a := s.dir.a &&& v }) 1) ∧
    exec (.orMem am) s = .next (s.completed (modify y m { s.dir with a := s.dir.a ||| v }) 1) ∧
    exec (.xorMem am) s = .next (s.completed (modify y m { s.dir with a := s.dir.a ^^^ v }) 1) ∧
    (s.sys.normal = true → ∃ p q : BitVec 48, p.toInt = s.dir.a.toInt * v.toInt ∧ q.toNat = s.dir.a.toNat * v.toNat ∧
      exec (.mulMem am) s = .next (s.completed (modify y m { s.dir with a := fld p 0 24, ph := fld p 24 24 }) 1) ∧
      exec (.muluMem am) s = .next (s.completed (modify y m { s.dir with a := fld q 0 24, ph := fld q 24 24 }) 1))

/-- Group 0xB: divide, with the corners of Table 6-3 (R167), and packed decimal, with PH and the sticky DV (R168). -/
def Sys2Proof.Claim.DivideAndDecimal : Prop :=
  ∀ (s : State) (g : BitVec 3), s.issuesAlone →
    (s.dir.g g = 0 →
      exec (.divu 0 g) s = .next (s.completed { s.dir with a := 0xFFFFFF, ph := s.dir.a, dvz := true } 14) ∧
      exec (.divs 0 g) s = .next (s.completed { s.dir with
        a := if s.dir.a.msb then 0x800000 else 0x7FFFFF, ph := s.dir.a, dvz := true } 14)) ∧
    (s.dir.g g ≠ 0 →
      exec (.divu 0 g) s = .next (s.completed { s.dir with a := s.dir.a / s.dir.g g, ph := s.dir.a % s.dir.g g } 14) ∧
      ((s.dir.a = 0x800000 ∧ s.dir.g g = 0xFFFFFF) →
        exec (.divs 0 g) s = .next (s.completed { s.dir with a := 0x800000, ph := 0 } 14)) ∧
      (¬(s.dir.a = 0x800000 ∧ s.dir.g g = 0xFFFFFF) →
        exec (.divs 0 g) s = .next (s.completed { s.dir with
          a := BitVec.ofInt 24 (s.dir.a.toInt.tdiv (s.dir.g g).toInt), ph := BitVec.ofInt 24 (s.dir.a.toInt.tmod (s.dir.g g).toInt) } 14))) ∧
    (exec (.dadd 0 g) s = .next (s.completed { s.dir with
        a := bcdPack ((bcdVal s.dir.a + bcdVal (s.dir.g g)) % 1000000),
        ph := if 1000000 ≤ bcdVal s.dir.a + bcdVal (s.dir.g g) then 1 else 0,
        dv := s.dir.dv || bcdBad s.dir.a || bcdBad (s.dir.g g) } 1)) ∧
    (exec (.dsub 0 g) s = .next (s.completed { s.dir with
        a := bcdPack ((bcdVal s.dir.a + 1000000 - bcdVal (s.dir.g g)) % 1000000),
        ph := if bcdVal s.dir.a < bcdVal (s.dir.g g) then 1 else 0,
        dv := s.dir.dv || bcdBad s.dir.a || bcdBad (s.dir.g g) } 1))

/-- Multiplication, memory-operand arithmetic, division, decimal and alignment operations: the claims above together. -/
def Obligations.MultiplyDivideDecimal : Prop :=
  Claim.Multiply ∧ Claim.MemoryOperations ∧ Claim.DivideAndDecimal

/-- Group 0x6: the immediates, alone or as an EXT pair, whose literal extends them to 21 bits (R138, Table 5-10); and LDI (R135). -/
def Sys2Proof.Claim.ImmediateAlu : Prop :=
  ∀ (s : State) (imm : BitVec 7) (i10 : BitVec 10), s.issuesOnce →
    (∀ u z : Word,
      u = (match s.sys.ext with | some l => (l ++ imm : BitVec 21).signExtend 24 | none => imm.signExtend 24) →
      z = (match s.sys.ext with | some l => (l ++ imm : BitVec 21).setWidth 24 | none => imm.setWidth 24) →
      (exec (.addi imm) s = .next (s.completed { s.dir with
          a := s.dir.a + u, c := decide (16777216 ≤ s.dir.a.toNat + u.toNat), v := BitVec.saddOverflow s.dir.a u } 1)) ∧
      (exec (.subi imm) s = .next (s.completed { s.dir with
          a := s.dir.a - u, c := s.dir.a.ult u, v := BitVec.ssubOverflow s.dir.a u } 1)) ∧
      (exec (.andi imm) s = .next (s.completed { s.dir with a := s.dir.a &&& z } 1)) ∧
      (exec (.ori imm) s = .next (s.completed { s.dir with a := s.dir.a ||| z } 1)) ∧
      (exec (.xori imm) s = .next (s.completed { s.dir with a := s.dir.a ^^^ z } 1)) ∧
      (exec (.addxi imm) s = .next (s.completed { s.dir with x := s.dir.x + u } 1)) ∧
      (exec (.addyi imm) s = .next (s.completed { s.dir with y := s.dir.y + u } 1)) ∧
      (exec (.ldxi imm) s = .next (s.completed { s.dir with x := u } 1))) ∧
    (exec (.ldi i10) s = .next (s.completed { s.dir with
        a := match s.sys.ext with | some l => l ++ i10 | none => i10.signExtend 24 } 1))

/-- Group 0x7: a compare writes 1 to Gd when A stands in the relation to Gs, 0 otherwise, and no flag (R139, Table 5-11). -/
def Sys2Proof.Claim.Compares : Prop :=
  ∀ (s : State) (d g : BitVec 3), s.issuesAlone →
    ∀ (w : Bool → Answer), w = (fun b => .next (s.completed (s.dir.setG d (if b then 1 else 0)) 1)) →
    exec (.ceq d g) s = w (s.dir.a == s.dir.g g) ∧
    exec (.cne d g) s = w (s.dir.a != s.dir.g g) ∧
    exec (.clt d g) s = w (decide (s.dir.a.toInt < (s.dir.g g).toInt)) ∧
    exec (.cle d g) s = w (decide (s.dir.a.toInt ≤ (s.dir.g g).toInt)) ∧
    exec (.cgt d g) s = w (decide ((s.dir.g g).toInt < s.dir.a.toInt)) ∧
    exec (.cge d g) s = w (decide ((s.dir.g g).toInt ≤ s.dir.a.toInt)) ∧
    exec (.cltu d g) s = w (decide (s.dir.a.toNat < (s.dir.g g).toNat)) ∧
    exec (.cleu d g) s = w (decide (s.dir.a.toNat ≤ (s.dir.g g).toNat)) ∧
    exec (.cgtu d g) s = w (decide ((s.dir.g g).toNat < s.dir.a.toNat)) ∧
    exec (.cgeu d g) s = w (decide ((s.dir.g g).toNat ≤ s.dir.a.toNat)) ∧
    exec (.cbs d g) s = w ((List.range 24).any (fun i => s.dir.a.getLsbD i && (s.dir.g g).getLsbD i)) ∧
    exec (.cbc d g) s = w ((List.range 24).all (fun i => !(s.dir.a.getLsbD i && (s.dir.g g).getLsbD i)))

/-- Immediate operations and compares: the claims above together. -/
def Obligations.ImmediatesAndCompares : Prop :=
  Claim.ImmediateAlu ∧ Claim.Compares

/-! ## The Director: memory, floats, control flow -/

/-- LDA d and STA d reach the word under DP or under the literal of an EXT pair (R128, R135); a load waits for the end of the next
instruction (R132), a store changes that word alone. -/
def Sys2Proof.Claim.DirectAccess : Prop :=
  ∀ (s : State) (d : BitVec 10) (a : BitVec 18), s.issuesOnce →
    (match s.sys.ext with | some l => fld l 8 6 = (0 : BitVec 6) ∧ a = fld l 0 8 ++ d | none => a = s.dir.dp ++ d) →
    (s.readable a → exec (.ldaDirect d) s = .next ((s.completed s.dir 1).loading 1 (s.word a))) ∧
    (s.mayAccess true a = true → exec (.staDirect d) s = .next ((s.completed s.dir 1).putWord a s.dir.a))

/-- The indexed loads: the word at the index before its modification (R129, R130); A, X and Y take it at the end of the next instruction,
G at once (R132). -/
def Sys2Proof.Claim.IndexedLoads : Prop :=
  ∀ (s : State) (am : BitVec 4) (y : Bool) (m : Mod) (g : BitVec 3) (a : BitVec 18), s.issuesAlone → amode am = some (y, m) →
    a = fld (if y then s.dir.y else s.dir.x) 0 18 → s.readable a →
    exec (.ldaIndexed am) s = .next ((s.completed (modify y m s.dir) 1).loading 1 (s.word a)) ∧
    ((y = true ∨ m = .keep) → exec (.ldx am) s = .next ((s.completed (modify y m s.dir) 1).loading 2 (s.word a))) ∧
    ((y = false ∨ m = .keep) → exec (.ldy am) s = .next ((s.completed (modify y m s.dir) 1).loading 3 (s.word a))) ∧
    exec (.ldg g am) s = .next (s.completed (modify y m (s.dir.setG g (s.word a))) 1)

/-- The indexed stores write one word, at the index before its modification, with the value from before it (R129, R131). -/
def Sys2Proof.Claim.IndexedStores : Prop :=
  ∀ (s : State) (am : BitVec 4) (y : Bool) (m : Mod) (g : BitVec 3) (a : BitVec 18), s.issuesAlone → amode am = some (y, m) →
    a = fld (if y then s.dir.y else s.dir.x) 0 18 → s.mayAccess true a = true →
    exec (.staIndexed am) s = .next ((s.completed (modify y m s.dir) 1).putWord a s.dir.a) ∧
    exec (.stx am) s = .next ((s.completed (modify y m s.dir) 1).putWord a s.dir.x) ∧
    exec (.sty am) s = .next ((s.completed (modify y m s.dir) 1).putWord a s.dir.y) ∧
    exec (.stg g am) s = .next ((s.completed (modify y m s.dir) 1).putWord a (s.dir.g g))

/-- Loads and stores of Director data memory: the claims above together. -/
def Obligations.LoadsAndStores : Prop :=
  Claim.DirectAccess ∧ Claim.IndexedLoads ∧ Claim.IndexedStores

/-- The index modifications (R130): plain steps on all 24 bits; with L = 0 the modulo and bit-reversed ones are plain; otherwise they act in
the block of 2^k words from base, 2^k the least power of two not below L: +% and -% as the rule's lines give, and R counts in reversed-bit
order; L comes from MX for X and from MY for Y. -/
def Obligations.IndexModification : Prop :=
  (∀ (i y : Word) (l base off : Nat), l ≤ 262144 →
    modIndex .keep i l y = i ∧ modIndex .inc i l y = i + 1 ∧ modIndex .dec i l y = i - 1 ∧ modIndex .addY i l y = i + y ∧
    (l = 0 → modIndex .incM i l y = i + 1 ∧ modIndex .decM i l y = i - 1 ∧ modIndex .revM i l y = i + 1) ∧
    (∀ k, 0 < l → l ≤ 2 ^ k → (∀ j, j < k → 2 ^ j < l) → off < 2 ^ k → base % 2 ^ k = 0 → i.toNat = base + off →
      (modIndex .incM i l y).toNat = base + (if off + 1 < l then off + 1 else 0) ∧
      (modIndex .decM i l y).toNat = base + (if 0 < off ∧ off < l then off - 1 else l - 1) ∧
      ∃ q r : Nat, q < 2 ^ k ∧ r < 2 ^ k ∧ (∀ j, j < k → q.testBit j = off.testBit (k - 1 - j)) ∧
        (∀ j, j < k → r.testBit j = ((q + 1) % 2 ^ k).testBit (k - 1 - j)) ∧ (modIndex .revM i l y).toNat = base + r)) ∧
  (∀ (m : Mod) (d : Dir), modify false m d = { d with x := modIndex m d.x d.mx.toNat d.y } ∧
    modify true m d = { d with y := modIndex m d.y d.my.toNat d.y })

/-- Data memory read after write: the word stored reads back, every other word is unchanged, and the memory stays canonical. -/
def Obligations.DataMemoryReadsBack : Prop :=
  ∀ (s : State) (a b : BitVec 18) (v : Word), Memory.wf s = true →
    (s.putWord a v).word a = v ∧ (b ≠ a → (s.putWord a v).word b = s.word b) ∧ Memory.wf (s.putWord a v) = true

/-- Group 0xA arithmetic under FPCR (R142, R170): Fd takes the IEEE result, FPCR.FLAGS and FDIRTY what was raised, in the cycles of Table
6-1, where no flag raised is enabled. -/
def Sys2Proof.Claim.FloatArithmetic : Prop :=
  ∀ (s : State) (d f : BitVec 3) (mode : FMode), s.issuesAlone → (s.dir.priv = true ∨ ownedBy s.sys.fown s.sys.chid = true) →
    mode = rmMode (fld s.dir.fpcr 16 3) →
    ∀ (x : Nat → BitVec 3 → Nat × FFlags → Answer),
      x = (fun n i r => .next ((s.completed { s.dir.setFr i (BitVec.ofNat 32 r.1) with fpcr := s.dir.fpcr ||| r.2.setWidth 24 } n).upSys
        (fun y => { y with fdirty := true }))) →
    ∀ p q : Nat, p = (s.dir.fr d).toNat → q = (s.dir.fr f).toNat →
      ((fAdd fmt32 mode p q).2 &&& fld s.dir.fpcr 8 5 = 0 → exec (.fadd d f) s = x 2 d (fAdd fmt32 mode p q)) ∧
      ((fSub fmt32 mode p q).2 &&& fld s.dir.fpcr 8 5 = 0 → exec (.fsub d f) s = x 2 d (fSub fmt32 mode p q)) ∧
      ((fMul fmt32 mode p q).2 &&& fld s.dir.fpcr 8 5 = 0 → exec (.fmul d f) s = x 2 d (fMul fmt32 mode p q)) ∧
      ((fDiv fmt32 mode p q).2 &&& fld s.dir.fpcr 8 5 = 0 → exec (.fdiv d f) s = x 10 d (fDiv fmt32 mode p q)) ∧
      ((fFma fmt32 mode q (s.dir.fr 7).toNat p).2 &&& fld s.dir.fpcr 8 5 = 0 →
        exec (.ffma d f) s = x 3 d (fFma fmt32 mode q (s.dir.fr 7).toNat p)) ∧
      ((fSqrt fmt32 mode q).2 &&& fld s.dir.fpcr 8 5 = 0 → exec (.fsqrt d f) s = x 10 d (fSqrt fmt32 mode q))

/-- Group 0xA moves, sign changes, compares and conversions (Table 5-13, R142, R143). -/
def Sys2Proof.Claim.FloatMovesAndCompares : Prop :=
  ∀ (s : State) (d f : BitVec 3) (mode : FMode), s.issuesAlone → (s.dir.priv = true ∨ ownedBy s.sys.fown s.sys.chid = true) →
    mode = rmMode (fld s.dir.fpcr 16 3) →
    ∀ (x : Nat → Dir → FFlags → Answer),
      x = (fun n r fl => .next ((s.completed { r with fpcr := s.dir.fpcr ||| fl.setWidth 24 } n).upSys (fun y => { y with fdirty := true }))) →
      exec (.fmov d f) s = x 1 (s.dir.setFr d (s.dir.fr f)) 0 ∧
      exec (.fneg d f) s = x 1 (s.dir.setFr d (s.dir.fr f ^^^ 0x80000000)) 0 ∧
      exec (.fabs d f) s = x 1 (s.dir.setFr d (s.dir.fr f &&& 0x7FFFFFFF)) 0 ∧
      exec (.fin f) s = x 1 (s.dir.setFr f (s.dir.ph.setWidth 8 ++ s.dir.a)) 0 ∧
      exec (.fout f) s = x 1 { s.dir with a := (s.dir.fr f).setWidth 24, ph := (s.dir.fr f >>> 24).setWidth 24 } 0 ∧
      exec (.fcvti f) s = x 2 (s.dir.setFr f (fOfInt s.dir.a.toInt)) 0 ∧
      exec (.fcvtu f) s = x 2 (s.dir.setFr f (fOfInt s.dir.a.toNat)) 0 ∧
      (∀ k : BitVec 2, ∀ r : Bool × FFlags, r = fCmp fmt32 k.toNat (s.dir.fr 0).toNat (s.dir.fr f).toNat → r.2 &&& fld s.dir.fpcr 8 5 = 0 →
        (match k.toNat with
          | 0 => exec (.fceq d f) s
          | 1 => exec (.fclt d f) s
          | 2 => exec (.fcle d f) s
          | _ => exec (.fcun d f) s) = x 1 (s.dir.setG d (if r.1 then 1 else 0)) r.2) ∧
      (∀ sg : Bool, ∀ r : Word × FFlags, r = fConvert mode sg (s.dir.fr f).toNat → r.2 &&& fld s.dir.fpcr 8 5 = 0 →
        (if sg then exec (.ftoi f) s else exec (.ftou f) s) = x 2 { s.dir with a := r.1 } r.2)

/-- Group 0xA raises an enabled flag: FLOAT_EXC after the count, nothing written (R170); FTOI of a NaN with NV enabled shows it. -/
def Sys2Proof.Claim.FloatTrap : Prop :=
  ∀ (s : State) (f : BitVec 3), s.issuesAlone → s.dir.priv = true → s.dir.cwp.toNat < 14 → s.armedFor 10 (fun _ _ => true) = false →
    Tab.wf 0 s.dir.wsave = true → fNan fmt32 (s.dir.fr f).toNat = true → s.dir.fpcr.getLsbD 12 = true →
    ∃ t, exec (.ftoi f) s = .next t ∧ t.sys.tdata = 0x10 ∧ t.dir.pc = (s.sys.vbase ++ (0#10)) + 280 ∧ t.dir.a = s.dir.a ∧
      t.dir.fpcr = s.dir.fpcr ∧ t.dir.f = s.dir.f ∧ t.dir.saved (s.dir.cwp.toNat + 1) 8 = 0x800000 ||| s.dir.pc.setWidth 24

/-- Floating-point unit: arithmetic, moves, compares, traps: the claims above together. -/
def Obligations.FloatOperations : Prop :=
  Claim.FloatArithmetic ∧ Claim.FloatMovesAndCompares ∧ Claim.FloatTrap

/-- Control flow (Table 5-12): what each takes as the next address, the window that CALL opens and RET closes, LK with KIND 0 and the
address after the CALL word (R122, R123, R140, R141). -/
def Sys2Proof.Claim.ControlFlow : Prop :=
  ∀ (s : State) (g : BitVec 3) (d6 : BitVec 6) (d8 : BitVec 8) (t6 t8 : BitVec 18), s.issuesOnce →
    t6 = s.dir.pc + 1 + (match s.sys.ext with | some l => (l ++ d6 : BitVec 20).setWidth 18 | none => d6.signExtend 18) →
    t8 = s.dir.pc + 1 + (match s.sys.ext with | some l => (l ++ d8 : BitVec 22).setWidth 18 | none => d8.signExtend 18) →
    (s.dir.g g = 0 → exec (.bz g d6) s = .next (s.jumped s.dir 1 t6) ∧ exec (.bnz g d6) s = .next (s.completed s.dir 1)) ∧
    (s.dir.g g ≠ 0 → exec (.bnz g d6) s = .next (s.jumped s.dir 1 t6) ∧ exec (.bz g d6) s = .next (s.completed s.dir 1)) ∧
    exec (.bra d8) s = .next (s.jumped s.dir 1 t8) ∧
    (s.dir.cwp.toNat < 14 → exec (.call d8) s = .next (s.jumped
      { s.dir.setSaved (s.dir.cwp.toNat + 1) 8 ((s.dir.pc + 1).setWidth 24) with cwp := s.dir.cwp + 1 } 1 t8)) ∧
    (s.sys.ext = none →
      exec (.jmp 0 g) s = .next (s.jumped s.dir 1 ((s.dir.g g).setWidth 18)) ∧
      (s.dir.cwp.toNat < 14 → exec (.callIndirect 0 g) s = .next (s.jumped
        { s.dir.setSaved (s.dir.cwp.toNat + 1) 8 ((s.dir.pc + 1).setWidth 24) with cwp := s.dir.cwp + 1 } 1 ((s.dir.g g).setWidth 18))) ∧
      (s.dir.cwp ≠ 0 → (s.dir.saved s.dir.cwp.toNat 8).msb = false →
        exec (.ret 0) s = .next (s.jumped { s.dir with cwp := s.dir.cwp - 1 } 1 ((s.dir.saved s.dir.cwp.toNat 8).setWidth 18))))

/-- The prefixes (R127, R152): REP and REPN take their count from the field, or from RC when it is 0; EXT reads its literal word. -/
def Sys2Proof.Claim.Prefixes : Prop :=
  ∀ (s : State) (n : BitVec 6) (count : Word) (r : Bool → Rep), s.issuesAlone →
    count = (if n = 0 then s.dir.rc else n.setWidth 24) →
    r = (fun b => { pc := s.dir.pc, count := count, noInt := b, held := none, lit := none,
                    slot := s.sys.ld.map (fun p => (p.1, p.2, s.dir.loadedReg p.1)), fresh := true }) →
    exec (.rep n) s = .next ((s.completed s.dir 1).upSys (fun y => { y with rep := some (r false) })) ∧
    exec (.repn n) s = .next ((s.completed s.dir 1).upSys (fun y => { y with rep := some (r true) })) ∧
    (∀ lit : BitVec 14, Tab.get false s.sys.ppoison (s.dir.pc + 1).toNat = false →
      s.armedFor 8 (fun _ x => x == (s.dir.pc + 1).toNat) = false → s.armedFor 9 (fun _ x => x == (s.dir.pc + 1).toNat) = false →
      exec (.ext 0 lit) s = .next ((s.upDir (fun d => { d with pc := d.pc + 2 })).upSys (fun y => { y with ext := some lit })))

/-- A repetition (R152 to R155): the instruction after REP runs once per command; the count falls, the last one moves past it and gives RC
what a repetition wrote to it; a count of 0 skips it; an instruction that may not be repeated raises ILLEGAL at the prefix (R153), with a load pending
when the prefix stands in its slot (R501); a REPN of more than 256 raises REP_RANGE there in place of its first repetition (R155). -/
def Sys2Proof.Claim.Repetition : Prop :=
  ∀ (s : State) (r : Rep) (g : BitVec 3), s.issues → s.sys.ext = none → s.sys.ld = none → s.sys.rep = some r →
    ((r.fresh && r.noInt) = false ∨ r.count.toNat ≤ 256 →
      (1 < r.count.toNat → r.lit = none → exec (.addx g) s = .next { s with
        dir := { s.dir with x := s.dir.x + s.dir.g g, cyc := s.dir.cyc + 1 },
        sys := { s.sys with rep := some { r with count := r.count - 1, slot := none, fresh := false } } }) ∧
      (r.count = 1 → r.lit = none → exec (.addx g) s = .next { s with
        dir := { s.dir with x := s.dir.x + s.dir.g g, cyc := s.dir.cyc + 1, pc := s.dir.pc + 1, rc := r.held.getD s.dir.rc },
        sys := { s.sys with rep := none } }) ∧
      (r.count = 0 → exec (.addx g) s = .next { s with
        dir := { s.dir with pc := s.dir.pc + 1, rc := r.held.getD s.dir.rc }, sys := { s.sys with rep := none } })) ∧
    (s.dir.cwp.toNat < 14 → Tab.wf 0 s.dir.wsave = true → s.armedFor 10 (fun _ _ => true) = false →
      (r.fresh = true → r.noInt = true → 256 < r.count.toNat →
        ∃ t, exec (.addx g) s = .next t ∧ t.dir.pc = (s.sys.vbase ++ (0#10)) + 288 ∧ t.sys.tdata = 0 ∧ t.sys.rep = none ∧ t.dir.x = s.dir.x ∧
          t.dir.saved (s.dir.cwp.toNat + 1) 8 = 0x800000 ||| r.pc.setWidth 24) ∧
      ∃ t, exec (.bra 0) s = .next t ∧ t.dir.pc = (s.sys.vbase ++ (0#10)) + 256 ∧ t.sys.rep = none ∧
        t.dir.saved (s.dir.cwp.toNat + 1) 8 = 0x800000 ||| r.pc.setWidth 24 ∧
        (∀ v old : Word, r.slot = some (1, v, old) →
          t.dir.saved (s.dir.cwp.toNat + 1) 9 = old ∧ t.dir.saved (s.dir.cwp.toNat + 1) 20 = v))

/-- Branches, calls, skips, EXT and repetition: the claims above together. -/
def Obligations.ControlFlowAndPrefixes : Prop :=
  Claim.ControlFlow ∧ Claim.Prefixes ∧ Claim.Repetition

/-! ## The Director: prefixes, waits, traps, special registers (chapters 5 and 6) -/

/-- NOP, HALT, WFE, WTU and SEV to the Splice fabric or a crew port (R134, R158, R159, R161): WFE consumes the lowest pending unmasked line
that is no interrupt source, or holds; WTU passes once the time has been reached, or holds. -/
def Sys2Proof.Claim.WaitsAndEvents : Prop :=
  ∀ (s : State), s.issuesAlone →
    exec (.nop 0 none) s = .next (s.completed s.dir 1) ∧
    (s.dir.priv = true → exec (.halt 0) s = .next (s.completed { s.dir with run := .halted } 1)) ∧
    (∀ ok : Nat → Bool, ok = (fun n => s.dir.evp.getLsbD n && s.dir.evm.getLsbD n && !(Tab.get 0 s.sys.irqcfg n).getLsbD 3) →
      (∀ n, n < 64 → ok n = true → (∀ m, m < n → ok m = false) →
        exec (.wfe 0) s = .next (s.completed { s.dir with a := BitVec.ofNat 24 n, evp := setBit s.dir.evp n false } 1)) ∧
      ((∀ n, n < 64 → ok n = false) → exec (.wfe 0) s = .next (s.upDir (fun d => { d with hold := .wfe })))) ∧
    (∀ u : BitVec 2,
      (Tab.get 0 s.dir.wtuv u.toNat ≤ s.dirTime → exec (.wtu (u.setWidth 6)) s = .next (s.completed s.dir 1)) ∧
      (¬ Tab.get 0 s.dir.wtuv u.toNat ≤ s.dirTime → exec (.wtu (u.setWidth 6)) s = .next (s.upDir (fun d => { d with hold := .wtu u })))) ∧
    (∀ n : BitVec 3, exec (.sev (n.setWidth 6)) s =
      .next (((s.completed s.dir 1).upSpl (fun x => { x with sevIn := setBit x.sevIn n.toNat true })).emit (.spliceEvent n))) ∧
    (∀ p : BitVec 4,
      (s.pair.st = .solo → (s.port p).up = false →
        exec (.sev (p.setWidth 6 ||| 0x20)) s = .next ((s.completed s.dir 1).crewCount p 9 1)) ∧
      (s.linked p → s.room p (s.mkFrame 6 3 0 0 []) →
        ∃ t, exec (.sev (p.setWidth 6 ||| 0x20)) s = .next t ∧ t.out = s.out ++ [.crew p ((s.sent p (s.mkFrame 6 3 0 0 [])).wire false)] ∧
          State.only [.dir, .sys, .crew, .out] s t))

/-- The end of a wait, the compare units and the Splice event outputs: WFE_WAKE, WTU_COMPLETE, WTU_COMPARE_MATCH, SPLICE_EVENT_OUT (R158,
R161, Table 1-4); outside Double mode a line becomes pending and nothing else changes. -/
def Sys2Proof.Claim.WaitsEnd : Prop :=
  ∀ (s : State), s.sys.rep = none → s.sys.ext = none → s.paired = false →
    (∀ n, s.dir.hold = .wfe → n < 64 →
      (∀ m, m ≤ n → (s.dir.evp.getLsbD m && s.dir.evm.getLsbD m && !(Tab.get 0 s.sys.irqcfg m).getLsbD 3) = decide (m = n)) →
      exec .wfeWake s = .next (s.completed { s.dir with hold := .none, a := BitVec.ofNat 24 n, evp := setBit s.dir.evp n false } 1)) ∧
    (∀ u : BitVec 2, s.dir.hold = .wtu u → Tab.get 0 s.dir.wtuv u.toNat ≤ s.tbNow →
      exec .wtuComplete s = .next (s.completed { s.dir with hold := .none } 1)) ∧
    (∀ u : BitVec 2, s.dir.run ≠ .held → s.dir.wtuArmed.getLsbD u.toNat = true → Tab.get 0 s.dir.wtuv u.toNat ≤ s.tbNow →
      exec (.wtuCompareMatch u) s = .next (s.upDir (fun d =>
        { d with wtuArmed := setBit d.wtuArmed u.toNat false, evp := setBit d.evp (56 + u.toNat) true }))) ∧
    (∀ n : BitVec 3, s.dir.run ≠ .held →
      exec (.spliceEventOut n) s = .next (s.upDir (fun d => { d with evp := setBit d.evp (32 + n.toNat) true })))

/-- NOP, HALT, WFE, SEV, WTU and the end of a wait: the claims above together. -/
def Obligations.WaitsAndEvents : Prop :=
  Claim.WaitsAndEvents ∧ Claim.WaitsEnd

/-- TRAP n: what entry saves and sets (R174, R175): the next window's LK with KIND 1 and the address of the next word, A, X, Y, PH, RC, DP,
FLAGS and CHID; TCAUSE and TDATA; PRIV 1, IE 0; the PC at VBASE x 1,024 + 4 n; five cycles. -/
def Sys2Proof.Claim.TrapEntry : Prop :=
  ∀ (s : State) (n : BitVec 6) (w : Nat), s.issuesAlone → s.sys.ld = none → w = s.dir.cwp.toNat + 1 → s.dir.cwp.toNat < 14 →
    Tab.wf 0 s.dir.wsave = true → s.armedFor 10 (fun _ _ => true) = false →
    ∃ t, exec (.trap n) s = .next t ∧ t.dir.pc = (s.sys.vbase ++ (0#10)) + 4 * n.setWidth 18 ∧
      t.dir.cwp = s.dir.cwp + 1 ∧ t.dir.priv = true ∧ t.dir.ie = false ∧ t.dir.cyc = s.dir.cyc + 5 ∧
      t.dir.saved w 8 = 0x800000 ||| (s.dir.pc + 1).setWidth 24 ∧ t.dir.saved w 9 = s.dir.a ∧ t.dir.saved w 10 = s.dir.x ∧
      t.dir.saved w 11 = s.dir.y ∧ t.dir.saved w 12 = s.dir.ph ∧ t.dir.saved w 13 = s.dir.rc ∧
      t.dir.saved w 14 = s.dir.dp.setWidth 24 ∧ t.dir.saved w 15 = flagsWord s.dir s.sys.normal ∧ t.dir.saved w 16 = s.sys.chid ∧
      t.sys.tdata = 0 ∧ t.sys.tcause = 0x00FF00 ||| n.setWidth 24 ∧ t.dir.a = s.dir.a ∧ t.dir.x = s.dir.x ∧ t.dir.y = s.dir.y ∧
      t.dir.wreg = s.dir.wreg ∧ t.dir.f = s.dir.f ∧ State.only [.dir, .sys] s t

/-- INTERRUPT_ENTRY (R177): the enabled pending line of highest priority, its line consumed, its priority active, the PC at its vector; a
priority without YIELD_ON requests no yield; the host interface notes only the paths that the line activates (R270). -/
def Sys2Proof.Claim.InterruptEntry : Prop :=
  ∀ (s : State) (n : BitVec 6) (p : BitVec 3), s.takable = some (n, p) → s.dir.cwp.toNat < 14 →
    Tab.wf 0 s.dir.wsave = true → s.seq.yieldOn.getLsbD p.toNat = false →
    ∃ t, exec .interruptEntry s = .next t ∧ t.dir.pc = (s.sys.vbase ++ (0#10)) + 4 * (128 + n.setWidth 18) ∧
      t.dir.evp = setBit s.dir.evp n.toNat false ∧ t.sys.iact = setBit s.sys.iact p.toNat true ∧ t.dir.cwp = s.dir.cwp + 1 ∧
      t.dir.priv = true ∧ t.sys.tdata = s.sys.tdata ∧ t.dir.saved (s.dir.cwp.toNat + 1) 15 = flagsWord s.dir s.sys.normal ∧
      State.only [.dir, .sys, .host] s t

/-- Taking a trap or an interrupt: the claims above together. -/
def Obligations.TrapAndInterruptEntry : Prop :=
  Claim.TrapEntry ∧ Claim.InterruptEntry

/-- RETI (R114, R178, R179, R501): the registers of the save set, FLAGS but for CWP and MAINT, CHID; the interrupt's priority ends; the load that
entry put off is pending again; a repetition that entry interrupted goes on, past its prefix; a hold of ABAR is taken up.  A load that was issued before
the RETI is written last. -/
def Sys2Proof.Claim.ReturnFromTrap : Prop :=
  ∀ (s : State) (w : Nat) (flags srf lk : Word) (r : Dir), s.issuesAlone → s.dir.priv = true → w = s.dir.cwp.toNat → 0 < w →
    flags = s.dir.saved w 15 → srf = s.dir.saved w 19 → lk = s.dir.saved w 8 → lk.msb = true →
    r = { s.dir with
      a := s.dir.saved w 9, x := s.dir.saved w 10, y := s.dir.saved w 11, ph := s.dir.saved w 12, rc := s.dir.saved w 13,
      dp := fld (s.dir.saved w 14) 0 8, c := flags.getLsbD 0, v := flags.getLsbD 1, dv := flags.getLsbD 2, dvz := flags.getLsbD 3,
      ie := flags.getLsbD 15, ipl := fld flags 16 3, priv := flags.getLsbD 23, cwp := s.dir.cwp - 1, cyc := s.dir.cyc + 3,
      pc := if srf.getLsbD 0 then fld lk 0 18 + 1 else fld lk 0 18,
      hold := match Tab.get 0 s.sys.abarHeld w with
        | 0 => .none
        | n + 1 => .abar n } →
    exec (.reti 0) s = .next { s with
      dir := match s.sys.ld with
        | some p => r.setLoaded p
        | none => r,
      sys := { s.sys with
        chid := s.dir.saved w 16, ext := none,
        iact := if srf.getLsbD 2 then setBit s.sys.iact (fld srf 3 3 : BitVec 3).toNat false else s.sys.iact,
        ld := if fld srf 6 2 = (0 : BitVec 2) then none else some (fld srf 6 2, s.dir.saved w 20),
        rep := if srf.getLsbD 0 then some { pc := fld lk 0 18, count := s.dir.saved w 17, noInt := Tab.get false s.sys.repnHeld w,
                                            held := if srf.getLsbD 1 then some (s.dir.saved w 18) else none, lit := none, slot := none,
                                            fresh := false }
               else none,
        abarHeld := Tab.set 0 s.sys.abarHeld w 0, repnHeld := Tab.set false s.sys.repnHeld w false } }

/-- The checks before an instruction executes (R125, R126, R181, R182, R192), in their order: a must-be-0 field or an unassigned word, privilege, the
lazy float and lazy array traps, each at the instruction and in place of its effect; window 14 deflects to the ring trap, window 15 is the double
fault, which stops the Director. -/
def Sys2Proof.Claim.TrapChecks : Prop :=
  ∀ (s : State) (c : Instr) (v : Nat), s.issuesAlone → s.armedFor 10 (fun _ _ => true) = false → Tab.wf 0 s.dir.wsave = true →
    s.dir.priv = false → ownedBy s.sys.fown s.sys.chid = false → ownedBy s.sys.aown s.sys.chid = false →
    ((v = 64 ∧ ∃ g : BitVec 3, c ∈ [.nop 1 none, .nop 0 (some 0x3FFF), .halt 1, .wfe 1, .reti 1, .ext 1 0, .jmp 1 g, .callIndirect 1 g, .ret 1,
        .dadd 1 g, .dsub 1 g, .divu 1 g, .divs 1 g, .abar 1, .rdor 1 g, .rdtally 1 g, .mset 1, .mclr 1, .minv 1, .mload 1 g, .halo 0 0 1,
        .yield 1, .unpark 1, .pload 1 g, .pstore 1 g, .ard 3 g, .awr 3 g, .mfs 0x3F, .mts 0x3F]) ∨
      (v = 65 ∧ ∃ g : BitVec 3, c ∈ [.halt 0, .halo 0 0 0, .yield 0, .unpark 0, .pload 0 g, .pstore 0 g, .awr 4 g, .mfs 0x36, .mts 0x36,
        .afloadWrite, .dstateNormalWrite, .fsave, .fload, .asave, .aload, .mtsWtuvh 0, .cuetime 3 0, .cuepost 3 0]) ∨
      (v = 73 ∧ ∃ d f : BitVec 3, c ∈ [.fmov d f, .fadd d f, .fceq d f, .fin f, .ftoi f, .mfs 6, .mts 6]) ∨
      (v = 74 ∧ ∃ g : BitVec 3, c ∈ [.abar 0, .mset 0, .mclr 0, .minv 0, .mload 0 g, .scriptCall 0, .ard 2 g, .awr 2 g])) →
    (s.dir.cwp.toNat < 14 → ∃ t, exec c s = .next t ∧ t.dir.pc = (s.sys.vbase ++ (0#10)) + BitVec.ofNat 18 (4 * v) ∧
      t.dir.saved (s.dir.cwp.toNat + 1) 8 = 0x800000 ||| s.dir.pc.setWidth 24 ∧ t.dir.a = s.dir.a ∧ State.only [.dir, .sys] s t) ∧
    (s.dir.cwp.toNat = 14 → ∃ t, exec c s = .next t ∧ t.dir.pc = (s.sys.vbase ++ (0#10)) + 268 ∧ t.dir.cwp = 15) ∧
    (s.dir.cwp.toNat = 15 → ∃ t, exec c s = .next t ∧ t.dir.run = .doubleFault ∧ t.err.sum.getLsbD 10 = true)

/-- RETI, and the checks that trap: the claims above together. -/
def Obligations.TrapReturnAndChecks : Prop :=
  Claim.ReturnFromTrap ∧ Claim.TrapChecks

/-- MFS (R118, R160, R166, R316): every assigned number answers its register in A; those marked P need privilege, FPCR the float unit (R192).  TBL reads
the timebase, in Double mode the pair time, and latches its upper part; MRL and MRH show the latest product that has left the pipeline. -/
def Sys2Proof.Claim.ReadSpecialRegister : Prop :=
  (∀ (s : State) (sr : BitVec 6), s.issuesAlone → srIllegal sr.toNat = false → (srPriv sr.toNat = true → s.dir.priv = true) →
    (sr = 6 → s.dir.priv = true ∨ ownedBy s.sys.fown s.sys.chid = true) →
    (sr ≠ 0x20 → sr ≠ 9 → sr ≠ 10 → exec (.mfs sr) s = .next (s.completed { s.dir with a := s.srValue sr.toNat } 1)) ∧
    (∀ m : BitVec 48, m = ((s.sys.mpipe.filter (fun p => decide (p.2 ≤ s.dir.cyc))).map (fun p => p.1)).getLastD s.sys.mr →
      ∀ v : Word, (sr = 9 ∧ v = fld m 0 24) ∨ (sr = 10 ∧ v = fld m 24 24) →
        exec (.mfs sr) s = .next ((s.completed { s.dir with a := v } 1).upSys (fun y =>
          { y with mr := m, mpipe := y.mpipe.filter (fun p => decide (s.dir.cyc < p.2)) }))) ∧
    (∀ T : BitVec 64, T = (if s.pair.st = .paired then s.pairTime else s.tbNow) →
      ∀ t, t = { s.completed { s.dir with a := T.setWidth 24, tbl := (T >>> 24).setWidth 40 } 1 with
          pair := if s.pair.st = .paired then { s.pair with plast := T } else s.pair } →
        exec .mfsTbl s = .next t ∧ (sr = 0x20 → exec (.mfs sr) s = .next t))) ∧
  ∀ s : State,
    s.srValue 0 = s.dir.mx.setWidth 24 ∧ s.srValue 1 = s.dir.my.setWidth 24 ∧ s.srValue 2 = s.dir.dp.setWidth 24 ∧ s.srValue 3 = s.dir.rc ∧
    s.srValue 4 = s.dir.ph ∧ s.srValue 5 = flagsWord s.dir s.sys.normal ∧ s.srValue 6 = s.dir.fpcr ∧
    s.srValue 7 = s.dir.wsel.setWidth 24 ∧ s.srValue 8 = s.wdat ∧ s.srValue 0xB = s.sys.sfch.setWidth 24 ∧ s.srValue 0xC = 0 ∧
    (∀ n, n < 8 → s.srValue (0x10 + n) = s.dir.aaN n) ∧
    s.srValue 0x18 = fld s.dir.evm 0 24 ∧ s.srValue 0x19 = fld s.dir.evm 24 24 ∧ s.srValue 0x1A = (fld s.dir.evm 48 16 : BitVec 16).setWidth 24 ∧
    s.srValue 0x1B = fld s.dir.evp 0 24 ∧ s.srValue 0x1C = fld s.dir.evp 24 24 ∧ s.srValue 0x1D = (fld s.dir.evp 48 16 : BitVec 16).setWidth 24 ∧
    s.srValue 0x21 = s.dir.tbl.setWidth 24 ∧ s.srValue 0x22 = (s.dir.tbl >>> 24).setWidth 24 ∧
    (∀ n, n < 12 → s.srValue (0x24 + n) = Tab.get 0 s.dir.wtuw n) ∧
    s.srValue 0x30 = s.sys.vbase.setWidth 24 ∧ s.srValue 0x31 = s.sys.tcause ∧ s.srValue 0x32 = s.sys.tdata ∧
    s.srValue 0x33 = s.sys.iact.setWidth 24 ∧ s.srValue 0x34 = s.sys.irqsel.setWidth 24 ∧
    s.srValue 0x35 = (Tab.get 0 s.sys.irqcfg s.sys.irqsel.toNat).setWidth 24 ∧ s.srValue 0x36 = s.sys.chid ∧
    s.srValue 0x37 = s.sys.rgsel.setWidth 24 ∧ s.srValue 0x38 = Tab.get 0 s.sys.rglo s.sys.rgsel.toNat ∧
    s.srValue 0x39 = (Tab.get 0 s.sys.rghi s.sys.rgsel.toNat).setWidth 24 ∧
    s.srValue 0x3A = (0#22) ++ bit1 s.sys.adirty ++ bit1 s.sys.fdirty ∧ s.srValue 0x3B = s.sys.fown.setWidth 24 ∧
    s.srValue 0x3C = s.sys.aown.setWidth 24 ∧ s.srValue 0x3E = (0#20) ++ s.sys.lastrst ++ bit1 s.sys.dfault ++ bit1 s.sys.normal

/-- MTS writes A to every special register that can be written (R118, R119, R120, R11): a read-only one takes nothing, a reserved encoding leaves
its field and is logged as REG_RSVD with source 2, a write of 1 to EVP clears, WTUVuH arms its unit, a write of DSTATE only sets NORMAL; unprivileged
code changes only C, V, DV and DVZ of FLAGS. -/
def Sys2Proof.Claim.WriteSpecialRegister : Prop :=
  ∀ (s : State) (w : Dir → Answer) (y : (Dsys → Dsys) → Answer), s.issuesAlone →
    w = (fun d => .next (s.completed d 1)) → y = (fun f => .next ((s.completed s.dir 1).upSys f)) →
    (∀ L : BitVec 19, L = fld s.dir.a 0 19 →
      (L.toNat ≤ 262144 → exec (.mts 0) s = w { s.dir with mx := L } ∧ exec (.mts 1) s = w { s.dir with my := L }) ∧
      (262144 < L.toNat → s.err.armed = none → ∀ sr : BitVec 6, sr = 0 ∨ sr = 1 →
        exec (.mts sr) s = .next ((s.completed s.dir 1).occur 11 0 ((2#2 ++ sr.setWidth 25 ++ 0#6 : BitVec 33).setWidth 64) false))) ∧
    exec (.mts 2) s = w { s.dir with dp := fld s.dir.a 0 8 } ∧
    exec (.mts 3) s = w { s.dir with rc := s.dir.a } ∧
    exec (.mts 4) s = w { s.dir with ph := s.dir.a } ∧
    ((s.dir.priv = true ∨ ownedBy s.sys.fown s.sys.chid = true) → (fld s.dir.a 16 3 : BitVec 3).toNat ≤ 4 →
      exec (.mts 6) s = .next ((s.completed { s.dir with fpcr := s.dir.a &&& 0x071F1F } 1).upSys (fun y => { y with fdirty := true }))) ∧
    ((s.dir.priv = true ∨ ownedBy s.sys.fown s.sys.chid = true) → 4 < (fld s.dir.a 16 3 : BitVec 3).toNat → s.err.armed = none →
      exec (.mts 6) s = .next (((s.completed { s.dir with fpcr := (s.dir.fpcr &&& 0x070000) ||| (s.dir.a &&& 0x001F1F) } 1).upSys
        (fun y => { y with fdirty := true })).occur 11 0 ((2#2 ++ 6#25 ++ 0#6 : BitVec 33).setWidth 64) false)) ∧
    (∀ n : BitVec 3, exec (.mts (0x10 + n.setWidth 6)) s = w { s.dir with aa := Tab.set 0 s.dir.aa n.toNat s.dir.a }) ∧
    (∀ sr : BitVec 6, sr ∈ [0x20, 0x21, 0x22] → exec (.mts sr) s = w s.dir) ∧
    (s.dir.priv = false → exec (.mts 5) s = w { s.dir with
      c := s.dir.a.getLsbD 0, v := s.dir.a.getLsbD 1, dv := s.dir.a.getLsbD 2, dvz := s.dir.a.getLsbD 3 }) ∧
    (s.dir.priv = true →
      exec (.mts 5) s = w { s.dir with
        c := s.dir.a.getLsbD 0, v := s.dir.a.getLsbD 1, dv := s.dir.a.getLsbD 2, dvz := s.dir.a.getLsbD 3, ie := s.dir.a.getLsbD 15,
        ipl := fld s.dir.a 16 3 } ∧
      ((fld s.dir.a 0 5 : BitVec 5).toNat ≤ 20 → exec (.mts 7) s = w { s.dir with wsel := fld s.dir.a 0 9 }) ∧
      (20 < (fld s.dir.a 0 5 : BitVec 5).toNat → s.err.armed = none → exec (.mts 7) s =
        .next ((s.completed { s.dir with wsel := (fld s.dir.a 5 4 : BitVec 4) ++ (fld s.dir.wsel 0 5 : BitVec 5) } 1).occur 11 0
          ((2#2 ++ 7#25 ++ 0#6 : BitVec 33).setWidth 64) false)) ∧
      exec (.mts 8) s = w (s.dir.setWdat s.dir.a) ∧
      (∀ sr : BitVec 6, sr ∈ [9, 10, 0x31, 0x32] → exec (.mts sr) s = w s.dir) ∧
      exec (.mts 0xB) s = y (fun y => { y with sfch := fld s.dir.a 0 18 }) ∧
      (∀ b : BitVec 4, b = fld s.dir.a 0 4 →
        (b = 0 → exec (.mts 0xC) s = w s.dir) ∧ (b = 1 → exec (.mts 0xC) s = exec .fsave s) ∧ (b = 2 → exec (.mts 0xC) s = exec .fload s) ∧
        (b = 4 → exec (.mts 0xC) s = exec .asave s) ∧ (b = 8 → exec (.mts 0xC) s = exec .aload s) ∧
        (∃ t, exec (.mts 0xC) s = .next t ∧ t.dir.pc = s.dir.pc + 1 ∧ t.dir.cyc = s.dir.cyc + sfopCycles b)) ∧
      exec (.mts 0x18) s = w { s.dir with evm := putFld s.dir.evm 0 s.dir.a } ∧
      exec (.mts 0x19) s = w { s.dir with evm := putFld s.dir.evm 24 s.dir.a } ∧
      exec (.mts 0x1A) s = w { s.dir with evm := putFld s.dir.evm 48 (fld s.dir.a 0 16 : BitVec 16) } ∧
      exec (.mts 0x1B) s = w { s.dir with evp := s.dir.evp &&& ~~~ s.dir.a.setWidth 64 } ∧
      exec (.mts 0x1C) s = w { s.dir with evp := s.dir.evp &&& ~~~ (s.dir.a.setWidth 64 <<< 24) } ∧
      exec (.mts 0x1D) s = w { s.dir with evp := s.dir.evp &&& ~~~ (s.dir.a.setWidth 64 <<< 48) } ∧
      (∀ u : BitVec 2, ∀ words : Tab Word,
        (∀ k, k < 2 → exec (.mts (0x24 + 3 * u.setWidth 6 + BitVec.ofNat 6 k)) s =
          w { s.dir with wtuw := Tab.set 0 s.dir.wtuw (3 * u.toNat + k) s.dir.a }) ∧
        (words = Tab.set 0 s.dir.wtuw (3 * u.toNat + 2) (s.dir.a &&& 0xFFFF) →
          ∀ d : Dir, d = { s.dir with
            wtuw := words,
            wtuv := Tab.set 0 s.dir.wtuv u.toNat
              (fld s.dir.a 0 16 ++ Tab.get 0 words (3 * u.toNat + 1) ++ Tab.get 0 words (3 * u.toNat)),
            wtuArmed := setBit s.dir.wtuArmed u.toNat true } →
          exec (.mtsWtuvh u) s = w d ∧ exec (.mts (0x26 + 3 * u.setWidth 6)) s = w d)) ∧
      exec (.mts 0x30) s = y (fun y => { y with vbase := fld s.dir.a 0 8 }) ∧
      exec (.mts 0x33) s = y (fun y => { y with iact := fld s.dir.a 0 8 }) ∧
      exec (.mts 0x34) s = y (fun y => { y with irqsel := fld s.dir.a 0 6 }) ∧
      exec (.mts 0x35) s = y (fun y => { y with irqcfg := Tab.set 0 y.irqcfg y.irqsel.toNat (fld s.dir.a 0 4) }) ∧
      exec (.mts 0x36) s = y (fun y => { y with chid := s.dir.a }) ∧
      exec (.mts 0x37) s = y (fun y => { y with rgsel := fld s.dir.a 0 9 }) ∧
      exec (.mts 0x38) s = y (fun y => { y with rglo := Tab.set 0 y.rglo y.rgsel.toNat (s.dir.a &&& 0xC003FF) }) ∧
      exec (.mts 0x39) s = y (fun y => { y with rghi := Tab.set 0 y.rghi y.rgsel.toNat (fld s.dir.a 0 10) }) ∧
      exec (.mts 0x3A) s = y (fun y => { y with adirty := y.adirty && !s.dir.a.getLsbD 1, fdirty := y.fdirty && !s.dir.a.getLsbD 0 }) ∧
      exec (.mts 0x3B) s = y (fun y => { y with fown := fld s.dir.a 0 19 }) ∧
      exec (.mts 0x3C) s = y (fun y => { y with aown := fld s.dir.a 0 19 }) ∧
      (∀ f : Dsys → Dsys, f = (fun y => { y with afEn := fld s.dir.a 8 5, afFlags := fld s.dir.a 0 5, adirty := true }) →
        exec .afloadWrite s = y f ∧ exec (.mts 0x3D) s = y f) ∧
      (∀ f : Dsys → Dsys, f = (fun y => { y with normal := y.normal || s.dir.a.getLsbD 0 }) →
        exec .dstateNormalWrite s = y f ∧ exec (.mts 0x3E) s = y f))

/-- MFS and MTS over the special registers: the claims above together. -/
def Obligations.SpecialRegisters : Prop :=
  Claim.ReadSpecialRegister ∧ Claim.WriteSpecialRegister

/-- The save-frame operations on channel SFCH (R189, Table 6-17) and the maintenance pipeline (R166): F0 to F7 and FPCR, AFSTAT, each to
and from the context; a load takes the words where none is uncorrectable. -/
def Obligations.SaveFrames : Prop :=
  ∀ (s : State), (s.issuesAlone → s.dir.priv = true →
    (∃ fr : BitVec 320, (∀ n : BitVec 3, fld fr (32 * n.toNat) 32 = s.dir.fr n) ∧ fld fr 256 24 = s.dir.fpcr ∧
      fld fr 280 40 = (fld (s.chan s.sys.sfch).frame 280 40 : BitVec 40) ∧
      exec .fsave s = .next ((s.completed s.dir 12).upChan s.sys.sfch (fun c => { c with frame := fr, ue := putFld c.ue 3 (0#5) }))) ∧
    exec .asave s = .next ((s.completed s.dir 2).upChan s.sys.sfch (fun c =>
      { c with frame := putFld (putFld c.frame 280 s.sys.afstat) 304 (0#16), ue := putFld c.ue 7 (0#1) })) ∧
    (s.armedFor 12 (fun _ a => a == s.sys.sfch.toNat) = false → s.armedFor 13 (fun _ a => a == s.sys.sfch.toNat) = false →
      fld (s.chan s.sys.sfch).ue 3 5 = (0 : BitVec 5) →
      (∃ t, exec .fload s = .next t ∧ t.sys.fdirty = true ∧
        t.dir.fpcr = (fld (s.chan s.sys.sfch).frame 256 24 &&& 0x071F1F : BitVec 24) ∧
        (∀ n : BitVec 3, Tab.wf 0 s.dir.f = true → t.dir.fr n = fld (s.chan s.sys.sfch).frame (32 * n.toNat) 32) ∧ State.only [.dir, .sys] s t) ∧
      (∃ t, exec .aload s = .next t ∧ t.sys.afEn = fld (s.chan s.sys.sfch).frame 288 5 ∧
        t.sys.afFlags = fld (s.chan s.sys.sfch).frame 280 5 ∧ t.sys.adirty = true ∧ State.only [.dir, .sys] s t))) ∧
  (∀ p rest, s.sys.mpipe = p :: rest → exec .maintProductReady s =
    .next ((s.upDir (fun d => { d with cyc := max d.cyc p.2 })).upSys (fun y => { y with mr := p.1, mpipe := rest })))

/-! ## Array instructions (chapters 2, 3 and 5) -/

/-- Script calls (R24, R75, R76, R145): a call that no condition of R75 refuses joins the queue with AA0 to AA7, PR0 to PR3 and the
channel of its issue; a full queue holds the Director until a place is free; a refused call traps with MSTAT.REFUSE and queues nothing. -/
def Sys2Proof.Claim.ScriptCalls : Prop :=
  ∀ (s : State) (idx : BitVec 10) (t : BitVec 320) (e : Entry) (n : Nat), s.issuesAlone →
    (s.dir.priv = true ∨ ownedBy s.sys.aown s.sys.chid = true) → t = Tab.get 0 s.seq.table idx.toNat →
    n = (match tArgOf t 4 with | some k => (Tab.get 0 s.dir.aa k).toNat - tCntm1 t | none => 0) →
    e = { kind := .script, idx := idx, aa := s.dir.aa, pr := s.seq.pr, ch := fld s.sys.chid 0 18, total := tFc t + tFs t * n,
          serial := s.seq.serial, order := s.seq.serial } →
    ∀ go : State, go = (((s.completed s.dir 1).upSeq (fun q => { q with queue := q.queue ++ [e], serial := q.serial + 1 })).upSys
        (fun y => { y with adirty := true })).upCrew (fun _ => (s.nameEntry e).crew) →
    (s.callRefused idx = none → s.seq.queue.length < 4 →
      exec (.scriptCall idx) s = .next go ∧
      exec .callQueueResume (s.upDir (fun d => { d with hold := .queue (.scriptCall idx) })) = .next go) ∧
    (s.callRefused idx = none → 4 ≤ s.seq.queue.length →
      exec (.scriptCall idx) s = .next (s.upDir (fun d => { d with hold := .queue (.scriptCall idx) }))) ∧
    (∀ r, s.callRefused idx = some r → s.dir.cwp.toNat < 14 → s.armedFor 10 (fun _ _ => true) = false →
      ∃ u, exec (.scriptCall idx) s = .next u ∧ u.dir.pc = (s.sys.vbase ++ (0#10)) + 272 ∧ u.sys.tdata = idx.setWidth 24 ∧
        u.seq = { s.seq with refuse := r } ∧ State.only [.dir, .sys, .seq] s u) ∧
    (t.msb = false → s.callRefused idx = some 1) ∧
    (t.msb = true → t.getLsbD 317 = true → s.dir.priv = false → s.callRefused idx = some 2) ∧
    (t.msb = true → t.getLsbD 317 = false → t.getLsbD 316 = false → fld t 310 6 ≠ (fld s.sys.chid 18 6 : BitVec 6) →
      s.callRefused idx = some 3)

/-- YIELD and UNPARK (R82 to R84): a yield leaves a request, padding ends at once, with eight levels taken it is refused, and while a switch
sequence runs it holds; an unpark of
nothing is no operation, one that fits puts the latest level's entries at the end of the queue, counting as issued now, and one that does
not holds. -/
def Sys2Proof.Claim.YieldAndUnpark : Prop :=
  ∀ s : State,
    (s.issuesAlone → s.dir.priv = true →
      (s.seq.switching = true → exec (.yield 0) s = .next (s.upDir (fun d => { d with hold := .yield }))) ∧
      (s.seq.switching = false →
      (s.seq.park.length + s.seq.reqs.length < 8 → exec (.yield 0) s = .next ((s.completed s.dir 1).upSeq (fun q => { q with
        reqs := q.reqs ++ [q.serial],
        run := q.run.map (fun r => { r with remain := if r.ended then 0 else r.remain, ckpt := r.ckpt && !q.reqs.isEmpty }) }))) ∧
      (8 ≤ s.seq.park.length + s.seq.reqs.length → s.dir.cwp.toNat < 14 → s.armedFor 10 (fun _ _ => true) = false →
        ∃ u, exec (.yield 0) s = .next u ∧ u.seq = { s.seq with refuse := 0xA } ∧ u.dir.pc = (s.sys.vbase ++ (0#10)) + 272)) ∧
      (s.seq.park = [] → exec (.unpark 0) s = .next (s.completed s.dir 1)) ∧
      (∀ e l rest, s.seq.park = (e :: l) :: rest → s.seq.run ≠ none →
        (s.seq.queue.length + l.length ≤ 3 → exec (.unpark 0) s = .next ((s.completed s.dir 1).upSeq (fun q => { q with
          park := rest, serial := q.serial + 1, queue := q.queue ++ (e :: l).map (fun x => { x with order := q.serial }) }))) ∧
        (3 < s.seq.queue.length + l.length → exec (.unpark 0) s = .next (s.upDir (fun d => { d with hold := .unpark }))))) ∧
    (s.sys.rep = none → s.sys.ext = none → s.paired = false → s.dir.hold = .unpark → s.seq.run ≠ none →
      ∀ l rest, s.seq.park = l :: rest → s.seq.queue.length + l.length ≤ 4 →
        exec .unparkResume s = .next ((s.completed { s.dir with hold := .none } 1).upSeq (fun q => { q with
          park := rest, serial := q.serial + 1, queue := q.queue ++ l.map (fun x => { x with order := q.serial }) })))

/-- Script calls, yield and unpark: the claims above together. -/
def Obligations.ScriptQueue : Prop :=
  Claim.ScriptCalls ∧ Claim.YieldAndUnpark

/-- Mask, halo and plane transfer entries (R77, R147, R148, R351): each joins the queue with its plane, PBASE of its sub-bank plus the
offset of a CH-mode address, which must lie below PCNT. -/
def Obligations.ArrayEntries : Prop :=
  ∀ (s : State) (g : BitVec 3) (edge : BitVec 2) (slot : BitVec 3) (a : BitVec 12) (p : BitVec 12) (w : Word)
    (go : EntryKind → Nat → State), s.issuesAlone → s.dir.priv = true → s.seq.queue.length < 4 →
    w = Tab.get 0 s.seq.pr (fld a 10 2 : BitVec 2).toNat → p = fld a 10 2 ++ (fld w 0 10 + fld a 0 10) →
    go = (fun k n => (s.completed s.dir 1).upSeq (fun q => { q with
      queue := q.queue ++ [{ kind := k, idx := 0, aa := s.dir.aa, pr := s.seq.pr, ch := fld s.sys.chid 0 18, total := n,
                             serial := s.seq.serial, order := s.seq.serial }], serial := q.serial + 1 })) →
    exec (.mset 0) s = .next ((go .mset 1).upSys (fun y => { y with adirty := true })) ∧
    exec (.mclr 0) s = .next ((go .mclr 1).upSys (fun y => { y with adirty := true })) ∧
    exec (.minv 0) s = .next ((go .minv 1).upSys (fun y => { y with adirty := true })) ∧
    ((fld a 0 10 : BitVec 10).toNat < (fld w 10 11 : BitVec 11).toNat → fld (s.dir.g g) 0 12 = a →
      exec (.mload 0 g) s = .next ((go (.mload p) 1).upSys (fun y => { y with adirty := true }))) ∧
    ((fld a 0 10 : BitVec 10).toNat < (fld w 10 11 : BitVec 11).toNat → fld s.dir.a 0 12 = a → s.dir.a.getLsbD 12 = false →
      exec (.halo edge slot 0) s = .next ((go (.halo edge slot (some p)) 1).upSys (fun y => { y with adirty := true }))) ∧
    (s.dir.a.getLsbD 12 = true →
      exec (.halo edge slot 0) s = .next ((go (.halo edge slot none) 1).upSys (fun y => { y with adirty := true }))) ∧
    (∀ n line : Nat, n = (fld (s.dir.g g) 12 6 : BitVec 6).toNat + 1 → line = (fld s.dir.a 0 18 : BitVec 18).toNat →
      fld (s.dir.g g) 0 12 = a → (fld a 0 10 : BitVec 10).toNat + n ≤ (fld w 10 11 : BitVec 11).toNat → line + 512 * n ≤ 147456 →
      exec (.pstore 0 g) s = .next (go (.transfer false p n line) (512 * n + 50)) ∧
      (fld a 10 2 ≠ (3 : BitVec 2) → exec (.pload 0 g) s = .next (go (.transfer true p n line) (512 * n + 50))))

/-- ABAR and its end (R113, R114): the entry reads the region at AA7 of sub-bank 0 and the Director holds; the five results merge into
AFSTAT.FLAGS, raise event 43 when one is 1, and trap to ARRAY_FP at the next word when an enabled one is. -/
def Sys2Proof.Claim.ArrayBarrier : Prop :=
  (∀ s : State, s.issuesAlone → (s.dir.priv = true ∨ ownedBy s.sys.aown s.sys.chid = true) → s.seq.queue.length < 4 →
    (Tab.get 0 s.dir.aa 7).toNat + 5 ≤ (fld (Tab.get 0 s.seq.pr 0) 10 11 : BitVec 11).toNat →
    exec (.abar 0) s = .next ((s.upSeq (fun q => { q with
      queue := q.queue ++ [{ kind := .abar, idx := 0, aa := s.dir.aa, pr := s.seq.pr, ch := fld s.sys.chid 0 18, total := 13,
                             serial := s.seq.serial, order := s.seq.serial }], serial := q.serial + 1 })).upDir
      (fun d => { d with hold := .abar s.seq.serial }))) ∧
  (∀ (s : State) (n k : Nat) (f : BitVec 5), s.dir.run = .running → s.dir.hold = .abar n → s.sys.rep = none → s.sys.ext = none →
    s.paired = false → Tab.get (0, 0) s.seq.abarRes n = (f, k) → 5 ≤ k →
    (f &&& s.sys.afEn = 0 → exec .abarRetire s = .next (((s.completed { s.dir with
        hold := .none, evp := if f = 0 then s.dir.evp else setBit s.dir.evp 43 true } 1).upSys
          (fun y => { y with afFlags := y.afFlags ||| f, adirty := true })).upSeq
            (fun q => { q with abarRes := Tab.set (0, 0) q.abarRes n (0, 0) }))) ∧
    (f &&& s.sys.afEn ≠ 0 → s.dir.cwp.toNat < 14 → Tab.wf 0 s.dir.wsave = true → s.armedFor 10 (fun _ _ => true) = false →
      ∃ u, exec .abarRetire s = .next u ∧ u.dir.pc = (s.sys.vbase ++ (0#10)) + 276 ∧ u.sys.tdata = f.setWidth 24 ∧
        u.sys.afFlags = s.sys.afFlags ||| f ∧ u.dir.saved (s.dir.cwp.toNat + 1) 8 = 0x800000 ||| (s.dir.pc + 1).setWidth 24))

/-- Result reads and array registers (R26, R54, R149): with a new result held and no sampling under way RDOR and RDTALLY take it at once, else
they hold until one has arrived, and no result is read twice; ARD and AWR reach MSTAT, YIELD_ON, AFSTAT and PR0 to PR3. -/
def Sys2Proof.Claim.ArrayResults : Prop :=
  ∀ (s : State) (g : BitVec 3),
    (s.issuesAlone →
      (s.seq.samples = [] → s.seq.queue = [] → s.seq.run = none →
        (s.seq.orTaken = false → exec (.rdor 0 g) s =
          .next ((s.completed (s.dir.setG g (if s.seq.resOr then 1 else 0)) 1).upSeq (fun q => { q with orTaken := true }))) ∧
        (s.seq.tallyTaken = false → exec (.rdtally 0 g) s =
          .next ((s.completed (s.dir.setG g (s.seq.resTally.setWidth 24)) 1).upSeq (fun q => { q with tallyTaken := true })))) ∧
      ((s.seq.orTaken = true ∨ ∃ x ∈ s.seq.samples, x.abar = none ∧ x.tally = false) →
        exec (.rdor 0 g) s = .next (s.upDir (fun d => { d with hold := .rdor g }))) ∧
      ((s.seq.tallyTaken = true ∨ ∃ x ∈ s.seq.samples, x.abar = none ∧ x.tally = true) →
        exec (.rdtally 0 g) s = .next (s.upDir (fun d => { d with hold := .rdtally g }))) ∧
      (s.dir.priv = true →
        (s.seq.run = none → exec (.ard 0 g) s = .next (s.completed (s.dir.setG g
          (bit1 s.seq.resumeRefused ++ (0#2) ++ BitVec.ofNat 4 s.seq.park.length ++ BitVec.ofNat 3 s.seq.queue.length ++ s.seq.refuse ++ (0#10))) 3)) ∧
        (∀ r, s.seq.run = some r → r.sw = none → exec (.ard 0 g) s = .next (s.completed (s.dir.setG g
          (bit1 s.seq.resumeRefused ++ (2#2) ++ BitVec.ofNat 4 s.seq.park.length ++ BitVec.ofNat 3 s.seq.queue.length ++ s.seq.refuse ++ r.e.idx)) 3)) ∧
        exec (.awr 0 g) s = .next ((s.completed s.dir 3).upSeq (fun q => { q with
          resumeRefused := q.resumeRefused && !(s.dir.g g).getLsbD 23 })) ∧
        exec (.ard 1 g) s = .next (s.completed (s.dir.setG g (s.seq.yieldOn.setWidth 24)) 3) ∧
        exec (.awr 1 g) s = .next ((s.completed s.dir 3).upSeq (fun q => { q with yieldOn := (s.dir.g g).setWidth 8 })) ∧
        exec (.ard 2 g) s = .next (s.completed (s.dir.setG g ((0#11) ++ s.sys.afEn ++ (0#3) ++ s.sys.afFlags)) 3) ∧
        exec (.awr 2 g) s = .next ((s.completed s.dir 3).upSys (fun y => { y with
          afEn := fld (s.dir.g g) 8 5, afFlags := y.afFlags &&& ~~~ fld (s.dir.g g) 0 5, adirty := true })) ∧
        (∀ sel : BitVec 3, 4 ≤ sel.toNat →
          exec (.ard sel g) s = .next (s.completed (s.dir.setG g (Tab.get 0 s.seq.pr (sel.toNat - 4))) 3) ∧
          (∀ base cnt : Nat, base = (fld (s.dir.g g) 0 10 : BitVec 10).toNat → cnt = (fld (s.dir.g g) 10 11 : BitVec 11).toNat → cnt ≤ 1024 →
            exec (.awr sel g) s = .next ((s.completed s.dir 3).upSeq (fun q => { q with
              pr := Tab.set 0 q.pr (sel.toNat - 4) (BitVec.ofNat 24 (min cnt (1024 - base) * 1024 + base)) })))))) ∧
    (s.sys.rep = none → s.sys.ext = none → s.paired = false → s.seq.samples = [] → s.seq.queue = [] → s.seq.run = none →
      (s.dir.hold = .rdor g → s.seq.orTaken = false → exec .rdorComplete s =
        .next ((s.completed { s.dir.setG g (if s.seq.resOr then 1 else 0) with hold := .none } 2).upSeq (fun q => { q with orTaken := true }))) ∧
      (s.dir.hold = .rdtally g → s.seq.tallyTaken = false → exec .rdtallyComplete s =
        .next ((s.completed { s.dir.setG g (s.seq.resTally.setWidth 24) with hold := .none } 2).upSeq (fun q => { q with tallyTaken := true }))))

/-- ABAR and the result reads: the claims above together. -/
def Obligations.ArrayBarrierAndResults : Prop :=
  Claim.ArrayBarrier ∧ Claim.ArrayResults

/-! ## The micro-sequencer and the array (chapters 2 and 3) -/

/-- One microword of a script in every PE (R34, R35, Tables 2-2 and 2-3), for a word that moves nothing, reads port B at one plane and
drives no align operation: the result by the truth table, the loads and the write in the active PEs, M in every PE, the carry; and the
micro-PC and counters by SEQ (R67, Table 3-2). -/
def Obligations.MicrowordExecutes : Prop :=
  ∀ (s : State) (r q : Run) (w : MicroW) (ix : Nat), s.seq.run = some r → r.e.kind = .script → r.sw = none → 0 < r.remain → r.ended = false →
    (r.ckpt = false ∨ s.seq.reqs = []) → s.seq.isRom r.e.idx = false → w = Tab.get 0 s.seq.cs r.upc.toNat →
    ix = (Tab.get 0 r.ix w.isel).toNat → w.cap = 0 → w.tree = 0 → w.sdist = 0 → w.kadr = 0 → w.kop = 0 →
    s.seq.samples = [] → s.arr.poison = [] → s.err.armed = none → Memory.wf s = true → w.seq ≤ 5 →
    q = (match w.seq with
      | 1 => { r with upc := w.tgt }
      | 2 => { r with upc := if r.holds w.cond then w.tgt else r.upc + 1 }
      | 3 => { r with lc := Tab.set 0 r.lc w.lcsel (Tab.get 0 r.lc w.lcsel - 1), ix := Tab.upd 0 r.ix w.lcsel (· + 1),
                      upc := if Tab.get 0 r.lc w.lcsel = 1 then r.upc + 1 else w.tgt }
      | 4 => { r with lc := Tab.set 0 r.lc w.lcsel (if w.tgt.msb then
                        fld (Tab.get 0 r.e.aa (fld w.tgt 0 3 : BitVec 3).toNat) 0 12 - (fld w.tgt 12 1 : BitVec 1).setWidth 12 else fld w.tgt 0 12),
                      ix := Tab.set 0 r.ix w.lcsel 0, upc := r.upc + 1 }
      | 5 => { r with ended := true }
      | _ => { r with upc := r.upc + 1 }) →
    ∃ t, exec .microword s = .next t ∧ State.only [.arr, .seq] s t ∧
      (∀ n : Nat, n = (if w.seq = 5 ∧ s.seq.reqs ≠ [] then 0 else r.remain - 1) → t.seq = { s.seq with
        cyc := s.seq.cyc + 1, freshOr := none, freshTally := none,
        run := some { q with remain := n, phase := r.phase + 1, ckpt := w.chk } }) ∧
      ∀ i, i < 262144 → ∀ a b c act res : Bool,
        a = (Tab.get 0 s.arr.mem (relocate r.e ix w.ra)).getLsbD i → b = (Tab.get 0 s.arr.mem (relocate r.e ix w.rb)).getLsbD i →
        c = (s.arr.cIn w.csel).getLsbD i → act = (if w.msk = 1 then s.arr.m.getLsbD i else if w.msk = 2 then !s.arr.m.getLsbD i else true) →
        res = w.tt.getLsbD (4 * a.toNat + 2 * b.toNat + c.toNat) →
        t.arr.m.getLsbD i = (if w.lm then res else s.arr.m.getLsbD i) ∧
        t.arr.t.getLsbD i = (if w.lt && act then res else s.arr.t.getLsbD i) ∧
        t.arr.f.getLsbD i = (if w.lf && act then res else s.arr.f.getLsbD i) ∧
        t.arr.g.getLsbD i = (if w.lg && act then res else s.arr.g.getLsbD i) ∧
        t.arr.q.getLsbD i = (if w.lq && act then res else s.arr.q.getLsbD i) ∧
        t.arr.s.getLsbD i = (if w.ls && act then res else s.arr.s.getLsbD i) ∧
        t.arr.c.getLsbD i = (if !act then s.arr.c.getLsbD i else match w.cf with
          | 1 => (a && b) || (a && c) || (b && c)
          | 2 => (a && !b) || (a && c) || (!b && c)
          | 3 => res
          | 4 => false
          | 5 => true
          | _ => s.arr.c.getLsbD i) ∧
        ∀ p, (Tab.get 0 t.arr.mem p).getLsbD i =
          (if w.we && decide (p = relocate r.e ix w.wa) && act then res else (Tab.get 0 s.arr.mem p).getLsbD i)

/-- A shadow write (R56): unless the microword of the cycle writes sub-bank 3, a tile writes the 32 bits of its head segment, one plane's
row in its 32 columns, and nothing else of local memory; with no head it takes the next segment. -/
def Sys2Proof.Claim.ShadowWrite : Prop :=
  ∀ (s : State) (tile : BitVec 8), Memory.wf s = true →
    (s.arr.sb3 = true → exec (.shadowWrite tile) s = .next s) ∧
    (s.arr.sb3 = false → Tab.get none s.arr.shHead tile.toNat = none →
      exec (.shadowWrite tile) s = .next (s.upArr (fun a => a.refill tile.toNat))) ∧
    (∀ g, s.arr.sb3 = false → Tab.get none s.arr.shHead tile.toNat = some g →
      ∃ t, exec (.shadowWrite tile) s = .next t ∧ State.only [.arr, .ing] s t ∧
        ∀ p i, i < 262144 → (Tab.get 0 t.arr.mem p).getLsbD i =
          (if p = g.plane.toNat ∧ i / 512 = g.row.toNat ∧ i % 512 / 32 = tile.toNat % 16 then g.bits.getLsbD (i % 32)
           else (Tab.get 0 s.arr.mem p).getLsbD i))

/-- The results of the trees (R51, R52, R54): an OR sample is readable 8 array cycles after its microword, a tally sample 19; the result
register takes it and event 42 is raised. -/
def Sys2Proof.Claim.TreeResults : Prop :=
  ∀ (s : State) (x : Sample) (xs : List Sample), s.seq.samples = x :: xs → x.abar = none → s.seq.run = none → s.err.armed = none →
    (x.tally = false → exec .orResultReady s = .next ((s.upSeq (fun q => { q with
      cyc := max q.cyc (x.cyc + 8), samples := xs, resOr := decide (x.count ≠ 0), orTaken := false, freshOr := some x.count })).raise 42)) ∧
    (x.tally = true → exec .tallyResultReady s = .next ((s.upSeq (fun q => { q with
      cyc := max q.cyc (x.cyc + 19), samples := xs, resTally := BitVec.ofNat 19 x.count, tallyTaken := false, freshTally := some x.count })).raise 42))

/-- Shadow writes and the reduction trees: the claims above together. -/
def Obligations.ShadowAndTrees : Prop :=
  Claim.ShadowWrite ∧ Claim.TreeResults

/-- The queue's entries start and end (R24, R25, R71, R82, R83, R88, R351): the head starts when none issues and no request waits, a resume with its
restore cycles; a script ends when its charged count has issued, with event 40; a request with none issuing parks the entries issued before it as
one level; a plane transfer moves row y of plane p + k to or from staging line n + 512 k + y. -/
def Sys2Proof.Claim.EntriesStartAndEnd : Prop :=
  (∀ (s : State) (e : Entry) (es : List Entry), s.seq.run = none → s.seq.reqs = [] → s.seq.queue = e :: es →
    e.kind.isTransfer = false → (∀ h ∈ s.crew.sends, h.snap ≠ none ∨ e.order < h.serial) →
    exec .entryStart s = .next (s.upSeq (fun q => { q with queue := es, runs := q.runs + 1, run := some {
      e := e, upc := fld (Tab.get 0 q.table e.idx.toNat) 296 14, lc := [], ix := [], cix := 0, remain := e.total, phase := 0, orb := false,
      allb := false, countb := 0, ended := false, ckpt := false, run := q.runs, sw := if e.kind = .resume then some (20, false) else none,
      incoming := decide (e.kind = .resume), loads := false } }))) ∧
  (∀ (s : State) (r : Run), s.seq.run = some r → r.e.kind = .script → r.remain = 0 → r.sw = none → s.seq.isRom r.e.idx = false →
    exec .scriptEnd s = .next ((s.upSeq (fun q => { q with run := none })).raise 40)) ∧
  (∀ (s : State) (r : Nat), s.seq.run = none → s.seq.reqs = [r] →
    exec .yieldEffect s = .next (s.upSeq (fun q => { q with
      reqs := [], park := q.queue.filter (fun e => decide (e.order < r)) :: q.park,
      queue := q.queue.filter (fun e => decide (r ≤ e.order)) }))) ∧
  (∀ (s : State) (r : Run) (b : Bool) (p : BitVec 12) (n line : Nat), s.seq.run = some r → r.e.kind = .transfer b p n line →
    r.phase ≤ 48 → r.e.total = 512 * n + 50 →
    p.toNat % 1024 + n ≤ 1024 → line + 512 * n ≤ 147456 → Memory.wf s = true → s.arr.poison = [] → s.banks.poison = [] →
    s.banks.phase = [] → s.err.armed = none →
    ∃ t, exec .planeTransferEnd s = .next t ∧ t.seq = { s.seq with run := none, cyc := s.seq.cyc + (r.e.total - r.phase) } ∧
      (s.dir.run ≠ .held → t.dir.evp.getLsbD 40 = true) ∧
      (b = true → State.only [.arr, .seq, .dir] s t ∧ ∀ k y, k < n → y < 512 →
        rowOf (Tab.get 0 t.arr.mem (p.toNat + k)) y = s.banks.line ((line + 512 * k + y) / 16384) ((line + 512 * k + y) % 16384)) ∧
      (b = false → State.only [.banks, .seq, .dir] s t ∧ ∀ k y, k < n → y < 512 →
        t.banks.line ((line + 512 * k + y) / 16384) ((line + 512 * k + y) % 16384) = rowOf (Tab.get 0 s.arr.mem (p.toNat + k)) y))

/-- The switch of a resumable script at a checkpoint, cycle by cycle (R82, R83, R85 to R88, Table 3-9): the request parks the level with the
script's resume first; y0 to y12 put C, T, M, F, G, Q, S and K into reserved planes 0 to 12, y19 the resume record into row 0 of plane 13, y20
clears the PE registers and y21 sets M; a resume's y22 checks its record, y23 to y35 load the registers again and clear VALID; y39 ends the
sequence with event 41, and a resumed script issues next. -/
def Sys2Proof.Claim.SwitchSavesScript : Prop :=
  (∀ (s : State) (r : Run) (q : Nat), s.seq.run = some r → r.sw = none → r.ckpt = true → s.seq.reqs = [q] →
    (Tab.get 0 s.seq.table r.e.idx.toNat).getLsbD 318 = true →
    exec .yieldEffect s = .next (s.upSeq (fun x => { x with
      reqs := [], run := some { r with sw := some (0, true) },
      park := ({ r.e with kind := .resume, total := r.remain } :: x.queue.filter (fun e => decide (e.order < q))) :: x.park,
      queue := x.queue.filter (fun e => decide (q ≤ e.order)) }))) ∧
  (∀ (s : State) (r : Run) (y : Nat) (full : Bool) (a : Arr) (sq : Run → Seq), s.seq.run = some r → r.sw = some (y, full) → s.seq.samples = [] →
    s.err.armed = none → s.arr.poison = [] → Memory.wf s = true → a = { s.arr with sb3 := false } →
    sq = (fun r => { s.seq with cyc := s.seq.cyc + 1, freshOr := none, freshTally := none, run := some { r with sw := some (y + 1, full) } }) →
    (y ≤ 12 → ∃ m, exec .microword s = .next { s with seq := sq r, arr :=
        if y ≤ 6 then { a with mem := m } else { a with mem := m, k0 := a.k1, k1 := a.k2, k2 := a.k3, k3 := a.k4, k4 := a.k5, k5 := a.k0 } } ∧
      ∀ p, Tab.get 0 m p =
        if p = r.e.reserved y then [a.c, a.t, a.m, a.f, a.g, a.q, a.s].getD y a.k0 else Tab.get 0 s.arr.mem p) ∧
    (y = 19 → (∀ e ∈ s.seq.queue.head?, e.kind ≠ .resume) → ∃ m, exec .microword s = .next { s with seq := sq r, arr := { a with mem := m } } ∧
      rowOf (Tab.get 0 m (r.e.reserved 13)) 0 = r.record false ∧
      (∀ k, 0 < k → k < 512 → rowOf (Tab.get 0 m (r.e.reserved 13)) k = rowOf (Tab.get 0 s.arr.mem (r.e.reserved 13)) k) ∧
      ∀ p, p ≠ r.e.reserved 13 → Tab.get 0 m p = Tab.get 0 s.arr.mem p) ∧
    (y = 20 → exec .microword s = .next { s with seq := sq r, arr :=
      { a with c := 0, t := 0, f := 0, g := 0, q := 0, s := 0, k0 := 0, k1 := 0, k2 := 0, k3 := 0, k4 := 0, k5 := 0 } }) ∧
    (y = 21 → exec .microword s = .next { s with seq := sq r, arr := { a with m := allPes } }) ∧
    (12 < y ∧ y < 19 ∨ 35 < y ∧ y < 39 ∨ y = 22 ∧ r.incoming = false ∨ 22 < y ∧ y < 36 ∧ r.loads = false →
      exec .microword s = .next { s with seq := sq r, arr := a }) ∧
    (y = 22 → r.incoming = true → ∀ x : BitVec 512, x = rowOf (Tab.get 0 s.arr.mem (r.e.reserved 13)) 0 →
      (recordOk r.e x = true → exec .microword s = .next { s with arr := a, seq :=
        { (sq { (resumed r.e x s.seq.runs) with incoming := true, loads := true }) with runs := s.seq.runs + 1 } }) ∧
      (recordOk r.e x = false → ∃ t, exec .microword s = .next t ∧ t.seq = { (sq r) with resumeRefused := true } ∧ t.arr = a ∧
        t.err.sum.getLsbD 4 = true)) ∧
    (22 < y → y < 35 → r.loads = true → ∀ v : Plane, v = Tab.get 0 s.arr.mem (r.e.reserved (if y ≤ 24 then y - 23 else y - 22)) →
      exec .microword s = .next { s with seq := sq r, arr :=
        if y = 23 then { a with c := v } else if y = 24 then { a with t := v } else if y = 25 then { a with f := v }
        else if y = 26 then { a with g := v } else if y = 27 then { a with q := v } else if y = 28 then { a with s := v }
        else { a with k0 := a.k1, k1 := a.k2, k2 := a.k3, k3 := a.k4, k4 := a.k5, k5 := v } }) ∧
    (y = 35 → r.loads = true → ∃ m, exec .microword s = .next { s with seq := sq r, arr :=
        { a with m := Tab.get 0 s.arr.mem (r.e.reserved 2), mem := m } } ∧
      (∀ i, i < 262144 → (Tab.get 0 m (r.e.reserved 13)).getLsbD i =
        ((Tab.get 0 s.arr.mem (r.e.reserved 13)).getLsbD i && decide (i ≠ 495))) ∧
      ∀ p, p ≠ r.e.reserved 13 → Tab.get 0 m p = Tab.get 0 s.arr.mem p) ∧
    (y = 39 → ∃ t, exec .microword s = .next t ∧ State.only [.arr, .seq, .dir] s t ∧ t.arr = a ∧
      (full = true → s.dir.run ≠ .held → t.dir.evp.getLsbD 41 = true) ∧
      (r.loads = false → t.seq = { (sq r) with run := none } ∧ (r.incoming = true → s.dir.run ≠ .held → t.dir.evp.getLsbD 40 = true)) ∧
      (r.loads = true → t.seq = { (sq r) with run := some { r with sw := none, incoming := false, loads := false, ckpt := !full } })))

/-- Entries start, end and are switched: the claims above together. -/
def Obligations.EntriesAndSwitches : Prop :=
  Claim.EntriesStartAndEnd ∧ Claim.SwitchSavesScript

/-! ## The Splice coprocessor opcodes and the cue list (chapters 5, 9 and 13) -/

/-- A Splice opcode (R150, R151, R369, R370): the request carries the words that the send field names and the Director holds; an answer
writes what the receive field names; a withdrawn request has its first late answer counted; with no answer the Director traps at the
opcode word. -/
def Obligations.SpliceOpcodes : Prop :=
  ∀ (s : State) (op : BitVec 6) (snd rcv : BitVec 2), s.err.armed = none →
    (s.issuesAlone → (op.toNat < 0x30 ∨ s.dir.priv = true) → (op.toNat < 0x38 ∨ op.toNat = 0x3C ∨ op.toNat = 0x3D) →
      exec (.spliceOpcode op snd rcv) s = .next ((s.upSpl (fun x => { x with
        op := some { op := op, a := if snd = 0 then 0 else s.dir.a, x := if snd.toNat < 2 then 0 else s.dir.x,
                     y := if snd = 3 then s.dir.y else 0 }, withdrawn := none })).upDir (fun d => { d with hold := .opcode op snd rcv }))) ∧
    (∀ (q : OpReq) (d0 d1 : Word), s.dir.hold = .opcode op snd rcv → s.spl.op = some q → s.sys.rep = none → s.sys.ext = none →
      s.paired = false → exec (.opcodeAnswer d0 d1) s = .next ((s.completed { (match rcv.toNat with
          | 0 => s.dir
          | 1 => { s.dir with a := d0 }
          | 2 => { s.dir with a := d0, ph := d1 }
          | _ => s.dir.setG 0 d0) with hold := .none } 10).upSpl (fun x => { x with op := none }))) ∧
    (∀ q : OpReq, s.spl.op = some q →
      exec .opcodeWithdrawal s = .next (s.upSpl (fun x => { x with op := none, withdrawn := some q.op }))) ∧
    (∀ (q : BitVec 6) (d0 d1 : Word), s.dir.hold = .none → s.spl.withdrawn = some q →
      ∃ t, exec (.opcodeAnswer d0 d1) s = .next t ∧ t.spl = { s.spl with lateAns := satInc s.spl.lateAns, withdrawn := none } ∧
        t.err.sum = setBit s.err.sum 30 true ∧ t.dir = s.dir) ∧
    (s.dir.hold = .opcode op snd rcv → s.sys.rep = none → s.sys.ext = none → s.dir.cwp.toNat < 14 → Tab.wf 0 s.dir.wsave = true →
      ∃ t, exec .spliceNoanswer s = .next t ∧ t.dir.pc = (s.sys.vbase ++ (0#10)) + 284 ∧ t.sys.tdata = op.setWidth 24 ∧
        t.spl.op = none ∧ t.dir.saved (s.dir.cwp.toNat + 1) 8 = 0x800000 ||| s.dir.pc.setWidth 24 ∧ t.dir.a = s.dir.a)

/-- CUETIME and CUEPOST (R28, R260): the latch takes Y[15:0] : X : A; an entry leaves with a credit, without one the Director holds until
one returns. -/
def Sys2Proof.Claim.CuePort : Prop :=
  ∀ (s : State) (e : CuePost), s.paired = false →
    e = { time := s.cue.latch, a := s.dir.a, x := s.dir.x, y := s.dir.y, ch := fld s.sys.chid 0 18 } →
    (s.issuesAlone → s.dir.priv = true →
      exec (.cuetime 3 0) s = .next ((s.completed s.dir 10).upCue (fun c => { c with latch := fld s.dir.y 0 16 ++ s.dir.x ++ s.dir.a })) ∧
      (s.cue.credits ≠ 0 → exec (.cuepost 3 0) s =
        .next ((s.completed s.dir 10).upCue (fun c => { c with credits := c.credits - 1, inbox := c.inbox ++ [e] }))) ∧
      (s.cue.credits = 0 → exec (.cuepost 3 0) s = .next (s.upDir (fun d => { d with hold := .cuepost 3 0 })))) ∧
    (s.dir.hold = .cuepost 3 0 → s.sys.rep = none → s.sys.ext = none → s.cue.credits ≠ 0 →
      exec .cuepostResume s = .next ((s.completed { s.dir with hold := .none } 10).upCue
        (fun c => { c with credits := c.credits - 1, inbox := c.inbox ++ [e] })))

/-- The judgement of a cue entry (R261, R262, Table 9-3): a refused entry leaves the list as it is, names its reason in CUE_REJ and raises
event 60; an accepted one joins the list and marks its object; either way its credit returns. -/
def Sys2Proof.Claim.CueJudgement : Prop :=
  ∀ (s : State) (e : CuePost) (rest : List CuePost) (r : BitVec 4), s.cue.inbox = e :: rest → s.pair.st = .solo → s.err.armed = none →
    (Tab.get Chan.free s.host.chans e.ch.toNat).out.mac = false →
    (s.cue.judge s.tbNow e = some r → exec .cueEntry s = .next ((s.upCue (fun c => { c with
      inbox := rest, credits := min 16 (c.credits + 1), rej := r ++ e.ch ++ (0#18) ++ e.a, rejCnt := satInc c.rejCnt })).raise 60)) ∧
    (s.cue.judge s.tbNow e = none → ∃ t n, exec .cueEntry s = .next t ∧ State.only [.cue, .dir] s t ∧ t.cue.inbox = rest ∧
      t.cue.credits = min 16 (s.cue.credits + 1) ∧ t.cue.pend = s.cue.pend ++ [n] ∧ n.time = e.time ∧ n.obj = e.a ∧ n.ch = e.ch ∧
      n.isLevel = decide (fld e.x 22 2 = (1 : BitVec 2)) ∧ n.value = e.x.getLsbD 21 ∧ n.bank = fld e.x 15 3 ∧ n.pin = fld e.x 9 6 ∧
      n.npm1 = fld e.x 18 3 ∧ n.width = e.y ∧ n.rose = false ∧
      t.cue.keys = Tab.set none s.cue.keys e.ch.toNat (some ((s.cue.window e.ch).take e.a)) ∧
      (t.dir = s.dir ∨ s.cue.pend.length + 1 = s.cue.warn.toNat)) ∧
    (e.time.toNat < s.tbNow.toNat + 200 → e.badArg = false → (∀ k ∈ e.pins, Tab.get 0 s.cue.owner k = e.ch.toNat + 1) →
      s.cue.judge s.tbNow e = some 3) ∧
    (e.badArg = true → s.cue.judge s.tbNow e = some 1)

/-- An edge of the cue list falls due (R263, R264, R266): the rising edge of a PULSE leaves it in the list, its falling edge and the edge
of a LEVEL end it, a LEVEL entry's pins hold its value, and an entry that meets a masked pin counts once. -/
def Sys2Proof.Claim.CueEdges : Prop :=
  ∀ (s : State) (e : CueEnt), s.cue.dueFirst s.tbNow.toNat = some e → e.ue = false →
    (Tab.get Chan.free s.host.chans e.ch.toNat).out.mac = false → s.cue.release = [] →
    ∃ t masked, exec .cueEdgeDue s = .next t ∧ State.only [.cue, .out] s t ∧
      masked = e.pins.any (fun k => s.spl.pinSafe (k / 64) (k % 64)) ∧
      (e.isLevel = false → e.rose = false → t.cue.level = s.cue.level ∧
        t.cue.pend = s.cue.pend.map (fun x => if x.place = e.place then { e with rose := true, masked := e.masked || masked } else x)) ∧
      (e.isLevel = false → e.rose = true → t.cue.level = s.cue.level ∧ t.cue.pend = s.cue.pend.filter (fun x => x.place != e.place)) ∧
      (e.isLevel = true → t.cue.pend = s.cue.pend.filter (fun x => x.place != e.place) ∧
        t.cue.level = e.pins.foldl (fun m k => Tab.set false m k e.value) s.cue.level) ∧
      t.cue.maskedCnt = (if masked && !e.masked then satInc s.cue.maskedCnt else s.cue.maskedCnt) ∧ t.cue.tb = s.cue.tb

/-- The cue port, its verdicts and its edges: the claims above together. -/
def Obligations.Cues : Prop :=
  Claim.CuePort ∧ Claim.CueJudgement ∧ Claim.CueEdges

/-- The timebase (R255, R257, R258): TB_STEP sets it while no channel runs and no cue is pending, and is refused otherwise with STEPREF;
TB_SLEW replaces what is left of a slew; the last tick of a slew applies the rest. -/
def Obligations.Timebase : Prop :=
  ∀ (s : State) (v : BitVec 64) (w : BitVec 32), s.ready 4 = true →
    ((∀ e ∈ s.host.chans, e.2.st ≠ .running ∧ e.2.st ≠ .draining) → s.cue.pend = [] →
      exec (.tbStepWrite v) s = .next (s.upCue (fun c => { c with tb := v ++ (0#32) }))) ∧
    ((∃ e ∈ s.host.chans, e.2.st = .running) ∨ s.cue.pend ≠ [] →
      exec (.tbStepWrite v) s = .next (s.upCue (fun c => { c with stepRef := true }))) ∧
    exec (.tbSlewWrite w) s = .next (s.upCue (fun c => { c with slew := w.toInt * 4294967296, slewTick := 0 })) ∧
    (s.cue.slew ≠ 0 → s.cue.slew.natAbs ≤ 4294967 →
      ∃ t, exec .slewComplete s = .next t ∧ t.cue.slew = 0 ∧ t.now = s.now + 5 ∧
        t.cue.tb = s.cue.tb + BitVec.ofInt 96 (21474836480 + s.cue.adj.toInt + s.cue.slew) ∧ State.only [.cue, .now] s t)

/-! ## Errors, injection, JTAG and link PLLs (chapters 14, 15, 17) -/

/-- What an occurrence records (R446 to R448, R454): ERR_SUM's bit, ERR_CNT up to its limit, and, unless LOGEN is clear or a record of the
detector was made within 10 ms, a record with the class, the suppressed count and the place, which sets the count to 0; an occurrence without a
record adds to that count; a class F detector always records and drives the Splice halt line. -/
def Sys2Proof.Claim.OccurrenceRecords : Prop :=
  ∀ (s : State) (det : Nat) (chan : BitVec 32) (info : BitVec 64), det < 48 → s.pair.st = .solo → Tab.wf 0 s.err.cnt = true →
    Tab.wf 0 s.err.supp = true →
    ∀ (t : State) (rec : BitVec 256), t = s.occur det chan info false →
    rec = info ++ chan ++ Tab.get 0 s.err.supp det ++ ((detClass det).setWidth 8 <<< 1) ++ BitVec.ofNat 8 det ++ s.tbNow ++ s.err.wpos →
    t.err.sum = setBit s.err.sum det true ∧ Tab.get 0 t.err.cnt det = satInc (Tab.get 0 s.err.cnt det) ∧
    (∀ d, d ≠ det → Tab.get 0 t.err.cnt d = Tab.get 0 s.err.cnt d) ∧ t.err.armed = s.err.armed ∧
    (detClass det ≠ 2 →
      ((Tab.get 0 s.err.ctl det).getLsbD 0 = false ∨
          (Tab.get 0 s.err.last det ≠ 0 ∧ s.now + 1 < Tab.get 0 s.err.last det + 10000000) →
        Tab.get 0 t.err.supp det = BitVec.ofNat 16 (min 65535 ((Tab.get 0 s.err.supp det).toNat + 1)) ∧ t.err.queue = s.err.queue ∧
          t.err.log = s.err.log ∧ State.only [.err] s t) ∧
      ((Tab.get 0 s.err.ctl det).getLsbD 0 = true →
        (Tab.get 0 s.err.last det = 0 ∨ Tab.get 0 s.err.last det + 10000000 ≤ s.now + 1) → s.ready 2 = true → s.err.queue = [] →
        Tab.get 0 t.err.supp det = 0 ∧ t.err.wpos = s.err.wpos + 1 ∧ t.err.log = Tab.set 0 s.err.log (s.err.wpos.toNat % 4096) rec ∧
          State.only [.err, .host] s t)) ∧
    (detClass det = 2 → s.ready 2 = true → s.err.queue = [] → det ≠ 21 →
      Tab.get 0 t.err.supp det = 0 ∧ t.err.wpos = s.err.wpos + 1 ∧ t.err.log = Tab.set 0 s.err.log (s.err.wpos.toNat % 4096) rec ∧
        t.spl.halt = setBit s.spl.halt (if det = 9 ∨ det = 10 then 1 else 0) true)

/-- Error injection and the error queue (R448, R450, R451): an arm takes ERR_INJ where the life cycle permits it and answers CODE 7
where it does not, a disarm always disarms; records that waited for MRAM are written in order. -/
def Sys2Proof.Claim.InjectionControl : Prop :=
  ∀ (s : State) (v : BitVec 32), s.ready 2 = true →
    (v.getLsbD 0 = true → v.getLsbD 1 = false → (s.keep.lc = .provisioned ∨ (s.keep.lc = .deployed ∧ s.keep.right 0 = true)) →
      exec (.errInjArm v) s = .next (s.upErr (fun e => { e with armed := some e.inj, code := 0 }))) ∧
    (v.getLsbD 0 = true → v.getLsbD 1 = false → s.keep.lc ≠ .provisioned → (s.keep.lc ≠ .deployed ∨ s.keep.right 0 = false) →
      exec (.errInjArm v) s = .next (s.upErr (fun e => { e with code := 7 }))) ∧
    (v.getLsbD 1 = true → exec (.errInjDisarm v) s = .next (s.upErr (fun e => { e with armed := none }))) ∧
    (∀ r q : ErrRec, r.det ≠ 21 → q.det ≠ 21 → r.event = false → q.event = false → s.err.queue = [r, q] →
      exec .errorQueueFlush s = .next (s.upErr (fun e => { e with
        queue := [], wpos := e.wpos + 2, log := Tab.set 0 (Tab.set 0 e.log (e.wpos.toNat % 4096)
          (r.info ++ r.chan ++ r.supp ++ r.flags ++ r.det ++ r.time ++ e.wpos)) ((e.wpos + 1).toNat % 4096)
          (q.info ++ q.chan ++ q.supp ++ q.flags ++ q.det ++ q.time ++ (e.wpos + 1)) })))

/-- Error records and injection control: the claims above together. -/
def Obligations.Errors : Prop :=
  Claim.OccurrenceRecords ∧ Claim.InjectionControl

/-- JTAG (R414, R492): IDCODE is offered in every state; a boundary-scan instruction takes the cells that the scan shifts in and is
refused, as BYPASS, in SCRAPPED; a code that is no instruction is BYPASS; a debug instruction is selected only where debug is permitted. -/
def Sys2Proof.Claim.JtagInstructions : Prop :=
  ∀ (s : State) (cells : BitVec 1162) (code : BitVec 8),
    (∃ t, exec .jtagIdcode s = .next t ∧ t.rst = { s.rst with jir := 1 } ∧ t.out.getLast? = some (.read 0x40 0x1A2565AB) ∧
      State.only [.rst, .out] s t) ∧
    (s.ready 3 = true → s.keep.lc ≠ .scrapped → ∀ c k, (c, k) ∈ [(Instr.jtagExtest cells, (0 : BitVec 8)), (.jtagSamplePreload cells, 2),
        (.jtagIntest cells, 3)] →
      ∃ t, exec c s = .next t ∧ t.rst = { s.rst with jir := k, cells := cells } ∧ State.only [.rst, .out, .free] s t) ∧
    (s.keep.lc = .scrapped → ∃ t, exec (.jtagExtest cells) s = .next t ∧ t.rst = { s.rst with jir := 0xFF } ∧ State.only [.rst, .out] s t) ∧
    (∀ v : BitVec 8, 4 ≤ v.toNat → fld v 5 3 ≠ (4 : BitVec 3) → ∃ t, exec (.jtagBypass v) s = .next t ∧ t.rst = { s.rst with jir := 0xFF } ∧ State.only [.rst, .out] s t) ∧
    ((fld code 5 3 : BitVec 3) = 4 → ∃ t, exec (.jtagDebug code) s = .next t ∧
      t.rst = { s.rst with jir := if s.ready 3 && s.keep.debug then code else 0xFF } ∧ State.only [.rst, .out] s t)

/-- Link PLLs (R417, detector 46): a PLL that loses lock takes the links on it down, and is marked locked again when it has relocked. -/
def Sys2Proof.Claim.LinkPlls : Prop :=
  ∀ (s : State) (pll : BitVec 2) (group : BitVec 4) (key : Nat), key = 16 * pll.toNat + group.toNat → s.err.armed = none →
    Tab.wf false s.rst.pllLost = true →
    (Tab.get false s.rst.pllLost key = false → Tab.wf CrewPort.reset s.crew.ports = true → Tab.wf Port.reset s.ing.ports = true →
      ∃ t, exec (.linkPll pll group) s = .next t ∧ Tab.get false t.rst.pllLost key = true ∧ t.err.sum.getLsbD 46 = true ∧
        (pll = 0 → t.host.link = false) ∧
        (pll = 1 → group.toNat < 4 → ∀ k, k < 4 → (Tab.get Port.reset t.ing.ports (64 + 4 * group.toNat + k)).up = false) ∧
        (pll = 3 → group.toNat < 4 → ∀ k, k < 8 → (Tab.get Port.reset t.ing.ports (32 + 8 * group.toNat + k)).up = false) ∧
        (pll = 2 → group.toNat < 4 → ∀ k, k < 4 → (Tab.get CrewPort.reset t.crew.ports (4 * group.toNat + k)).up = false)) ∧
    (∃ t, exec (.linkPllLock pll group) s = .next t ∧ Tab.get false t.rst.pllLost key = false ∧
      (∀ k, k ≠ key → Tab.get false t.rst.pllLost k = Tab.get false s.rst.pllLost k) ∧ State.only [.rst, .crew, .out] s t)

/-- JTAG instructions and the link PLLs: the claims above together. -/
def Obligations.JtagAndPlls : Prop :=
  Claim.JtagInstructions ∧ Claim.LinkPlls

/-! ## Clocks, power and temperature (chapter 15) -/

/-- The gaffer in Solo mode (R419, R420, R422): a sample's averages; a total above the envelope lowers to the fastest slower mode
predicted within the envelope less 1 W, or Endure; the 1,000th qualifying sample in a row begins a raise by one step; the divider changes
when the regulator has settled, with event line 63 and record 0x0003; a raise not settled within 8 us ends and none begins for 1 ms. -/
def Sys2Proof.Claim.ModeControl : Prop :=
  ∀ s : State, s.pair.st = .solo → s.err.armed = none →
    (∀ (total array mt ma : BitVec 16) (w : List (BitVec 16 × BitVec 16)) (env : Nat), s.ready 0 = true → total.toNat ≤ 6000 →
      s.gaf.own = s.gaf.mode → w = ((total, array) :: s.gaf.window).take 10 →
      mt = BitVec.ofNat 16 ((w.map (fun p => p.1.toNat)).sum / w.length) →
      ma = BitVec.ofNat 16 ((w.map (fun p => p.2.toNat)).sum / w.length) →
      env = (if s.gaf.env = 0 then 3000 else if s.gaf.env = 1 then 4500 else 6000) →
      ∃ t, exec (.powerSample total array) s = .next t ∧ t.gaf.window = w ∧ t.gaf.total = mt ∧ t.gaf.array = ma ∧
        State.only [.gaf, .host, .dir] s t ∧
        (mt.toNat ≤ env → t.gaf.mode = s.gaf.mode ∧ t.dir = s.dir) ∧
        (∀ m : BitVec 2, s.gaf.mode < m → env < mt.toNat →
          (∀ n : BitVec 2, s.gaf.mode < n → n ≤ m → ((mt.toNat - ma.toNat) * arrayMax s.gaf.mode.toNat + ma.toNat * arrayMax n.toNat ≤
            (env - 100) * arrayMax s.gaf.mode.toNat) = (n = m)) → t.gaf.mode = m ∧ t.gaf.raising = none) ∧
        (env < mt.toNat → (∀ n : BitVec 2, s.gaf.mode < n → (env - 100) * arrayMax s.gaf.mode.toNat <
          (mt.toNat - ma.toNat) * arrayMax s.gaf.mode.toNat + ma.toNat * arrayMax n.toNat) → t.gaf.mode = 3) ∧
        (mt.toNat ≤ env → s.gaf.mode ≠ 0 → s.gaf.modeReq < s.gaf.mode → s.gaf.thold = false → s.gaf.raising = none →
          s.gaf.notBefore ≤ s.now → s.gaf.qualify = 999 →
          (mt.toNat - ma.toNat) * arrayMax s.gaf.mode.toNat + ma.toNat * arrayMax (s.gaf.mode.toNat - 1) ≤
            (env - 200) * arrayMax s.gaf.mode.toNat → t.gaf.raising = some (s.gaf.mode - 1) ∧ t.gaf.raisedAt = s.now)) ∧
    (∀ m, s.gaf.raising = some m → s.gaf.withheld = false →
      ∃ t, exec .voltageSettled s = .next t ∧ t.gaf.mode = m ∧ t.gaf.raising = none ∧ State.only [.gaf, .host, .dir] s t ∧
        (m ≠ s.gaf.mode → s.dir.run ≠ .held → t.dir.evp.getLsbD 63 = true)) ∧
    (∀ m, s.gaf.raising = some m → s.gaf.raisedAt + 8000 ≤ s.now →
      ∃ t, exec .vregFault s = .next t ∧ t.err.sum.getLsbD 45 = true ∧ t.gaf = { s.gaf with
        raising := none, withheld := false, qualify := 0, notBefore := s.now + 1000000 } ∧ t.dir = s.dir)

/-- The junction sensors (R424 to R426): readings are in 1/16 degree; above 125 degrees Endure is held at once, until all are at or below
120; above 150 THERMTRIP_N is driven and detector 44 logs. -/
def Sys2Proof.Claim.JunctionTemperatures : Prop :=
  ∀ (s : State) (temps : List (BitVec 16)), s.pair.st = .solo → s.err.armed = none → s.ready 0 = true → temps.length = 20 →
    Tab.wf 0 s.gaf.temps = true → ∃ t, exec (.junctionSensorSample temps) s = .next t ∧
      (∀ i, i < 20 → Tab.get 0 t.gaf.temps i = temps.getD i 0) ∧
      (∀ v ∈ temps, v.toInt ≤ t.gaf.tmax.toInt) ∧
      ((∃ v ∈ temps, 2000 < v.toInt) → s.gaf.thold = false →
        t.gaf.thold = true ∧ (s.gaf.own = s.gaf.mode → t.gaf.mode = 3) ∧ (s.dir.run ≠ .held → t.dir.evp.getLsbD 63 = true)) ∧
      ((∀ v ∈ temps, v.toInt ≤ 1920) → t.gaf.thold = false ∧ t.gaf.mode = s.gaf.mode) ∧
      ((∃ v ∈ temps, 2400 < v.toInt) → t.gaf.therm = true ∧ (s.gaf.therm = false → t.err.sum.getLsbD 44 = true)) ∧
      ((∀ v ∈ temps, v.toInt ≤ 2320) → t.gaf.therm = false ∧ t.err = s.err)

/-- Array mode control and the junction temperatures: the claims above together. -/
def Obligations.ModeAndTemperature : Prop :=
  Claim.ModeControl ∧ Claim.JunctionTemperatures

/-- Power domains (R427, R428, Table 15-4): an accepted close goes to CLOSING and, once no request of it is pending, to OFF; a refused one leaves the
domain ON with its refusal bit set; an opened domain is ON, and a staging bank's contents are then zero. -/
def Obligations.PowerDomains : Prop :=
  ∀ (s : State) (b : BitVec 5), b.toNat < 30 →
    (s.ready 0 = true → s.gaf.domStat = 0xAAAAAAAAAAAAAAA#60 → ∀ v : BitVec 32, v = ~~~ (1#32 <<< b.toNat) →
      ∃ t, exec (.gfDomreqWrite v) s = .next t ∧ (∀ k, k < 30 → k ≠ b.toNat → t.dom k = 2) ∧ State.only [.gaf] s t ∧
        (s.closeRefused b.toNat = false → t.dom b.toNat = 3 ∧ t.gaf.domReq.getLsbD b.toNat = false) ∧
        (s.closeRefused b.toNat = true → t.dom b.toNat = 2 ∧ t.gaf.domReq.getLsbD b.toNat = true ∧ t.gaf.domRef.getLsbD b.toNat = true)) ∧
    (s.dom b.toNat = 3 → s.mesh.domainQuiet b.toNat = false → exec (.domainGated b) s = .next s) ∧
    (s.dom b.toNat = 3 → s.gaf.domReq.getLsbD b.toNat = false → s.mesh.domainQuiet b.toNat = true →
      ∃ t, exec (.domainGated b) s = .next t ∧ t.dom b.toNat = 0 ∧ (∀ k, k < 30 → k ≠ b.toNat → t.dom k = s.dom k) ∧
        State.only [.gaf, .banks] s t) ∧
    (s.dom b.toNat = 1 → s.gaf.domReq.getLsbD b.toNat = true →
      ∃ t, exec (.domainOpened b) s = .next t ∧ t.dom b.toNat = 2 ∧ (∀ k, k < 30 → k ≠ b.toNat → t.dom k = s.dom k) ∧
        (21 ≤ b.toNat → ∀ a, a < 1048576 → Tab.get 0 t.banks.mem (1048576 * (b.toNat - 21) + a) = 0) ∧ State.only [.gaf, .banks] s t)

/-! ## Reset and bring-up (chapter 16) -/

/-- What power-on and warm reset leave (R429, Tables 0-4, 16-3 to 16-5): every function at its reset values and not ready, the cause
recorded; MRAM's records stay in both; a warm reset keeps ERR_SUM, ERR_CNT and the bypass; DEV_RSTREQ acts with its key through PF 0 and
over SMBus. -/
def Sys2Proof.Claim.Resets : Prop :=
  ∀ s : State,
    (∀ pin supply : Bool, (pin || supply) = true → ∃ t, exec (.powerOnReset pin supply) s = .next t ∧ State.restarted s t ∧
      t.rst = Rst.reset (bit1 supply ++ bit1 pin ++ (0#2)) ∧ t.sys = Dsys.reset 0 ∧ t.err.sum = 0 ∧ t.crew = Crew.reset (s.crew.inc + 1)) ∧
    (∀ (c : Instr) (cause : BitVec 4), (c = .warmReset ∧ cause = 2) ∨ (c = .hostDeviceResetRequest 0 0x5A5A0001 ∧ cause = 1) ∨
        (c = .smbusResetRequest 0x5A5A true ∧ cause = 1 ∧ s.ready 0 = true) →
      ∃ t, exec c s = .next t ∧ State.restarted s t ∧ t.rst = { Rst.reset cause with rdy := 0x15 } ∧ t.sys = Dsys.reset 1 ∧
        t.err.sum = s.err.sum ∧ t.err.cnt = s.err.cnt ∧ t.err.ctl = s.err.ctl ∧ t.crew.bypState = s.crew.bypState) ∧
    (∀ (fn : BitVec 6) (v : BitVec 32), fn ≠ 0 ∨ fld v 16 16 ≠ (0x5A5A : BitVec 16) → exec (.hostDeviceResetRequest fn v) s = .next s)

/-- The Director reset and the function reset (R183, R253, R254): the Director starts at PC 0 in maintenance state with its memories and AFSTAT
kept, DFAULT tells of a double fault before it, RUNTIME clears and record 0x0008 is to come; a function reset frees the function's channels and clears its counters, and ADM_CQ.EN with
PF 0. -/
def Sys2Proof.Claim.PartialResets : Prop :=
  ∀ s : State, s.pair.st = .solo →
    (∀ (byHost : Bool) (fn : BitVec 6) (v : BitVec 32), s.dir.run ≠ .held → (byHost = true → fn = 0 ∧ v.getLsbD 0 = true ∧ s.ready 9 = true) →
      (∀ e ∈ s.host.chans, e.2.exec = none) →
      ∃ t, exec (.directorReset byHost fn v) s = .next t ∧
        t.dir = { Dir.reset with run := if s.ready 12 then .running else .held, cyc := s.dir.cyc } ∧
        t.sys = { Dsys.reset 2 with dfault := s.sys.doubled, afEn := s.sys.afEn, afFlags := s.sys.afFlags, dmem := s.sys.dmem, pmem := s.sys.pmem,
                                    dpoison := s.sys.dpoison, ppoison := s.sys.ppoison } ∧
        t.rst = { s.rst with rdy := setBit s.rst.rdy 14 false, report := true } ∧ t.spl.halt = setBit s.spl.halt 1 false ∧
        t.arr = s.arr ∧ t.banks = s.banks ∧ t.err = s.err ∧ t.keep = s.keep ∧ t.cue = { s.cue with latch := 0 }) ∧
    (∀ fn : BitVec 6, Tab.wf 0 s.host.clapDrop = true → Tab.wf 0 s.host.lastStat = true → Tab.wf 0 s.host.badAcc = true →
      Tab.wf Chan.free s.host.chans = true →
      ∃ t, exec (.functionLevelReset fn) s = .next t ∧ Tab.get 0 t.host.clapDrop fn.toNat = 0 ∧ Tab.get 0 t.host.lastStat fn.toNat = 0 ∧
        Tab.get 0 t.host.badAcc fn.toNat = 0 ∧ (fn = 0 → t.host.admCq.getLsbD 8 = false) ∧ t.dir = s.dir ∧ t.rst = s.rst ∧
        (∀ ch : BitVec 18, ch ≠ 0 → s.ownerOf ch.toNat = fn.toNat → (s.chan ch).st = .opened → (t.chan ch).st = .free) ∧
        (∀ ch : BitVec 18, ch ≠ 0 → s.ownerOf ch.toNat = fn.toNat → (s.chan ch).st = .running → (t.chan ch).st = .draining) ∧
        (∀ ch : BitVec 18, s.ownerOf ch.toNat ≠ fn.toNat → (t.chan ch).st = (s.chan ch).st))

/-- The resets and what each leaves: the claims above together. -/
def Obligations.Resets : Prop :=
  Claim.Resets ∧ Claim.PartialResets

/-- The ready bits and the boot copy (R435, R439, R440, Table 16-3): a bit is set once its prerequisites are; the copier takes slot A, else
slot B, else CODE 0x4, which a retried image ends; a copied image stands in program memory from word 0 and the Director runs. -/
def Obligations.Boot : Prop :=
  ∀ s : State,
    (∀ b : BitVec 4, b.toNat < 15 → s.ready b.toNat = false → (∀ k ∈ rdyNeeds b.toNat, s.ready k = true) → b ≠ 12 →
      (b = 11 → s.dom 0 = 2) → (b = 14 → s.sys.normal = true ∧ s.dir.run ≠ .held) → s.keep.active = 0 → (b = 3 → s.keep.vbLatch = 0) →
      ∃ t, exec (.readyBitSet b) s = .next t ∧ t.rst.rdy = setBit s.rst.rdy b.toNat true ∧ t.dir = s.dir ∧
        t.crew.inc = s.crew.inc ∧ (b = 11 → t.arr = Arr.reset)) ∧
    (∀ (b : BitVec 4) (k : Nat), k ∈ rdyNeeds b.toNat → s.ready k = false → exec (.readyBitSet b) s = .next s) ∧
    (∀ (a b i : BootImage) (code : BitVec 4), s.ready 3 = true → s.ready 12 = false → s.rst.bootCode = 0 →
      ((a.sigOk = true ∧ i = a ∧ code = 1) ∨ (a.sigOk = false ∧ b.sigOk = true ∧ i = b ∧ code = 2) →
        ∃ t, exec (.bootCopy a b) s = .next t ∧ t.sys.pmem = Tab.setList 0 s.sys.pmem 0 (i.words.take 262144) ∧ t.dir = { s.dir with run := .running } ∧
          t.rst.bootCode = code ∧ t.rst.rdy = setBit s.rst.rdy 12 true ∧ State.only [.sys, .dir, .keep, .rst] s t) ∧
      (a.sigOk = false → b.sigOk = false →
        exec (.bootCopy a b) s = .next (s.upRst (fun r => { r with kcode := 1, bootCode := 4 })))) ∧
    (∀ i : BootImage, s.rst.bootCode = 4 → s.keep.lc ≠ .scrapped →
      (i.sigOk = true → ∃ t, exec (.bootRetry 0 1 i) s = .next t ∧ t.sys.pmem = Tab.setList 0 s.sys.pmem 0 (i.words.take 262144) ∧
        t.dir = { s.dir with run := .running } ∧ t.rst.bootCode = 3 ∧ t.rst.rdy = setBit s.rst.rdy 12 true ∧
        State.only [.sys, .dir, .keep, .rst] s t) ∧
      (i.sigOk = false → exec (.bootRetry 0 1 i) s = .next (s.upRst (fun r => { r with kcode := 1, retry := false })))) ∧
    (∀ i : BootImage, s.rst.bootCode ≠ 4 ∨ s.keep.lc = .scrapped → exec (.bootRetry 0 1 i) s = .next s)

/-! ## Channels, reels and slates (chapter 8) -/

/-- Claps, event records and the PCIe link (R237, R238, R249, detector 33): a valid clap moves TAIL and HEAD and raises event line
48 + PRI when slates wait, any other is counted; an event record goes to channel 0 with its message, which is
pending while its vector is masked (R250); a link that is down holds what the
device writes until it returns. -/
def Sys2Proof.Claim.ClapsAndEvents : Prop :=
  ∀ s : State, s.pair.st = .solo → s.err.armed = none → Tab.wf Chan.free s.host.chans = true →
    (∀ (fn : BitVec 6) (off : BitVec 21) (len : BitVec 8) (w : BitVec 64) (i : BitVec 18), s.ready 9 = true → i = fld off 3 18 →
      (s.clapBad fn off len w = true →
        exec (.clap fn off len w) s = .next (s.upHost (fun h => { h with clapDrop := Tab.upd 0 h.clapDrop fn.toNat satInc }))) ∧
      ((s.chan i).st = .free ∨ len ≠ 8 ∨ fld w 32 14 ≠ (s.chan i).gen → s.clapBad fn off len w = true) ∧
      (s.clapBad fn off len w = false → ∃ t, exec (.clap fn off len w) s = .next t ∧ State.only [.host, .dir] s t ∧
        t.chan i = { s.chan i with tail := if w.getLsbD 12 then fld w 0 12 else (s.chan i).tail,
                                   head := if w.getLsbD 28 then fld w 16 12 else (s.chan i).head } ∧
        (∀ k, k ≠ i → t.chan k = s.chan k) ∧
        (w.getLsbD 12 = true → (t.chan i).avail ≠ 0 → s.dir.run ≠ .held → t.dir.evp.getLsbD (48 + (s.chan i).pri.toNat) = true))) ∧
    (∀ (r : EvRec) (rest : List EvRec), s.host.evq = r :: rest → s.host.evLost = 0 → s.host.admCq.getLsbD 8 = true → s.host.link = true →
      (if s.holdsSlate 0 then 2 else 1) ≤ (s.chan 0).freeSlots →
      ∃ t, exec .eventRecordWrite s = .next t ∧ t.host.evq = rest ∧ t.chan 0 = (s.chan 0).advance ∧ State.only [.host, .out] s t ∧
        ∀ w : Out, w = .hostWrite 0 (BitVec.ofNat 64 (65536 * (s.chan 0).cbase.toNat + 16 * (s.chan 0).write.toNat))
            (recordBytes (fld r.time 0 32) (fld r.time 32 32) r.data r.code 7 (s.chan 0).phase false) →
          (s.host.msixOpen 0 (s.chan 0).vec = true → t.out = s.out ++ [w, .msix 0 (s.chan 0).vec] ∧ t.host.msixPend = s.host.msixPend) ∧
          (s.host.msixOpen 0 (s.chan 0).vec = false → t.out = s.out ++ [w] ∧
            t.host.msixPend = Tab.set false s.host.msixPend (s.chan 0).vec.toNat true)) ∧
    (∀ l : BitVec 8, s.host.link = true →
      ∃ t, exec (.pcieLinkdown l) s = .next t ∧ t.host.link = false ∧ t.err.sum.getLsbD 33 = true ∧ t.host.chans = s.host.chans ∧ t.out = s.out) ∧
    (Tab.get false s.rst.pllLost 0 = false → exec .pcieLinkReturn s =
      .next { s with out := s.out ++ s.host.outq, host := { s.host with link := true, outq := [] } })

/-- Fetching and judging a slate (R239, R242 to R244): the served channel's next slate; SEQ = HIGH + 1 with the right HANDLE is accepted;
a wrong generation, a malformed body and a sequence number out of order are answered by their records and change nothing else. -/
def Sys2Proof.Claim.SlateJudgement : Prop :=
  ∀ (s : State) (ch : BitVec 18) (x : BitVec 512), s.served = some ch.toNat → s.pair.st = .solo → s.ready 14 = true → s.err.armed = none →
    (s.chan ch).ue = 0 → Tab.wf Chan.free s.host.chans = true →
    (slHandle x = ch ++ (s.chan ch).gen → firstOffence (s.chan ch).adm x = none → slSeq x = (s.chan ch).high + 1 → (s.chan ch).st ≠ .draining →
      ∃ t, exec (.slateFetch ch x) s = .next t ∧ State.only [.host, .out] s t ∧
        (t.chan ch).exec = some { slate := x, since := s.now, data := [], asked := 0, waiting := false } ∧ (t.chan ch).high = slSeq x ∧
        (t.chan ch).win = (s.chan ch).win <<< 2 ∧ (t.chan ch).fetch.toNat = ((s.chan ch).fetch.toNat + 1) % 2 ^ (s.chan ch).depth.toNat % 4096 ∧
        (∀ k, k ≠ ch → t.chan k = s.chan k) ∧
        t.out = s.out ++ [.hostRead (BitVec.ofNat 6 (s.ownerOf ch.toNat)) (BitVec.ofNat 64 (4096 * (s.chan ch).sbase.toNat + 64 * (s.chan ch).fetch.toNat)) 64]) ∧
    (∀ (status : BitVec 8) (detail : BitVec 32), (s.chan ch).judge ch x = .record status detail false →
      ∃ t, exec (.slateFetch ch x) s = .next t ∧ (t.chan ch).high = (s.chan ch).high ∧ (t.chan ch).exec = none ∧
        .hostWrite (BitVec.ofNat 6 (s.ownerOf ch.toNat)) (BitVec.ofNat 64 (65536 * (s.chan ch).cbase.toNat + 16 * (s.chan ch).write.toNat))
          (recordBytes (slTag x) 0 detail (slSeq x) status (s.chan ch).phase false) ∈ t.out) ∧
    (∀ g : BitVec 14, g ≠ (s.chan ch).gen → slHandle x = ch ++ g → (s.chan ch).judge ch x = .record 4 0 false) ∧
    (slHandle x = ch ++ (s.chan ch).gen → ∀ i, firstOffence (s.chan ch).adm x = some i →
      (s.chan ch).judge ch x = .record 3 (BitVec.ofNat 32 i) false) ∧
    (slHandle x = ch ++ (s.chan ch).gen → firstOffence (s.chan ch).adm x = none → 2 ≤ (slSeq x - (s.chan ch).high).toNat →
      (slSeq x - (s.chan ch).high).toNat ≤ 65472 → (s.chan ch).judge ch x = .record 5 ((s.chan ch).high.setWidth 32) false)

/-- Claps, event records, link loss, and the judgement of slates: the claims above together. -/
def Obligations.HostReels : Prop :=
  Claim.ClapsAndEvents ∧ Claim.SlateJudgement

/-- The slates that the host interface executes, their data and their timeouts (R245, R251, R252): NOP, MARK with the timebase, PUT into
and GET from the staging window byte by byte, in requests and writes of the sizes that Table 8-1 allows, a failed read, and the channel timeout. -/
def Obligations.HostSlates : Prop :=
  ∀ (s : State) (ch : BitVec 18) (e : Exec), s.executes ch e →
    (slOp e.slate = 0 → e.waiting = false → ∃ t, exec (.slateNop ch) s = .next t ∧ s.recorded ch e 0 0 0 t ∧ State.only [.host, .out, .keep] s t) ∧
    (slOp e.slate = 6 → e.waiting = false →
      ∃ t, exec (.mark ch) s = .next t ∧ s.recorded ch e 0 (fld s.tbNow 0 32) (fld s.tbNow 32 32) t ∧ State.only [.host, .out, .keep] s t) ∧
    (∀ (r : Recipe) (n off : Nat) (fn : BitVec 6), (s.chan ch).recipe = some r →
      (s.chan ch).st = .bound ∨ (s.chan ch).st = .running → r.win + r.wlen ≤ 147456 → xferBad e.slate r.wlen = none → n = slNum e.slate 24 4 → off = slNum e.slate 28 4 →
      fn = BitVec.ofNat 6 (s.ownerOf ch.toNat) → s.banks.phase = [] → s.banks.poison = [] →
      Memory.wf s = true →
      (slOp e.slate = 4 → e.waiting = false → e.asked = 0 → ∀ rs : List (Nat × Nat),
        rs = (hostCuts s.host.readSize (slNum e.slate 16 8) n).take (768 - s.host.reads.length) →
        ∃ t, exec (.put ch) s = .next t ∧ t.out = s.out ++ rs.map (fun q => .hostRead fn (BitVec.ofNat 64 q.1) q.2) ∧
        (t.chan ch).exec = some { e with waiting := true, asked := (rs.map (·.2)).sum } ∧
        t.host.reads = s.host.reads ++ rs.map (fun q => { ch := ch, left := q.2, live := true }) ∧ State.only [.host, .out] s t) ∧
      (slOp e.slate = 5 → e.waiting = false → ∃ t, exec (.get ch) s = .next t ∧ s.recorded ch e 0 0 0 t ∧
        (∀ q ∈ hostCuts s.host.payload (slNum e.slate 16 8) n, .hostWrite fn (BitVec.ofNat 64 q.1)
          ((List.range q.2).map (fun i => Tab.get 0 s.banks.mem (64 * r.win + off + (q.1 - slNum e.slate 16 8) + i))) ∈ t.out) ∧
        State.only [.host, .out, .keep] s t) ∧
      (∀ data : List Byte, slOp e.slate = 4 → e.waiting = true → e.data = [] → data.length = n → (∀ q ∈ s.host.oldestRead ch, q.live = true) →
        ∃ t, exec (.dmaReadCompletion ch 0 false data) s = .next t ∧ s.recorded ch e 0 0 0 t ∧ State.only [.host, .out, .keep, .banks] s t ∧
          (∀ i, i < n → Tab.get 0 t.banks.mem (64 * r.win + off + i) = data.getD i 0) ∧
          (∀ k, (k < 64 * r.win + off ∨ 64 * r.win + off + n ≤ k) → Tab.get 0 t.banks.mem k = Tab.get 0 s.banks.mem k))) ∧
    (slOp e.slate = 4 → e.waiting = true → (∀ q ∈ s.host.oldestRead ch, q.live = true) →
      ∃ t, exec (.dmaCompletionTimeout ch) s = .next t ∧ s.recorded ch e 1 0 0xFF05 t ∧ t.err.sum.getLsbD 32 = true) ∧
    (ch ≠ 0 → (s.chan ch).tout ≠ 0 → e.since + toutNs (s.chan ch).tout ≤ s.now →
      ∃ t, exec (.slateTimeout ch) s = .next t ∧ s.recorded ch e 2 0 0 t ∧
        (t.chan ch).stale = (if hostOp (slOp e.slate) then [] else [e]))

/-- The life of a channel (R230 to R235, R246, R247, R267, R272): created with its context and a handle, started under its proof, stopped at an
object boundary, sent messages, drained, unbound, destroyed with the next generation; a refusal names its reason and changes nothing. -/
def Obligations.ChannelLife : Prop :=
  ∀ (s : State) (ch k : BitVec 18) (e : Exec), s.executes ch e →
    (slOp e.slate = 0x40 → e.waiting = false →
      (∀ b, createBad e.slate = some b → s.slateFails [] (.createChannel ch) ch e (BitVec.ofNat 24 b ++ 4#8)) ∧
      (createBad e.slate = none → (Tab.get 0 s.host.dom (s.ownerOf ch.toNat)).getLsbD (slNum e.slate 34 1) = false →
        s.slateFails [] (.createChannel ch) ch e 2) ∧
      (createBad e.slate = none → (Tab.get 0 s.host.dom (s.ownerOf ch.toNat)).getLsbD (slNum e.slate 34 1) = true →
        (s.takeIndex (s.ownerOf ch.toNat) = none → s.slateFails [] (.createChannel ch) ch e 0x103) ∧
        (∀ n : Nat, s.takeIndex (s.ownerOf ch.toNat) = some n → k = BitVec.ofNat 18 n → k ≠ ch →
          ∃ t, exec (.createChannel ch) s = .next t ∧ s.recorded ch e 0 (k ++ (s.chan k).gen) 0 t ∧ (t.chan k).st = .opened ∧
            (t.chan k).pri = fld e.slate 264 3 ∧ (t.chan k).dom = fld e.slate 272 6 ∧ (t.chan k).adm = e.slate.getLsbD 296 ∧
            (t.chan k).high = 0xFFFF ∧ (t.chan k).gen = (s.chan k).gen ∧ (t.chan k).phase = true ∧ State.only [.host, .out, .keep] s t))) ∧
    (slOp e.slate = 0x41 → e.waiting = false → s.targetFails (.destroyChannel ch) ch e ∧
      (s.targets ch e.slate k →
        (k = 0 → s.slateFails [] (.destroyChannel ch) ch e 2) ∧
        (k ≠ 0 → (s.chan k).st = .draining → s.wrongFor (.destroyChannel ch) ch e k) ∧
        (k ≠ 0 → k ≠ ch → (s.chan k).st = .opened ∨ (s.chan k).st = .bound → (s.chan k).exec.isSome = true →
          exec (.destroyChannel ch) s = .next s) ∧
        (k ≠ 0 → (s.chan k).st = .opened ∨ (s.chan k).st = .bound → k = ch ∨ (s.chan k).exec = none → Tab.wf none s.cue.keys = true →
          ∃ t, exec (.destroyChannel ch) s = .next t ∧ s.recorded ch e 0 0 0 t ∧ (t.chan k).st = .free ∧
            (t.chan k).gen = nextGen (s.chan k).gen ∧ (t.chan k).recipe = none ∧ Tab.get none t.cue.keys k.toNat = none) ∧
        (k ≠ 0 → (s.chan k).st = .running →
          ∃ t, exec (.destroyChannel ch) s = .next t ∧ (t.chan k).st = .draining ∧ (t.chan k).destroyer = some ch ∧
            (t.chan ch).exec = some { e with waiting := true } ∧ t.out = s.out))) ∧
    (slOp e.slate = 0x41 → e.waiting = true → (s.chan k).st = .draining → (s.chan k).destroyer = some ch → (s.chan k).silent = false →
      k = ch ∨ ((s.chan k).avail = 0 ∧ (s.chan k).exec = none) →
      (∃ t, exec (.drainEnd k true) s = .next t ∧ s.recorded ch e 0 0 0 t ∧ (t.chan k).st = .free ∧ (t.chan k).gen = nextGen (s.chan k).gen) ∧
      ((s.chan k).overdue s.tbNow = false → exec (.drainEnd k false) s = .next s)) ∧
    (slOp e.slate = 0x43 → e.waiting = false → s.targetFails (.unbind ch) ch e ∧
      (s.targets ch e.slate k → (s.chan k).st ≠ .bound → s.wrongFor (.unbind ch) ch e k) ∧
      (s.targets ch e.slate k → (s.chan k).st = .bound →
        ∃ t, exec (.unbind ch) s = .next t ∧ s.recorded ch e 0 0 0 t ∧ (t.chan k).st = .opened ∧ (t.chan k).recipe = none)) ∧
    (slOp e.slate = 1 → e.waiting = false → ((s.chan ch).st ≠ .bound → s.wrongFor (.start ch) ch e ch) ∧
      (∀ d, (s.chan ch).st = .bound → (s.upChan ch (fun c => { c with st := .running })).prove ch (some s) = .error d →
        s.slateFails [] (.start ch) ch e (d ++ 8#8)) ∧
      (∀ w : Nat, (s.chan ch).st = .bound → (s.upChan ch (fun c => { c with st := .running })).prove ch (some s) = .ok w →
        ∃ t, exec (.start ch) s = .next t ∧ s.recorded ch e 0 (BitVec.ofNat 32 w) 0 t ∧ (t.chan ch).st = .running)) ∧
    (slOp e.slate = 2 →
      (e.waiting = false → (s.chan ch).st ≠ .running → s.wrongFor (.stop ch) ch e ch) ∧
      (e.waiting = false → (s.chan ch).st = .running →
        ∃ t, exec (.stop ch) s = .next t ∧ (t.chan ch).exec = some { e with waiting := true } ∧ t.out = s.out) ∧
      (e.waiting = true → (s.chan ch).st = .running → ∃ t, exec (.stopComplete ch) s = .next t ∧ s.recorded ch e 0 0 0 t ∧ (t.chan ch).st = .bound) ∧
      (e.waiting = true → (s.chan ch).st = .draining → ∃ t, exec (.stopComplete ch) s = .next t ∧ s.recorded ch e 0 0 0 t ∧
        (t.chan ch).st = .draining) ∧
      (e.waiting = false → exec (.stopComplete ch) s = .next s)) ∧
    (slOp e.slate = 3 → e.waiting = false → ((s.chan ch).st ≠ .running → s.wrongFor (.msg ch) ch e ch) ∧
      ((s.chan ch).st = .running → (s.chan ch).recipe = none ∨ (s.chan ch).msgPath = none → s.slateFails [] (.msg ch) ch e 0xFFFFFF09)) ∧
    (∀ (r : Recipe) (p : Path) (i : Nat), slOp e.slate = 3 → (s.chan ch).st = .running → (s.chan ch).recipe = some r →
      (s.chan ch).msgPath = some (p, i) →
      (e.waiting = false → Tab.get 0 (s.chan ch).acts i ≠ 0 → s.now + 1 < Tab.get 0 (s.chan ch).acts i + p.mingap → ∃ t, exec (.msg ch) s = .next t ∧
        s.recorded ch e 1 0 0xFFFFFE09 t ∧ (t.chan ch).late = satInc (s.chan ch).late) ∧
      (e.waiting = false → Memory.wf s = true → Tab.get 0 (s.chan ch).acts i = 0 ∨ Tab.get 0 (s.chan ch).acts i + p.mingap ≤ s.now + 1 →
        ∃ t a, exec (.msg ch) s = .next t ∧ (t.chan ch).exec = some { e with waiting := true } ∧
        State.only [.host, .sys, .dir, .free] s t ∧ (∀ n, n < 16 → t.word (BitVec.ofNat 18 (a + n)) = fld e.slate (128 + 24 * n) 24) ∧
        (s.dir.run = .running → s.dir.cwp.toNat < 14 → Tab.wf 0 s.dir.wsave = true → t.dir.pc = BitVec.ofNat 18 (r.prog + p.entry) ∧
          t.dir.x = BitVec.ofNat 24 a ∧ t.dir.cwp = s.dir.cwp + 1 ∧ t.dir.saved (s.dir.cwp.toNat + 1) 8 = s.dir.pc.setWidth 24 ∧
          t.sys.chid = (s.chan ch).dom ++ ch ∧ t.dir.hold = .none)) ∧
      (∀ w : Nat, e.waiting = true → w = s.dir.cwp.toNat → fld s.sys.tcause 0 8 = (0x21 : BitVec 8) →
        fld (s.dir.saved w 16) 0 18 = ch → Tab.get 0 s.dir.wreg (physReg (w + 15) 0) = 0 →
        ∃ t, exec (.msgAnswer ch) s = .next t ∧ s.recorded ch e 0 (fld (s.dir.saved w 12) 0 8 ++ s.dir.saved w 9) 0 t) ∧
      (∀ (w : Nat) (g : Word), e.waiting = true → w = s.dir.cwp.toNat → fld s.sys.tcause 0 8 = (0x21 : BitVec 8) →
        fld (s.dir.saved w 16) 0 18 = ch → g = Tab.get 0 s.dir.wreg (physReg (w + 15) 0) → g ≠ 0 →
        ∃ t, exec (.msgAnswer ch) s = .next t ∧ s.recorded ch e 1 (fld (s.dir.saved w 12) 0 8 ++ s.dir.saved w 9) (g ++ 9#8) t) ∧
      (e.waiting = true → ¬(fld s.sys.tcause 0 8 = (0x21 : BitVec 8) ∧ fld (s.dir.saved s.dir.cwp.toNat 16) 0 18 = ch) →
        s.slateFails [] (.msgAnswer ch) ch e 0xFFFFFE09))

/-- Bindings (R218 to R225, R247, R272): BIND_INPUT gives the slot its registers and answers the delay bound; BIND_OUTPUT gives the channel
its cue pins, its crew destinations, or its result log, under the proof when the target is RUNNING; a refusal names its check and binds
nothing. -/
def Sys2Proof.Claim.Bindings : Prop :=
  ∀ (s : State) (ch k : BitVec 18) (e : Exec), s.executes ch e → e.waiting = false →
    (slOp e.slate = 0x44 → s.targetFails (.bindInput ch) ch e) ∧ (slOp e.slate = 0x45 → s.targetFails (.bindOutput ch) ch e) ∧
    (s.targets ch e.slate k →
      (slOp e.slate = 0x44 → (s.chan k).recipe = none ∨ ((s.chan k).st ≠ .bound ∧ (s.chan k).st ≠ .running) → s.wrongFor (.bindInput ch) ch e k) ∧
      (slOp e.slate = 0x45 → (s.chan k).st ≠ .bound → (s.chan k).st ≠ .running → s.wrongFor (.bindOutput ch) ch e k) ∧
      (∀ (n : Nat) (sl abs : Slot) (r : Recipe) (s' : State), slOp e.slate = 0x44 → (s.chan k).recipe = some r →
        (s.chan k).st = .bound ∨ (s.chan k).st = .running →
        n = 4 * slNum e.slate 16 1 + slNum e.slate 17 1 → sl = (s.slot n).rebound e.slate k r →
        (s.sys.ringWritable (s.chan k).dom sl.ev = false → s.slateFails [] (.bindInput ch) ch e (44#24 ++ 4#8)) ∧
        (∀ code, s.sys.ringWritable (s.chan k).dom sl.ev = true → s.bindCode n sl k r.wlen = some code →
          s.slateFails [] (.bindInput ch) ch e (code ++ 7#8)) ∧
        (s.sys.ringWritable (s.chan k).dom sl.ev = true → s.bindCode n sl k r.wlen = none →
          abs = { sl with copy := putFld sl.copy 0 (BitVec.ofNat 18 (r.win + (fld sl.copy 0 18 : BitVec 18).toNat)) } →
          s' = (s.upSlot n (fun _ => abs)).upRecipe k (fun r => { r with inputs := if r.inputs.contains n then r.inputs else r.inputs ++ [n] }) →
          s.binds (.bindInput ch) ch k e (BitVec.ofNat 32 ((sl.delay s'.ing.bound + 5) / 6)) s' ∧
          (Tab.wf Slot.reset s.ing.slots = true → s'.slot n = abs ∧ (∀ j, j ≠ n → s'.slot j = s.slot j) ∧ abs.src = fld e.slate 160 32 ∧
            abs.fmt = fld e.slate 192 32 ∧ abs.place = fld e.slate 256 32 ∧ abs.ev = fld e.slate 352 32 ∧ abs.chan = k.setWidth 32 ∧
            abs.lines = 0 ∧ abs.arrival = 0))) ∧
      (slOp e.slate = 0x45 → (s.chan k).st = .bound ∨ (s.chan k).st = .running →
        (2 ≤ slNum e.slate 16 1 → s.binds (.bindOutput ch) ch k e 0 (s.upChan k (fun c =>
          { c with out := { c.out with mac := e.slate.getLsbD 136, sign := e.slate.getLsbD 137 } }))) ∧
        (∀ n : Nat, slNum e.slate 16 1 = 1 → n = slNum e.slate 17 1 → s.binds (.bindOutput ch) ch k e 0 (s.upChan k (fun c =>
          { c with out := { c.out with crew := (List.range n).map (fun i => fld e.slate (192 + 8 * i) 8) } }))) ∧
        (slNum e.slate 16 1 = 0 → (∃ p, p < 64 ∧ e.slate.getLsbD (192 + p) = true ∧ Tab.get 0 s.cue.owner (64 * slNum e.slate 17 1 + p) ≠ 0 ∧
            Tab.get 0 s.cue.owner (64 * slNum e.slate 17 1 + p) ≠ k.toNat + 1) → s.slateFails [] (.bindOutput ch) ch e 2) ∧
        (∀ s' : State, slNum e.slate 16 1 = 0 → (∀ p, p < 64 → e.slate.getLsbD (192 + p) = true →
            Tab.get 0 s.cue.owner (64 * slNum e.slate 17 1 + p) = 0 ∨ Tab.get 0 s.cue.owner (64 * slNum e.slate 17 1 + p) = k.toNat + 1) →
          s' = s.bindPins k (slNum e.slate 17 1) (fld e.slate 192 64) →
          s.binds (.bindOutput ch) ch k e 0 s' ∧ (Tab.wf 0 s.cue.owner = true → ∀ p, p < 64 → e.slate.getLsbD (192 + p) = true →
            Tab.get 0 s'.cue.owner (64 * slNum e.slate 17 1 + p) = k.toNat + 1))))

/-- Images (R92 to R94, R408, Table 3-14): LOAD_RECIPE and LOAD_PATCH place an image that passes every check, all its words and entries at
once and counted in ST_COMMITS; an image that replaces a script in use waits for its commit boundary, or ends BUSY when an entry still refers
to it after 10 ms; a refusal names its check and loads nothing; RELOAD_VERIFY answers how many words it rewrote. -/
def Sys2Proof.Claim.Images : Prop :=
  ∀ (s : State) (ch k : BitVec 18) (e : Exec) (img : Image), s.executes ch e →
    (slOp e.slate = 0x42 → e.waiting = false → s.targetFails (.loadRecipe ch img) ch e ∧
      (s.targets ch e.slate k →
        (k = 0 → s.slateFails [] (.loadRecipe ch img) ch e 2) ∧
        (k ≠ 0 → (s.chan k).st ≠ .opened → s.wrongFor (.loadRecipe ch img) ch e k) ∧
        (∀ b, k ≠ 0 → (s.chan k).st = .opened → recipeBad e.slate = some b → s.slateFails [] (.loadRecipe ch img) ch e (BitVec.ofNat 24 b ++ 4#8)) ∧
        (∀ (i : State) (d : BitVec 24) (p : Placed) (es : List (BitVec 320)) (qs : List (Path × Nat)) (r : Recipe) (m w : Nat), k ≠ 0 →
          (s.chan k).st = .opened → recipeBad e.slate = none → i = s.noteTable 15 →
          (i.checkImage [2] 2 (some k) false img = .error d → s.slateFails [.banks] (.loadRecipe ch img) ch e (d ++ 6#8)) ∧
          (i.checkImage [2] 2 (some k) false img = .ok (p, es) →
            (i.pathsOf p es = none → s.slateFails [.banks] (.loadRecipe ch img) ch e (0xFFFFFF#24 ++ 8#8)) ∧
            (i.pathsOf p es = some qs →
              (i.allocate e.slate p qs = .error m → s.slateFails [.banks] (.loadRecipe ch img) ch e (BitVec.ofNat 24 m ++ 3#8)) ∧
              (i.allocate e.slate p qs = .ok r →
                ((i.upChan k (fun c => { c with st := .bound, recipe := some r })).prove k none = .error d →
                  s.slateFails [.banks] (.loadRecipe ch img) ch e (d ++ 8#8)) ∧
                ((i.upChan k (fun c => { c with st := .bound, recipe := some r })).prove k none = .ok w →
                  ∃ t, exec (.loadRecipe ch img) s = .next t ∧ s.recorded ch e 0 (BitVec.ofNat 32 w) 0 t ∧ (t.chan k).st = .bound ∧
                    (t.chan k).recipe = some { r with proven := w } ∧ s.loaded p es t))))))) ∧
    (∀ (i : State) (d : BitVec 24) (p : Placed) (es : List (BitVec 320)), slOp e.slate = 0x49 → e.waiting = false → i = s.noteTable 15 →
      (s.ownerOf ch.toNat ≠ 0 → s.slateFails [] (.loadPatch ch img) ch e 2) ∧
      (s.ownerOf ch.toNat = 0 → s.seq.waiting.isSome = true → exec (.loadPatch ch img) s = .next s) ∧
      (s.ownerOf ch.toNat = 0 → s.seq.waiting = none →
        (i.checkImage [0, 1] 0 none (e.slate.getLsbD 224) img = .error d → s.slateFails [.banks] (.loadPatch ch img) ch e (d ++ 6#8)) ∧
        (i.checkImage [0, 1] 0 none (e.slate.getLsbD 224) img = .ok (p, es) →
          (s.seq.busyFor img = false → ∃ t, exec (.loadPatch ch img) s = .next t ∧ s.recorded ch e 0 0 0 t ∧ s.loaded p es t) ∧
          (s.seq.busyFor img = true → ∃ t, exec (.loadPatch ch img) s = .next t ∧ (t.chan ch).exec = some { e with waiting := true } ∧
            t.seq = { s.seq with waiting := some { p := p, entries := es, slateCh := ch, since := s.now } } ∧
            State.only [.host, .seq, .banks] s t)))) ∧
    (∀ c : Commit, slOp e.slate = 0x49 → e.waiting = true → s.seq.waiting = some c → c.slateCh = ch →
      (s.seq.busyFor c.p.img = false → ∃ t, exec .imageCommit s = .next t ∧ s.recorded ch e 0 0 0 t ∧ t.seq.waiting = none ∧
        s.loaded c.p c.entries t) ∧
      (s.seq.busyFor c.p.img = true → exec .imageCommit s = .next s) ∧
      (s.seq.busyFor c.p.img = false ∨ s.now < c.since + 10000000 → exec .imageBusyTimeout s = .next s) ∧
      (s.seq.busyFor c.p.img = true → c.since + 10000000 ≤ s.now → ∃ t, exec .imageBusyTimeout s = .next t ∧ s.recorded ch e 1 0 0xE06 t ∧
        t.seq = { s.seq with waiting := none })) ∧
    (slOp e.slate = 0x4A → e.waiting = false → s.ownerOf ch.toNat ≠ 0 → s.slateFails [] (.reloadVerify ch) ch e 2) ∧
    (slOp e.slate = 0x4A → e.waiting = false → s.ownerOf ch.toNat = 0 → s.seq.images = [] →
      ∃ t, exec (.reloadVerify ch) s = .next t ∧ s.recorded ch e 0 0 0 t ∧ State.only [.host, .out, .keep] s t) ∧
    (∀ (p : Placed) (n : Nat), slOp e.slate = 0x4A → e.waiting = false → s.ownerOf ch.toNat = 0 → s.seq.images = [p] →
      s.keep.rejudge p.img = none →
      n = countDiffer 0 s.seq.cs p.base (p.img.words.map (rebase p.base)) + (countDiffer 0 s.sys.pmem p.pbase p.img.prog +
          ((List.range p.img.prog.length).filter (fun j => Tab.get false s.sys.ppoison (p.pbase + j))).length) +
        ((s.seq.ownEntries [] p).filter (fun x => decide (Tab.get 0 s.seq.table x.1 ≠ x.2))).length →
      ∃ t, exec (.reloadVerify ch) s = .next t ∧ s.recorded ch e 0 (BitVec.ofNat 32 n) 0 t ∧
        t.seq.cs = Tab.setList 0 s.seq.cs p.base (p.img.words.map (rebase p.base)) ∧
        t.sys.pmem = Tab.setList 0 s.sys.pmem p.pbase p.img.prog)

/-- Input and output bindings; images loaded and committed: the claims above together. -/
def Obligations.BindingsAndImages : Prop :=
  Claim.Bindings ∧ Claim.Images

/-- The other admin slates (R5, R229, R247, R401, R413, R420): what each answers and what it changes. -/
def Sys2Proof.Claim.AdminSlates : Prop :=
  ∀ (s : State) (ch k : BitVec 18) (e : Exec), s.executes ch e → e.waiting = false →
    (∀ req : BitVec 2, slOp e.slate = 0x46 → s.ownerOf ch.toNat = 0 → req = fld e.slate 128 2 → fld e.slate 136 2 ≠ (3 : BitVec 2) → s.gaf.own = s.gaf.mode →
      ∃ t, exec (.setMode ch) s = .next t ∧ t.gaf.modeReq = req ∧ t.gaf.env = fld e.slate 136 2 ∧
        t.gaf.mode = (if s.gaf.mode < req then req else s.gaf.mode) ∧ s.recorded ch e 0 (t.gaf.mode.setWidth 32) 0 t ∧
        State.only [.host, .out, .keep, .gaf, .dir] s t) ∧
    (slOp e.slate = 0x4C → s.targets ch e.slate k → k ≠ ch → ∃ t, exec (.channelInfo ch) s = .next t ∧
      s.recorded ch e 0 ((s.chan k).late ++ (s.chan k).st.code ++ bit1 (s.chan k).adm ++ (s.chan k).pri ++ (s.chan k).dom ++ (0#11))
        ((s.chan k).high.setWidth 32) t ∧
      t.chan k = { s.chan k with late := if e.slate.getLsbD 128 then 0 else (s.chan k).late } ∧ State.only [.host, .out, .keep] s t) ∧
    (∀ vf : Nat, slOp e.slate = 0x4D → s.ownerOf ch.toNat = 0 → vf = slNum e.slate 16 1 → vf ≠ 0 → s.rangeBad e.slate = none →
      Tab.wf 0 s.host.base = true → Tab.wf 0 s.host.count = true → Tab.wf 0 s.host.dom = true →
      ∃ t, exec (.setRange ch) s = .next t ∧ Tab.get 0 t.host.base vf = fld e.slate 160 18 ∧ Tab.get 0 t.host.count vf = fld e.slate 192 19 ∧
        Tab.get 0 t.host.dom vf = fld e.slate 224 64 ∧ (t.chan ch).exec = none ∧ t.keep.lc = s.keep.lc ∧ t.dir = s.dir) ∧
    (∀ (n lost start : Nat) (recs : List Nat), slOp e.slate = 0x4B → e.slate.getLsbD 288 = false → s.ownerOf ch.toNat = 0 →
      start = slNum e.slate 28 8 → recs = ((List.range (s.err.wpos.toNat - max start (s.err.wpos.toNat - 4096))).map
        (max start (s.err.wpos.toNat - 4096) + ·)).take (slNum e.slate 24 4 / 32) → n = recs.length →
      lost = min 0xFFFFFFFF ((s.err.wpos.toNat - 4096) - start) →
      ∃ t, exec (.logRead ch) s = .next t ∧ s.recorded ch e 0 (BitVec.ofNat 32 n) (BitVec.ofNat 32 lost) t ∧
        ∀ bytes : List Byte, bytes = recs.flatMap (fun p => natBytes 32 (Tab.get 0 s.err.log (p % 4096)).toNat) →
          ∀ q ∈ hostCuts s.host.payload (slNum e.slate 16 8) bytes.length,
            .hostWrite 0 (BitVec.ofNat 64 q.1) ((bytes.drop (q.1 - slNum e.slate 16 8)).take q.2) ∈ t.out) ∧
    (∀ body report : List Byte, slOp e.slate = 0x48 → s.keep.mute = false → body = s.attestBody (fld e.slate 224 256) →
      report = body ++ natBytes 96 (s.signAk body).toNat → report.length ≤ slNum e.slate 24 4 →
      ∃ t, exec (.attest ch) s = .next t ∧ s.recorded ch e 0 (BitVec.ofNat 32 report.length) 0 t ∧
        (∀ q ∈ hostCuts s.host.payload (slNum e.slate 16 8) report.length, .hostWrite (BitVec.ofNat 6 (s.ownerOf ch.toNat))
          (BitVec.ofNat 64 q.1) ((report.drop (q.1 - slNum e.slate 16 8)).take q.2) ∈ t.out) ∧
        State.only [.host, .out, .keep] s t) ∧
    (slOp e.slate = 0x48 → s.keep.mute = true → ∃ t, exec (.attest ch) s = .next t ∧ s.recorded ch e 1 0 0x70B t)

/-- The management path (R199, R247): a packet sent, the next unmatched packet of a port received, multicast groups and bit rates. -/
def Sys2Proof.Claim.ManagementPath : Prop :=
  ∀ (s : State) (ch : BitVec 18) (e : Exec) (p : Nat) (bytes : List Byte), s.executes ch e → s.ownerOf ch.toNat = 0 →
    mgmtPort e.slate = some p → Tab.wf Port.reset s.ing.ports = true →
    (slOp e.slate = 0x4E → e.waiting = false → slNum e.slate 20 4 ≤ 9018 → s.receives p = true →
      ∃ t, exec (.mgmtTx ch bytes) s = .next t ∧ s.recorded ch e 0 0 0 t ∧
        .mgmt (fld e.slate 128 8) (bytes.take (slNum e.slate 20 4)) ∈ t.out ∧ State.only [.host, .out, .keep] s t) ∧
    (slOp e.slate = 0x4F → e.waiting = false → ch ≠ 0 → ∃ t, exec (.mgmtRx ch) s = .next t ∧
      (t.chan ch).exec = some { e with waiting := true } ∧ State.only [.host] s t) ∧
    (slOp e.slate = 0x50 → e.waiting = false → slNum e.slate 17 1 = 2 → p < 64 → ∀ v : BitVec 32, v = fld e.slate 160 32 → v ≠ 0 → v.toNat ≤ 12 →
      ∃ t, exec (.mgmtCtl ch) s = .next t ∧ s.recorded ch e 0 0 0 t ∧ (t.sport p).rate = v.setWidth 8 ∧ (∀ j, j ≠ p → t.sport j = s.sport j)) ∧
    (∀ v : BitVec 32, slOp e.slate = 0x50 → e.waiting = false → slNum e.slate 17 1 = 0 → 64 ≤ p → v = fld e.slate 160 32 →
      v ∉ (s.sport p).groups → (s.sport p).groups.length < 16 →
      ∃ t, exec (.mgmtCtl ch) s = .next t ∧ s.recorded ch e 0 0 0 t ∧ (t.sport p).groups = (s.sport p).groups ++ [v]) ∧
    (slOp e.slate = 0x4F → e.waiting = true → s.receives p = true → s.receiverOf (slNum e.slate 16 1) = some (ch, e) →
      ∀ (c : Instr), (∃ (l : BitVec 5) (d : Bool), c = .cxpControlPacket l d bytes ∧ p = 32 + l.toNat ∧ slNum e.slate 16 1 = 64 + l.toNat ∧
          s.hostRole l = true) ∨
        (∃ q : BitVec 4, p = 64 + q.toNat ∧ slNum e.slate 16 1 = 128 + q.toNat ∧ bytes.length + 4 ≤ 9018 ∧
          ((c = .ethernetUnmatchedFrame q bytes true ∧ isPause bytes = false) ∨
            ∃ ip : BitVec 32, c = .arpRequest q ip bytes true ∧ (ip = 0 ∨ (s.sport p).ip ≠ ip))) →
      ∃ t, exec c s = .next t ∧ State.only [.host, .out, .keep] s t ∧
        (∀ kept : List Byte, kept = bytes.take (slNum e.slate 20 4) → ∀ q ∈ hostCuts s.host.payload (slNum e.slate 24 8) kept.length,
          .hostWrite 0 (BitVec.ofNat 64 q.1) ((kept.drop (q.1 - slNum e.slate 24 8)).take q.2) ∈ t.out) ∧
        s.recorded ch e 0 (BitVec.ofNat 32 bytes.length) (BitVec.ofNat 24 (bytes.length - slNum e.slate 20 4) ++ (0#8)) t)

/-- The admin slates and the management path: the claims above together. -/
def Obligations.AdminSlates : Prop :=
  Claim.AdminSlates ∧ Claim.ManagementPath

/-! ## The set-up registers (chapter 18) -/

/-- Register accesses (R11, R229, R259, R461 to R465, R470): a field takes the value written unless its encoding is reserved, a 64-bit
register takes its two halves together, a register of a function that is not ready answers DOMAIN_OFF, an unaligned or unseen offset
advances BADACC, a CFGW packet writes the registers of the router it reaches, the data of an MSI-X vector is as written, a read of the
clap area gives zero, and a read of the low half of TB_NOW holds the high half of the same moment. -/
def Obligations.RegisterAccesses : Prop :=
  ∀ (s : State) (fn : BitVec 6) (v hi : BitVec 64), s.err.armed = none → Tab.wf none s.host.halves = true →
    Tab.wf 0 s.host.badAcc = true → Tab.wf 0 s.host.lastStat = true →
    (s.ready 0 = true → (fld v 0 8 : BitVec 8).toNat ≤ 150 →
      ∃ t, exec (.registerWrite (.host 0) 0x10020 false v) s = .next t ∧ t.gaf = { s.gaf with twarn := fld v 0 8 } ∧
        State.only [.host, .gaf] s t) ∧
    (s.ready 0 = true → 150 < (fld v 0 8 : BitVec 8).toNat →
      ∃ t, exec (.registerWrite (.host 0) 0x10020 false v) s = .next t ∧ t.gaf = s.gaf ∧ t.err.sum = setBit s.err.sum 11 true) ∧
    (s.ready 0 = false → ∃ t, exec (.registerWrite (.host 0) 0x10020 false v) s = .next t ∧ Tab.get 0 t.host.lastStat 0 = 1 ∧
      State.only [.host] s t) ∧
    (∃ t, exec (.registerWrite (.host 0) 0x128 true v) s = .next t ∧ t.rst = { s.rst with bootAddr := v &&& 0x7FFFFFFFFFC0 } ∧
      State.only [.host, .rst] s t) ∧
    (∃ t, exec (.registerWrite (.host 0) 0x128 false v) s = .next t ∧ State.only [.host] s t ∧
      ∃ u, exec (.registerWrite (.host 0) 0x12C false hi) t = .next u ∧
        u.rst = { s.rst with bootAddr := ((fld hi 0 32 : BitVec 32) ++ (fld v 0 32 : BitVec 32)) &&& 0x7FFFFFFFFFC0 } ∧
        State.only [.host, .rst] s u) ∧
    (∀ (off : BitVec 25) (wide : Bool), off.toNat % (if wide then 8 else 4) ≠ 0 →
      ∃ t, exec (.registerWrite (.host fn) off wide v) s = .next t ∧
        Tab.get 0 t.host.badAcc fn.toNat = satInc (Tab.get 0 s.host.badAcc fn.toNat) ∧ State.only [.host] s t) ∧
    (fn ≠ 0 → ∃ t, exec (.registerWrite (.host fn) 0x10020 false v) s = .next t ∧
      Tab.get 0 t.host.badAcc fn.toNat = satInc (Tab.get 0 s.host.badAcc fn.toNat) ∧ State.only [.host] s t) ∧
    (s.ready 0 = true → (fld v 0 8 : BitVec 8).toNat ≤ 150 → exec (.registerWrite .envor 0x10020 true v) s =
      .next (s.upGaf (fun g => { g with twarn := fld v 0 8 }))) ∧
    (∀ (off : BitVec 25), s.crew.remote = false → exec (.registerWrite .mgt off true v) s = .next s) ∧
    (s.ready 9 = true → v.getLsbD 8 = true → s.paired = false → Tab.wf Chan.free s.host.chans = true →
      ∃ t, exec (.admCqEnable v) s = .next t ∧ State.only [.host] s t ∧
        t.chan 0 = { s.chan 0 with fetch := 0, tail := 0, depth := fld s.host.admSq 0 4, sbase := fld s.host.admSq 12 35,
                                   write := 0, head := 0, phase := true, vec := fld v 0 8, cbase := fld v 16 31 }) ∧
    (∀ (k : Packet) (d : Nat), k.type = 7 → s.ready 1 = true → k.dst < 36 → (endpointAt k.dst k.dport).isSome = true → d < 36 →
      s.mesh.niVc k.dst k.dport 0 = [] → k.addr = 0x100100 + 1024 * k.dst + 8 * d → k.lanes = (0xFF : BitVec 64) <<< (8 * d % 64) →
      (s.mesh.router k.dst).pend = false → (s.mesh.router k.dst).oldlive = false →
      routeOk k.dst d (fld k.onLanes (64 * (d % 8)) 3) = true → Tab.wf 0 s.mesh.rts = true →
      ∃ t, exec (.meshCfgw k) s = .next t ∧ Tab.get 0 t.mesh.rts (36 * k.dst + d) = fld k.onLanes (64 * (d % 8)) 3 ∧
        State.only [.mesh] s t) ∧
    (∀ vec : BitVec 8, Tab.wf MsixVec.reset s.host.msix = true → s.host.msixPend = [] →
      ∃ t, exec (.registerWrite (.msix fn) (16 * vec.setWidth 25 + 8) false v) s = .next t ∧
        t.host.msixWord fn (4 * vec.toNat + 2) = fld v 0 32 ∧ State.only [.host] s t) ∧
    (exec (.tbNowLowRead (.claps fn)) s = .next { s with out := s.out ++ [.read (fn.setWidth 8) 0] }) ∧
    (s.ready 4 = true → ∃ t, exec (.tbNowLowRead (.host 0 0x20020 false)) s = .next t ∧
      t.out = s.out ++ [.read 0 ((fld s.tbNow 0 32 : BitVec 32).setWidth 128)] ∧ State.only [.host, .out] s t ∧
      ∀ u : State, u.host = t.host → u.ready 4 = true → ∃ w, exec (.tbNowLowRead (.host 0 0x20024 false)) u = .next w ∧
        w.out = u.out ++ [.read 0 ((fld s.tbNow 32 32 : BitVec 32).setWidth 128)]) ∧
    (exec (.tbNowLowRead (.smbus 0x30)) s = .next s)

/-! ## Sensor ingest (chapter 7) -/

/-- Sensor ports (R199, R202, R205 to R207, R257, Table 7-5): links come up and go down, lanes are aligned, triggers go out and come in, a
device-role link answers discovery alone, an ARP request for SP_IP is answered, a PAUSE frame is ignored, a PTP event message of the domain is
timestamped, traffic that no binding names is counted, and so is a packet in error.  The delay field of a trigger packet is a free value (log
entry 43). -/
def Obligations.SensorPorts : Prop :=
  ∀ (s : State) (p : BitVec 7) (l : BitVec 5) (q : BitVec 4), s.err.armed = none → Tab.wf Port.reset s.ing.ports = true → p.toNat < 80 →
    (∀ fast, (s.sport p.toNat).en = true → s.sensorPll p.toNat = true → ∃ t, exec (.sensorLinkUp p fast) s = .next t ∧
      t.sport p.toNat = { s.sport p.toNat with up := true, fast := fast } ∧ State.only [.ing] s t) ∧
    ((s.sport p.toNat).up = true → ∃ t, exec (.sensorLink p) s = .next t ∧ (t.sport p.toNat).up = false ∧
      ((s.sport p.toNat).en = true → t.err.sum = setBit s.err.sum 24 true)) ∧
    ((s.sport l.toNat).en = true → ∃ t, exec (.dphyDeskewBurst l) s = .next t ∧
      t.sport l.toNat = { s.sport l.toNat with deskew := true } ∧ State.only [.ing] s t) ∧
    (s.hostRole l = true → s.receives (32 + l.toNat) = true → exec (.cxpTriggerEdge l) s = .next (s.emit (.trigger l (s.freeVal 8))).took ∧
      exec (.cxpTriggerReceived l) s = .next (s.upSpl (fun x => { x with cxpIn := setBit x.cxpIn l.toNat true }))) ∧
    (s.receives (64 + q.toNat) = true →
      (∀ (ip : BitVec 32) (bytes : List Byte), ip ≠ 0 → ip = (s.sport (64 + q.toNat)).ip → bytes.length + 4 ≤ 9018 →
        exec (.arpRequest q ip bytes true) s = .next (s.emit (.arp q ip))) ∧
      (∀ d, s.cue.ctl.getLsbD q.toNat = true → fld s.cue.ctl 16 8 = d →
        exec (.ptpEventMessage q d true) s = .next (s.upCue (fun c => { c with ptpStamp := Tab.set 0 c.ptpStamp q.toNat s.tbNow }))) ∧
      (∀ (bytes : List Byte) (fcsOk : Bool), bytes.length + 4 ≤ 9018 → isPause bytes = true → fcsOk = true →
        exec (.ethernetUnmatchedFrame q bytes fcsOk) s = .next s) ∧
      (∀ (bytes : List Byte) (fcsOk : Bool), fcsOk = false ∨ 9018 < bytes.length + 4 → ∃ t, exec (.ethernetUnmatchedFrame q bytes fcsOk) s = .next t ∧
        t.sport (64 + q.toNat) = { s.sport (64 + q.toNat) with errs := satInc (s.sport (64 + q.toNat)).errs } ∧ State.only [.ing] s t)) ∧
    (s.hostRole l = false → s.receives (32 + l.toNat) = true → ∀ bytes : List Byte,
      exec (.cxpControlPacket l true bytes) s = .next (s.emit (.cxpDiscovery l)) ∧ exec (.cxpControlPacket l false bytes) s = .next s ∧
      exec (.cxpTriggerEdge l) s = .next s ∧ exec (.cxpTriggerReceived l) s = .next s) ∧
    (∀ (vc : BitVec 4) (dt : BitVec 6) (ok : Bool) (px : List Pixel), s.receives l.toNat = true →
      ((s.sport l.toNat).aligned = true → s.slotsOf (csiHit l vc dt) = [] → ∃ t, exec (.csi2LongPacket l vc dt .ok ok px) s = .next t ∧
        t.sport l.toNat = { s.sport l.toNat with uncl := satInc (s.sport l.toNat).uncl } ∧ State.only [.ing] s t) ∧
      ((s.sport l.toNat).aligned = true → s.slotsOf (csiVc l vc) = [] → ∃ t, exec (.csi2FrameStart l vc .ok) s = .next t ∧
        exec (.csi2FrameEnd l vc .ok) s = .next t ∧
        t.sport l.toNat = { s.sport l.toNat with uncl := satInc (s.sport l.toNat).uncl } ∧ State.only [.ing] s t) ∧
      ((s.sport l.toNat).fast = true → (s.sport l.toNat).deskew = false → ∃ t, exec (.csi2LongPacket l vc dt .ok ok px) s = .next t ∧
        t.sport l.toNat = { s.sport l.toNat with errs := satInc (s.sport l.toNat).errs } ∧ State.only [.ing] s t))

/-- A line of each transport (R201, R203, R204, R208, R211 to R214, R221, R222): one that a slot admits is taken whole with its time; one
that arrives with no token, in a format not accepted, or with an error is dropped by its row of Table 7-5 and counted. -/
def Obligations.LinesArrive : Prop :=
  ∀ (s : State) (k : Nat) (px : List Pixel), s.err.armed = none → Tab.wf Slot.reset s.ing.slots = true →
    Tab.wf Port.reset s.ing.ports = true →
    (∀ (l : BitVec 5) (vc : BitVec 4) (dt : BitVec 6), s.receives l.toNat = true → (s.sport l.toNat).aligned = true →
      s.slotsOf (csiHit l vc dt) = [k] →
      (s.admits k (s.slot k).index → (((s.slot k).newJob (s.slot k).index).region [(0, px)]).isSome = true →
        ∃ t, exec (.csi2LongPacket l vc dt .ok true px) s = .next t ∧ s.lineTaken k (s.slot k).index px t ∧ State.only [.ing, .arr] s t ∧
          (t.slot k).index = (s.slot k).index + 1) ∧
      (s.admits k (s.slot k).index → (∀ j ∈ (s.slot k).jobs, j.queued = true) ∨ (∀ j ∈ (s.slot k).jobs, j.time = none) →
        ∃ t, exec (.csi2LongPacket l vc dt .corrected false px) s = .next t ∧
        (t.slot k).dropInc = (s.slot k).dropInc + 1 ∧ (t.slot k).jobs = (s.slot k).jobs ∧ (t.slot k).fill = (s.slot k).fill ∧
        (t.slot k).index = (s.slot k).index + 1 ∧ State.only [.ing] s t) ∧
      ((s.slot k).ignores (s.slot k).index = false → (s.slot k).fill + lineBytes (s.slot k).fmt ≤ 16384 → (s.slot k).tokens < 1000000 →
        ∃ t, exec (.csi2LongPacket l vc dt .ok true px) s = .next t ∧ State.only [.ing] s t ∧
          t.slot k = { s.slot k with dropRate := (s.slot k).dropRate + 1, dropSince := satInc (s.slot k).dropSince,
                                     arrival := (s.slot k).arrival + 1, index := (s.slot k).index + 1 }) ∧
      ((s.slot k).ignores (s.slot k).index = false → 16384 < (s.slot k).fill + lineBytes (s.slot k).fmt →
        ∃ t, exec (.csi2LongPacket l vc dt .ok true px) s = .next t ∧ State.only [.ing] s t ∧
          t.slot k = { s.slot k with dropOvf := (s.slot k).dropOvf + 1, dropSince := satInc (s.slot k).dropSince,
                                     arrival := (s.slot k).arrival + 1, index := (s.slot k).index + 1 }) ∧
      (s.admits k (s.slot k).index → (∀ j ∈ (s.slot k).jobs, j.queued = true) ∨ (∀ j ∈ (s.slot k).jobs, j.time = none) → ∃ t, exec (.dphyAlignmentLoss l vc dt) s = .next t ∧
        (t.slot k).dropInc = (s.slot k).dropInc + 1 ∧ (t.slot k).jobs = (s.slot k).jobs ∧
        (t.sport l.toNat).errs = satInc (s.sport l.toNat).errs ∧ State.only [.ing] s t)) ∧
    (∀ (l : BitVec 5) (stream tag : BitVec 8) (w i : Nat), s.hostRole l = true → s.receives (32 + l.toNat) = true →
      s.receivers (cxpHit l stream) = [(k, 0)] → fld (s.slot k).rx.src 22 2 = (0 : BitVec 2) → (s.slot k).rx.width = w → 0 < w →
      px.length = w → (s.slot k).rx.pos = i * w → (s.slot k).rx.tag = some tag → (s.slot k).rx.held = [] → (s.slot k).rx.gap = false →
      ((s.slot k).rx.accept = true → (s.slot k).rx.arriving = [] → i ∉ (s.slot k).rx.ended → s.admits k i →
        (((s.slot k).newJob i).region [(0, px)]).isSome = true →
        ∃ t, exec (.cxpStreamPacket l stream tag true px) s = .next t ∧ s.lineTaken k i px t ∧ (t.slot k).rx.pos = (i + 1) * w ∧
          (t.slot k).rx.tag = some (tag + 1) ∧ State.only [.ing, .arr, .out] s t ∧
          ∀ d : BitVec 5, s.mirrors d.toNat l.toNat = true → .cxpCopy d stream { link := l, tag := tag, item := .data true px } ∈ t.out) ∧
      ((s.slot k).rx.accept = false → ∃ t, exec (.cxpStreamPacket l stream tag true px) s = .next t ∧ State.only [.ing, .out] s t ∧
        (t.slot k).dropFmt = (s.slot k).dropFmt + 1 ∧ (t.slot k).arrival = (s.slot k).arrival + 1 ∧ (t.slot k).jobs = (s.slot k).jobs)) ∧
    (∀ (q : BitVec 4) (ip : BitVec 32) (udp len : BitVec 16) (block : BitVec 64) (first : BitVec 32) (i : Nat), len.toNat ≤ 9018 →
      s.receives (64 + q.toNat) = true → (s.sport (64 + q.toNat)).accepts ip = true → s.receivers (gvspHit q udp) = [(k, 0)] →
      (s.slot k).rx.block = block → (s.slot k).rx.accept = true → 0 < (s.slot k).rx.width → px.length = (s.slot k).rx.width →
      first.toNat = i * (s.slot k).rx.width → (s.slot k).rx.arriving = [] → i ∉ (s.slot k).rx.ended → s.admits k i →
      (((s.slot k).newJob i).region [(0, px)]).isSome = true →
      ∃ t, exec (.gvspPayload q ip udp block first px len true) s = .next t ∧ s.lineTaken k i px t ∧ State.only [.ing, .arr] s t)

/-- Frames, images and blocks (R204, R208, R209, R215): each start begins the slot's next frame, an end marks the frame's last line, a
leader or header accepts the formats of Table 7-3, and a trailer drops the lines with data missing. -/
def Sys2Proof.Claim.FramesAndBlocks : Prop :=
  ∀ (s : State) (k : Nat), s.err.armed = none → Tab.wf Slot.reset s.ing.slots = true → Tab.wf Port.reset s.ing.ports = true →
    (∀ (l : BitVec 5) (vc : BitVec 4), s.receives l.toNat = true → (s.sport l.toNat).aligned = true → s.slotsOf (csiVc l vc) = [k] →
      (∃ t, exec (.csi2FrameStart l vc .ok) s = .next t ∧ State.only [.ing] s t ∧
        t.slot k = { s.slot k with frame := (s.slot k).frame + 1, index := 0 }) ∧
      (∀ j : LineJob, (s.slot k).jobs = [j] → j.frame = (s.slot k).frame → j.frame ≠ 0 → j.fe = false → s.paired = false →
        ∃ t, exec (.csi2FrameEnd l vc .corrected) s = .next t ∧ State.only [.ing] s t ∧ t.slot k = { s.slot k with jobs := [{ j with fe := true }] })) ∧
    (∀ (l : BitVec 5) (stream tag : BitVec 8) (pfnc : BitVec 32) (tap : Bool) (len : BitVec 24), s.hostRole l = true →
      s.receives (32 + l.toNat) = true → s.receivers (cxpHit l stream) = [(k, 0)] → (s.slot k).rx.arriving = [] → (s.slot k).rx.accept = false →
      (s.slot k).frame = 0 → (s.slot k).rx.tag = none ∨ (s.slot k).rx.tag = some tag → (s.slot k).rx.held = [] →
      ∃ t, exec (.cxpImageHeader l stream tag pfnc tap len) s = .next t ∧ State.only [.ing, .out] s t ∧ (t.slot k).rx.tag = some (tag + 1) ∧ (t.slot k).frame = 1 ∧ (t.slot k).index = 0 ∧
        (t.slot k).rx.accept = (tap && (pfPfnc (ctPf (s.slot k).fmt)).contains pfnc) ∧ (t.slot k).rx.width = len.toNat ∧ (t.slot k).rx.pos = 0) ∧
    (∀ (q : BitVec 4) (ip : BitVec 32) (udp : BitVec 16) (block : BitVec 64), s.receives (64 + q.toNat) = true →
      (s.sport (64 + q.toNat)).accepts ip = true → s.receivers (gvspHit q udp) = [(k, 0)] → (s.slot k).rx.arriving = [] →
      (∀ (pfnc w h : BitVec 32), (s.slot k).rx.accept = false → pfnc ∈ pfPfnc (ctPf (s.slot k).fmt) →
        ∃ t, exec (.gvspLeader q ip udp block true pfnc w h true) s = .next t ∧ State.only [.ing] s t ∧
          (t.slot k).frame = (s.slot k).frame + 1 ∧ (t.slot k).rx.accept = true ∧ (t.slot k).rx.width = w.toNat ∧
          (t.slot k).rx.height = h.toNat ∧ (t.slot k).rx.block = block ∧ (t.slot k).dropFmt = (s.slot k).dropFmt) ∧
      (∀ (pfnc w h : BitVec 32), (s.slot k).rx.accept = false → pfnc ∉ pfPfnc (ctPf (s.slot k).fmt) →
        ∃ t, exec (.gvspLeader q ip udp block true pfnc w h true) s = .next t ∧ State.only [.ing] s t ∧ (t.slot k).rx.accept = false ∧
          (t.slot k).dropFmt = (s.slot k).dropFmt + h ∧ (t.slot k).jobs = (s.slot k).jobs) ∧
      ((s.slot k).rx.accept = true → (s.slot k).rx.block = block → (s.slot k).rx.height = 1 → (s.slot k).rx.ended = [] →
        (s.slot k).ignores 0 = false → (s.slot k).jobs = [] → (s.slot k).lastRec = none →
        ∃ t, exec (.gvspTrailer q ip udp block true) s = .next t ∧ State.only [.ing] s t ∧ (t.slot k).rx.accept = false ∧
          (t.slot k).dropInc = (s.slot k).dropInc + 1 ∧ (t.slot k).arrival = (s.slot k).arrival + 1))

/-- The end of a line (R22, R217, R218, R220): its record's four words stand in data memory, its FIFO bytes are free, its unit raises its event
line when the line's mode says so, and its copy reaches the staging ring. -/
def Sys2Proof.Claim.LineRecords : Prop :=
  ∀ (s : State) (k : BitVec 6) (j : LineJob) (rest : List LineJob), s.paired = false → s.err.armed = none →
    Tab.wf Slot.reset s.ing.slots = true →
    (∀ (w : Word × Word × Word × Word) (n : Nat), (s.slot k.toNat).jobs = j :: rest → j.noticed = false → j.time.isSome = true → j.segs = 0 →
      w = j.record (k.toNat % 4) (s.slot k.toNat).dropSince →
      n = (if j.bind = (s.slot k.toNat).writtenOf then (s.slot k.toNat).written + 1 else 1) →
      ∃ t, exec (.lineComplete k) s = .next t ∧ State.only [.ing, .sys, .host, .dir] s t ∧
        t.sys.dmem = Tab.set 0 (Tab.set 0 (Tab.set 0 (Tab.set 0 s.sys.dmem j.recAddr.toNat w.1) (j.recAddr + 1).toNat w.2.1)
          (j.recAddr + 2).toNat w.2.2.1) (j.recAddr + 3).toNat w.2.2.2 ∧
        (t.slot k.toNat).jobs = rest ∧ (t.slot k.toNat).lines = (s.slot k.toNat).lines + (if j.bind = (s.slot k.toNat).bind then 1 else 0) ∧
        (t.slot k.toNat).fill = (s.slot k.toNat).fill - j.bytes ∧
        (s.dir.run ≠ .held → t.dir = if j.raises n then { s.dir with evp := setBit s.dir.evp (k.toNat / 4) true }
          else s.dir) ∧
        ((s.slot k.toNat).copying = none → (t.slot k.toNat).copying = if j.copy.msb then some j.copyLines else none)) ∧
    (∀ (n b : Nat) (v : BitVec 512) (other : PortUse), (s.slot k.toNat).copying = some (n, [v]) → b = n / 16384 → secureLine b (n % 16384) = false →
      other = Tab.get PortUse.none s.banks.wrote (2 * b) → (other.time = s.now → other.line = n % 16384 → other.lanes = 0) →
      ∃ t, exec (.lineCopyComplete k) s = .next t ∧ t.slot k.toNat = { s.slot k.toNat with copying := none } ∧
        (b < 10 ∨ 14 ≤ b → State.only [.ing, .banks] s t ∧ ∀ use : PortUse, use = ⟨s.now, n % 16384, BitVec.allOnes 64⟩ →
          t.banks = (({ s.banks with wrote := Tab.set PortUse.none s.banks.wrote (2 * b + 1) use } : Banks).touch b (n % 16384)).putLanes
            b (n % 16384) (BitVec.allOnes 64) v) ∧
        (10 ≤ b → b < 14 → Tab.wf Chan.free s.host.chans = true → State.only [.ing, .banks, .host] s t ∧ ∀ i < 4, ∀ c : BitVec 18,
          c.toNat = reelChan b (n % 16384) + i → (t.chan c).sbase = fld v (128 * i) 35 ∧ (t.chan c).cbase = fld v (128 * i + 64) 31))

/-- Frames, blocks and line records: the claims above together. -/
def Obligations.FramesAndRecords : Prop :=
  Claim.FramesAndBlocks ∧ Claim.LineRecords

/-! ## The crew (chapter 10) -/

/-- The crew opcodes (R296 to R306, Table 10-9): the answer of each stands in A, or A and PH; an accepted HXSEND queues its strip, HXDONE
takes the bits it reads, an accepted CRARM begins the group's next round, which is complete at once when its RED_DN came first (R304); and
CRREAD answers the latest round. -/
def Sys2Proof.Claim.CrewOpcodes : Prop :=
  ∀ (s : State) (g : BitVec 4) (tree : BitVec 2) (round : BitVec 16) (r : Red), s.issuesAlone → s.dir.priv = true → s.err.armed = none →
    exec (.hxsend 2 1) s = .next ((s.completed { s.dir with a := s.hxAnswer } 10).upCrew (fun c => if s.hxAnswer = 0 then
      { c with sends := c.sends ++ [{ edge := fld s.dir.a 0 2, slot := fld s.dir.a 2 3, plane := (s.chPlane (fld s.dir.x 0 12)).1,
                                      serial := s.seq.serial, snap := none }] } else c)) ∧
    (s.crew.hxmap.getLsbD (8 * (fld s.dir.a 0 2 : BitVec 2).toNat + 7) = false → s.hxAnswer = 1) ∧
    exec (.hxdone 0 2) s = .next ((s.completed { s.dir with
      a := fld s.crew.hxDone 0 24, ph := (fld s.crew.hxDone 24 8 : BitVec 8).setWidth 24 } 10).upCrew (fun c => { c with hxDone := 0 })) ∧
    (g = fld s.dir.a 0 4 → tree = fld s.dir.a 4 2 →
      ((s.grpReg g).msb = true → (s.group g).armed = none → tree ≠ 0 →
        ((∀ e, (s.group g).early = some e → e.1 ≠ (s.group g).round + 1) → exec (.crarm 1 1) s =
          .next ((s.completed { s.dir with a := ((s.group g).round + 1).setWidth 24 } 10).upGroup g (fun x => { x with
            round := x.round + 1, armed := some (tree, s.chanInForce, s.seq.serial), entry := none, lastOr := false, lastTally := 0,
            readyOr := 0, readyTally := 0, own := none, early := none, sent := false, since := s.now + 1, failNext := false }))) ∧
        ((s.group g).early = some ((s.group g).round + 1, r) → r.fail = false → Tab.wf Group.reset s.crew.groups = true →
          ∃ t, exec (.crarm 1 1) s = .next t ∧ (t.group g).res = some ((s.group g).round + 1, r) ∧ (t.group g).since = 0 ∧
            (t.group g).round = (s.group g).round + 1)) ∧
      ((s.grpReg g).msb = false ∨ (s.group g).armed.isSome = true ∨ tree = 0 → exec (.crarm 1 1) s =
        .next (s.completed { s.dir with a := 0x800000 ||| (s.group g).round.setWidth 24 } 10)) ∧
      ((s.group g).res = some (round, r) → exec (.crread 1 2) s = .next (s.completed { s.dir with
        a := fld r.count 0 24, ph := round ++ (0#2) ++ bit1 r.fail ++ (1#1) ++ bit1 r.or ++ (fld r.count 24 3 : BitVec 3) } 10)) ∧
      ((s.group g).res = none → exec (.crread 1 2) s = .next (s.completed { s.dir with a := 0, ph := 0 } 10)))

/-- The strip of the oldest send of an edge (R297, R298): before its sequence point nothing is read; then, as the plane stood at that point,
its first part goes out with the other three behind it, in the order of the parts, or all four count as unroutable on a port that is
down; and the edge's send number advances. -/
def Sys2Proof.Claim.HaloStrips : Prop :=
  ∀ (s : State) (edge : BitVec 2) (h : HxSend) (rest : List HxSend) (p : BitVec 4) (plane : Plane) (num : BitVec 16),
    s.crew.sends = h :: rest → h.edge = edge → s.err.armed = none → s.pair.st = .solo → Tab.wf 0 s.crew.hxNum = true →
    p = fld s.crew.hxmap (8 * edge.toNat) 4 → plane = h.snap.getD (s.arr.plane h.plane.toNat) → num = Tab.get 0 s.crew.hxNum edge.toNat →
    (s.seq.pastPoint h.serial = false → exec (.haloStripRead edge) s = .next s) ∧
    (s.seq.pastPoint h.serial = true → h.snap.isSome = true ∨ s.arr.badSegs h.plane.toNat (stripPes edge.toNat) = [] →
      ∃ t, exec (.haloStripRead edge) s = .next t ∧ t.crew.sends = rest ∧ Tab.get 0 t.crew.hxNum edge.toNat = num + 1 ∧
        State.only [.crew, .out] s t ∧
        ((s.port p).up = false → Tab.wf 0 s.crew.cnt = true → (s.portCount p 3).toNat + 4 < 4294967296 → s.counted p 3 4 t ∧ t.out = s.out) ∧
        (s.linked p → (s.port p).replay = [] → (s.port p).used = [] →
          t.out = s.out ++ [.crew p ((s.sent p (s.stripFrame h plane num 0)).wire false)] ∧
          (t.port p).txq = [(s.stripFrame h plane num 1, none), (s.stripFrame h plane num 2, none), (s.stripFrame h plane num 3, none)]))

/-- Crew opcodes and halo strips: the claims above together. -/
def Obligations.CrewOpcodesAndStrips : Prop :=
  Claim.CrewOpcodes ∧ Claim.HaloStrips

/-- Links (R274 to R276, R291, R295): a link that may train comes up with its neighbour's identity and event 0x0005; one that goes down loses
the frames it held, counted as unroutable, and trains again when it may; the bypass of ports 0 and 1 follows OPEN. -/
def Sys2Proof.Claim.CrewLinks : Prop :=
  ∀ (s : State) (p np : BitVec 4) (na : BitVec 8) (ident : BitVec 128) (v : BitVec 32), s.err.armed = none → s.pair.st = .solo →
    Tab.wf CrewPort.reset s.crew.ports = true → Tab.wf 0 s.crew.cnt = true →
    ((s.port p).up = false → (s.port p).txq = [] → s.mayTrain p = true → s.host.evq.length < 64 →
      ∃ t, exec (.crewLinkUp p np na true ident) s = .next t ∧ State.only [.crew, .host] s t ∧
        t.port p = { s.port p with up := true, train := false, nport := np, naddr := na, navalid := true, nident := ident, txSeq := 0,
                                   rxSeq := 0, ahead := 0, naked := false, used := [], freed := [], back := [], owed := [] } ∧
        t.host.evq = s.host.evq ++ [{ time := s.tbNow, code := 5, data := (0#8) ++ na ++ (0#4) ++ s.crew.cur ++ (0#2) ++ (0#1) ++ (1#1) ++ p }]) ∧
    (s.mayTrain p = false → exec (.crewLinkUp p np na true ident) s = .next s) ∧
    ((s.port p).up = true → ∃ t, exec (.crewPortDown p) s = .next t ∧ (t.port p).up = false ∧ (t.port p).train = s.mayTrain p ∧
      (t.port p).txq = [] ∧ (t.port p).replay = [] ∧ s.counted p 3 ((s.port p).txq.length + (s.port p).replay.length) t ∧
      t.out = (if s.mayTrain p then s.out ++ [.crewTrain p s.ident (fld s.crew.addr 0 8) s.crew.addr.msb] else s.out) ∧
      State.only [.crew, .host, .arr, .free, .out] s t) ∧
    (s.ready 6 = true → exec (.crewBypWrite v) s = .next (s.upCrew (fun c => { c with bypOpen := v.getLsbD 0 }))) ∧
    (s.crew.bypState ≠ s.crew.bypOpen → ∃ t, exec .bypassSettled s = .next t ∧ t.crew.bypState = s.crew.bypOpen ∧
      (t.port 0).up = false ∧ (t.port 1).up = false)

/-- Retry and credit (R281 to R283, R294): an ACK frees the frames it names and reports DONE, a NAK and the replay timer send them again and count
RETRY, the fifth failure takes the port down as CREW_RETRY_FAIL, and a credit cell returns the cells of its pool that no cell before it
returned. -/
def Sys2Proof.Claim.CrewRetry : Prop :=
  ∀ (s : State) (p : BitVec 4) (r : Replay) (rest : List Replay), s.linked p → (s.port p).replay = r :: rest → r.bad = false →
    (∀ slot : BitVec 5, r.withheld = false → r.slot = some (p ++ slot) → Tab.wf 0 (s.port p).sendSt = true →
      ∃ t, exec (.linkAck p r.f.lseq true) s = .next t ∧ (t.port p).replay = rest ∧ Tab.get 0 (t.port p).sendSt slot.toNat = 2 ∧
        State.only [.crew] s t) ∧
    (∀ (c : Instr), c = .linkNak p r.f.lseq true ∨ (c = .replayTimeout p ∧ r.sent + 2000 ≤ s.now) →
      (rest = [] → r.replays < 4 → s.now < r.first + 20000 → ∃ t, exec c s = .next t ∧ t.out = s.out ++ [.crew p (r.f.wire false)] ∧
        (t.port p).replay = [{ r with replays := r.replays + 1, sent := s.now }] ∧ s.counted p 1 1 t ∧ State.only [.crew, .out] s t) ∧
      (rest = [] → 4 ≤ r.replays → ∃ t, exec c s = .next t ∧ (t.port p).up = false ∧ (t.port p).replay = [] ∧ s.counted p 0 1 t ∧
        t.err.sum = setBit s.err.sum 34 true ∧ ∀ w, .crew p w ∈ t.out → .crew p w ∈ s.out)) ∧
    (s.now < r.sent + 2000 → exec (.replayTimeout p) s = .next s) ∧
    (∀ (pool : BitVec 3) (total : BitVec 32), Tab.wf 0 (s.port p).used = true → Tab.wf 0 (s.port p).freed = true →
      ∃ t, exec (.crewCreditReturn p pool total true) s = .next t ∧ Tab.get 0 (t.port p).used pool.toNat =
          Tab.get 0 (s.port p).used pool.toNat - (total - Tab.get 0 (s.port p).freed pool.toNat).toNat ∧
        Tab.get 0 (t.port p).freed pool.toNat = total ∧ State.only [.crew] s t)

/-- Crew links, the bypass, retry and credit: the claims above together. -/
def Obligations.CrewLinksAndRetry : Prop :=
  Claim.CrewLinks ∧ Claim.CrewRetry

/-- Send slots (R290, R291, R294, R335): GO on a slot that is not busy sends the frame it holds with SRC, EPOCH and LSEQ filled in; on a port
that is down, or by an entry that names no port, the slot reports NOROUTE; a message routed to another port goes over the mesh in
segments; a message of the device to itself is delivered at once; a busy slot ignores GO. -/
def Sys2Proof.Claim.SendSlots : Prop :=
  ∀ (s : State) (p : BitVec 4) (slot : BitVec 5) (f : Frame), s.pair.st = .solo → s.err.armed = none →
    f = s.slotFrame (Frame.read ((s.port p).slotBytes slot.toNat)) →
    Tab.wf CrewPort.reset s.crew.ports = true → Tab.wf 0 s.crew.cnt = true → Tab.wf 0 (s.port p).sendSt = true →
    (Tab.get 0 (s.port p).sendSt slot.toNat = 1 → exec (.sendSlotGo p slot) s = .next s) ∧
    (Tab.get 0 (s.port p).sendSt slot.toNat ≠ 1 → f.type ≠ 1 → f.type ≠ 6 →
      ((s.port p).up = false → ∃ t, exec (.sendSlotGo p slot) s = .next t ∧ Tab.get 0 (t.port p).sendSt slot.toNat = 4 ∧
        s.counted p 3 1 t ∧ State.only [.crew] s t) ∧
      (f.type ≠ 0xB → s.linked p → s.room p f → ∃ t, exec (.sendSlotGo p slot) s = .next t ∧ Tab.get 0 (t.port p).sendSt slot.toNat = 1 ∧
        t.out = s.out ++ [.crew p ((s.sent p f).wire false)] ∧ (t.port p).txSeq = (s.port p).txSeq + 1 ∧ State.only [.crew, .out] s t)) ∧
    (Tab.get 0 (s.port p).sendSt slot.toNat ≠ 1 → f.type = 1 → s.crew.addr.msb = true → f.dst = fld s.crew.addr 0 8 →
      ∃ t, exec (.sendSlotGo p slot) s = .next t ∧ Tab.get 0 (t.port p).sendSt slot.toNat = 2) ∧
    (∀ (e : BitVec 8) (q : BitVec 4), Tab.get 0 (s.port p).sendSt slot.toNat ≠ 1 → f.type = 1 →
      (s.crew.addr.msb = false ∨ f.dst ≠ fld s.crew.addr 0 8) → e = Tab.get 0 s.crew.rtc f.dst.toNat → q = fld e 0 4 →
      (e.msb = false → ∃ t, exec (.sendSlotGo p slot) s = .next t ∧ Tab.get 0 (t.port p).sendSt slot.toNat = 4 ∧ s.counted p 3 1 t ∧
        State.only [.crew] s t) ∧
      (e.msb = true → q ≠ p → (s.port q).up = true → ∃ t, exec (.sendSlotGo p slot) s = .next t ∧
        t.crew.transit = s.crew.transit ++ [{ src := p, dst := q, tag := s.crew.tag, epoch := s.crew.cur, words := f.payload.length,
                                              slot := some (p ++ slot), segs := [] }] ∧ State.only [.crew, .mesh] s t))

/-- Crew time (R307, R308): a delay request is answered with the time it stayed here, a measure begins every 64 us and ends, a time frame goes
every 1 us to a port that the free value of log entry 15 makes a child, one from the parent enters the filter with the time by which it lies
ahead, and 16 lost frames clear SYNC as CREW_TSYNC_LOST.  The filter itself is a free function, depth and the parent's SYNC are free values
(log entry 15). -/
def Sys2Proof.Claim.CrewTime : Prop :=
  ∀ (s : State) (p : BitVec 4) (w : Wire) (f : Frame), s.linked p → f = w.frame →
    exec (.delayRequest p true) s = .next (s.emit (.crewCell p 4 0)) ∧
    (s.followsCrew = true → s.crew.tparent = p → s.crew.tmaster = false →
      (s.everyDue 64000 s.crew.delayAt = true → exec .delayMeasure s = .next (((s.upCrew (fun c => { c with delayAt := s.now + 1 })).upPort p
        (fun q => { q with delaySent := s.now + 1 })).emit (.crewCell p 3 0))) ∧
      (s.everyDue 64000 s.crew.delayAt = false → exec .delayMeasure s = .next s)) ∧
    (∀ peer : BitVec 64, (s.port p).delaySent ≠ 0 → ∃ t, exec (.delayResponse p peer true) s = .next t ∧ State.only [.crew] s t ∧
      t.port p = { s.port p with delay := (s.now + 1 - (s.port p).delaySent - peer.toNat) / 2, delaySent := 0 }) ∧
    (s.followsCrew = true → s.crew.tmaster = false → s.crew.sync = true → ∃ t, exec .crewSyncClear s = .next t ∧ t.crew.sync = false ∧
      t.err.sum = setBit s.err.sum 36 true) ∧
    ((∀ q, q ≠ p → (s.port q).up = false) → s.crew.tmaster = true → (s.port p).replay = [] → Tab.get 0 (s.port p).used 4 < 16 →
      (s.everyDue 1000 s.crew.timeSent = true → ∃ t, exec .timeFrameSend s = .next t ∧ t.crew.timeSent = s.now + 1 ∧
        t.out = (if (s.freeVal 16).getLsbD p.toNat then s.out ++
          [.crew p ((s.sent p (s.mkFrame 5 3 0 0 [fld s.tbNow 0 32, fld s.tbNow 32 32])).wire false)] else s.out) ∧
        State.only [.crew, .out, .free] s t) ∧
      (s.everyDue 1000 s.crew.timeSent = false → exec .timeFrameSend s = .next s)) ∧
    (s.accepts 5 p w → s.followsCrew = true → s.crew.tparent = p → s.crew.tmaster = false → ∃ t, exec (.timeFrame p w) s = .next t ∧
      t.crew.toffset = Config.timeFilter s.crew.toffset
        (((f.word 0).toNat + 4294967296 * (f.word 1).toNat : Nat) + ((s.port p).delay : Int) - s.tbNow.toNat) ∧
      t.crew.tdepth = fld (s.freeVal 5) 0 4 ∧ t.crew.tlost = 0 ∧ (t.crew.sync = true → 16 ≤ t.crew.tgood))

/-- Send slots and crew time: the claims above together. -/
def Obligations.SendSlotsAndCrewTime : Prop :=
  Claim.SendSlots ∧ Claim.CrewTime

/-- The link layer's checks on every type (R280 to R282): a frame with a bad CRC counts BAD and draws one NAK, one out of order draws a NAK,
a malformed one or one of a reserved type counts BAD and returns its credit, and none has any other effect; a reduction or TIME frame
from inside a longer frame is accepted ahead of it. -/
def Obligations.CrewFrameChecks : Prop :=
  ∀ (s : State) (p : BitVec 4) (w : Wire) (f : Frame) (c : BitVec 4 × Instr), s.linked p → f = w.frame →
    c ∈ [(1, .crewMsgFrame p w), (2, .haloFrame p w), (3, .redUpFrame p w), (4, .redDnFrame p w), (5, .timeFrame p w), (6, .crewSevFrame p w),
      (7, .scanFrame p w), (8, .identFrame p w), (9, .mgtFrame p w), (10, .mgtrFrame p w)] →
    (f.crcOk = false → ∃ t, exec c.2 s = .next t ∧ s.counted p 2 1 t ∧ (t.port p).naked = true ∧ (t.port p).rxSeq = (s.port p).rxSeq ∧
      State.only [.crew, .out] s t ∧
      t.out = (if (s.port p).naked then s.out else s.out ++ [.crewCell p 1 ((s.port p).rxSeq.setWidth 64)])) ∧
    (f.crcOk = true → f.type = c.1 ∨ f.oddType false = true → w.inside = false →
      (f.lseq ≠ (s.port p).rxSeq → (s.port p).naked = false → ∃ t, exec c.2 s = .next t ∧ State.only [.crew, .out] s t ∧
        t.port p = { s.port p with naked := true } ∧ t.out = s.out ++ [.crewCell p 1 ((s.port p).rxSeq.setWidth 64)]) ∧
      (f.lseq = (s.port p).rxSeq → f.malformed false = true →
        exec c.2 s = .next (((s.acked p f).crewCount p 2 1).returnCredit p f))) ∧
    (f.crcOk = true → f.type = c.1 → f.inserts = true → w.inside = true → f.lseq = (s.port p).rxSeq + 1 → f.malformed false = false →
      ∃ t, exec c.2 s = .next t ∧ (t.port p).ahead = 1 ∧ (t.port p).rxSeq = (s.port p).rxSeq)

/-- What an accepted frame does (R285, R290 to R292, R297, R299, R304, R309, R335): a message takes a receive slot, is forwarded or is discarded
by its reason; a strip part reaches its edge's slot, and the fourth completes it; RED_UP and RED_DN take part in the round they name; SEV
raises its port's event. -/
def Obligations.CrewFrames : Prop :=
  ∀ (s : State) (p : BitVec 4) (w : Wire) (f : Frame), s.dir.run ≠ .held → f = w.frame → Tab.wf Group.reset s.crew.groups = true →
    (s.accepts 1 p w → s.crew.addr.msb = false → exec (.crewMsgFrame p w) s = .next (((s.acked p f).crewCount p 3 1).returnCredit p f)) ∧
    (s.accepts 1 p w → s.crew.addr.msb = true → f.dst ≠ fld s.crew.addr 0 8 →
      (f.ttl = 0 → exec (.crewMsgFrame p w) s = .next (((s.acked p f).crewCount p 4 1).returnCredit p f)) ∧
      (f.ttl ≠ 0 → s.crew.tableOf f.epoch = none → exec (.crewMsgFrame p w) s = .next (((s.acked p f).crewCount p 5 1).returnCredit p f)) ∧
      (∀ (tb : Tab (BitVec 8)) (e : BitVec 8) (q : BitVec 4), f.ttl ≠ 0 → s.crew.tableOf f.epoch = some tb → e = Tab.get 0 tb f.dst.toNat →
        q = fld e 0 4 →
        (e.msb = false → exec (.crewMsgFrame p w) s = .next (((s.acked p f).crewCount p 3 1).returnCredit p f)) ∧
        (e.msb = true → q ≠ p → (s.port q).up = true → ∃ t, exec (.crewMsgFrame p w) s = .next t ∧
          t.crew.transit = s.crew.transit ++ [{ src := p, dst := q, tag := s.crew.tag, epoch := f.epoch, words := f.payload.length,
                                                slot := none, segs := [] }] ∧ State.only [.crew, .mesh, .out] s t))) ∧
    (s.accepts 1 p w → s.crew.addr.msb = true → f.dst = fld s.crew.addr 0 8 → Tab.get none s.crew.wins f.src.toNat = none →
      Tab.get none (s.port p).recv 0 = none → Tab.wf none (s.port p).recv = true → ∃ t, exec (.crewMsgFrame p w) s = .next t ∧
        Tab.get none (t.port p).recv 0 = some f ∧ t.dir.evp = setBit s.dir.evp (16 + p.toNat) true ∧
        Tab.get none t.crew.wins f.src.toNat = Tab.get none (Tab.set none s.crew.wins f.src.toNat
          (some { inc := fld f.tsf 26 8, high := f.msgno, marks := 1 })) f.src.toNat ∧ State.only [.crew, .dir, .out] s t) ∧
    (s.accepts 2 p w → s.crew.edgeOf p = none → exec (.haloFrame p w) s = .next (((s.acked p f).crewCount p 7 1).returnCredit p f)) ∧
    (∀ (e k : Nat) (part : BitVec 2) (num : BitVec 16) (old : BitVec 16 × BitVec 4) (parts : BitVec 4), s.accepts 2 p w →
      s.crew.edgeOf p = some e → s.ready 11 = true → k = 8 * e + (fld f.tsf 31 3 : BitVec 3).toNat → part = fld f.tsf 29 2 →
      num = fld f.tsf 13 16 → old = Tab.get (0, 0) s.crew.hxParts k → parts = setBit (if old.1 = num then old.2 else 0) part.toNat true →
      ∃ t, exec (.haloFrame p w) s = .next t ∧
        (parts ≠ 0xF → t.crew.hxDone = s.crew.hxDone ∧ State.only [.arr, .crew, .out] s t ∧
          t.arr.halo = Tab.upd Halo.empty s.arr.halo k (fun h => h.putPart (s.crew.hxmap.getLsbD (8 * e + 6)) part.toNat f)) ∧
        (parts = 0xF → t.crew.hxDone = setBit s.crew.hxDone k true ∧ t.dir.evp = setBit s.dir.evp (16 + p.toNat) true ∧
          State.only [.arr, .crew, .dir, .out] s t ∧
          t.arr.halo = Tab.upd Halo.empty (Tab.upd Halo.empty s.arr.halo k
            (fun h => h.putPart (s.crew.hxmap.getLsbD (8 * e + 6)) part.toNat f)) k (fun h => { h with dead := false }))) ∧
    (s.accepts 3 p w → (fld f.tsf 14 16 : BitVec 16) ≠ (s.group (fld f.tsf 30 4)).round →
      (fld f.tsf 14 16 : BitVec 16) ≠ (s.group (fld f.tsf 30 4)).round + 1 →
      exec (.redUpFrame p w) s = .next (((s.acked p f).crewCount p 8 1).returnCredit p f)) ∧
    (s.accepts 3 p w → (fld f.tsf 14 16 : BitVec 16) = (s.group (fld f.tsf 30 4)).round → (s.group (fld f.tsf 30 4)).own = none →
      exec (.redUpFrame p w) s = .next (((s.acked p f).upGroup (fld f.tsf 30 4)
        (fun x => { x with kids := x.kids ++ [(p, fld f.tsf 14 16, redOf f)] })).returnCredit p f)) ∧
    (∀ g : BitVec 4, s.accepts 4 p w → g = fld f.tsf 30 4 → p = fld (s.grpReg g) 26 4 → (s.grpReg g).getLsbD 30 = false →
      grpChildren (s.grpReg g) = [] →
      ((fld f.tsf 14 16 : BitVec 16) = (s.group g).round →
        ((s.group g).since ≠ 0 → (redOf f).fail = false → Tab.get none s.crew.grpNext g.toNat = none →
          ∃ t, exec (.redDnFrame p w) s = .next t ∧ (t.group g).res = some ((s.group g).round, redOf f) ∧ (t.group g).since = 0 ∧
            t.dir.evp = setBit s.dir.evp (16 + (fld (s.grpReg g) 22 4 : BitVec 4).toNat) true ∧ State.only [.crew, .dir, .out] s t) ∧
        ((s.group g).since = 0 → exec (.redDnFrame p w) s = .next ((s.acked p f).returnCredit p f))) ∧
      ((fld f.tsf 14 16 : BitVec 16) = (s.group g).round + 1 → exec (.redDnFrame p w) s =
        .next (((s.acked p f).upGroup g (fun x => { x with early := some (fld f.tsf 14 16, redOf f) })).returnCredit p f))) ∧
    (s.accepts 4 p w → p ≠ fld (s.grpReg (fld f.tsf 30 4)) 26 4 →
      exec (.redDnFrame p w) s = .next (((s.acked p f).crewCount p 8 1).returnCredit p f)) ∧
    (s.accepts 6 p w → exec (.crewSevFrame p w) s = .next (((s.acked p f).raise (16 + p.toNat)).returnCredit p f))

/-- Route epochs (R293): writes load the standby table, SWAP exchanges the tables and advances the epoch, and OLDLIVE falls once RELEASE is
written and no frame of the old epoch waits at a port or is on its way between ports. -/
def Sys2Proof.Claim.CrewEpochs : Prop :=
  ∀ (s : State) (d : BitVec 8) (v : BitVec 32), s.ready 6 = true →
    (s.crew.oldlive = false → exec (.crewRtsWrite d v) s = .next (s.upCrew (fun c => { c with
      rts := Tab.set 0 c.rts d.toNat (fld v 0 8 &&& 0xCF), stby := true }))) ∧
    (s.crew.oldlive = true → exec (.crewRtsWrite d v) s = .next s) ∧
    (s.crew.stby = true → s.crew.oldlive = false → ∃ t, exec .crewEpochSwap s = .next t ∧ State.only [.crew, .host] s t ∧
      t.crew = { s.crew with cur := s.crew.cur + 1, rtc := s.crew.rts, rts := s.crew.rtc, stby := false, oldlive := true, released := false }) ∧
    (s.crew.stby = false → exec .crewEpochSwap s = .next s) ∧
    (s.crew.oldlive = true → exec .crewEpochRelease s = .next (s.upCrew (fun c => { c with released := true }))) ∧
    (s.crew.oldlive = true → s.crew.released = true → (∀ x ∈ s.crew.transit, x.epoch ≠ s.crew.cur - 1) →
      (∀ p : BitVec 4, ∀ x ∈ (s.port p).txq, x.1.epoch ≠ s.crew.cur - 1) →
      exec .crewOldliveClear s = .next (s.upCrew (fun c => { c with oldlive := false, released := false }))) ∧
    (∀ (p : BitVec 4) (x : Frame × Option (BitVec 9)), x ∈ (s.port p).txq → x.1.epoch = s.crew.cur - 1 →
      exec .crewOldliveClear s = .next s) ∧
    (∀ x ∈ s.crew.transit, x.epoch = s.crew.cur - 1 → exec .crewOldliveClear s = .next s)

/-- Reduction rounds (R302 to R306): a group is set up at once or after its round, a contribution joins its round once it is readable,
and a round that outlasts TMO completes with FAIL; its OR and COUNT are free values (log entry 15). -/
def Sys2Proof.Claim.CrewRounds : Prop :=
  ∀ (s : State) (g : BitVec 4) (v : BitVec 32), s.err.armed = none → s.pair.st = .solo → Tab.wf Group.reset s.crew.groups = true →
    Tab.wf 0 s.crew.grp = true → Tab.wf none s.crew.grpNext = true →
    (s.ready 6 = true → fld v 16 6 ≠ (0 : BitVec 6) →
      ((s.group g).since = 0 → exec (.crGrpWrite g v) s = .next (s.upCrew (fun c => { c with grp := Tab.set 0 c.grp g.toNat v }))) ∧
      ((s.grpReg g).msb = true → (s.group g).since ≠ 0 → exec (.crGrpWrite g v) s =
        .next (s.upCrew (fun c => { c with grpNext := Tab.set none c.grpNext g.toNat (some (v, s.now)) })))) ∧
    (s.ready 6 = true → fld v 16 6 = (0 : BitVec 6) → (s.group g).since = 0 → ∃ t, exec (.crGrpWrite g v) s = .next t ∧
      fld (t.grpReg g) 16 6 = (fld (s.grpReg g) 16 6 : BitVec 6) ∧ t.err.sum = setBit s.err.sum 11 true) ∧
    (∀ (tree : BitVec 2) (ch : BitVec 18) (m n : Nat), (s.group g).armed = some (tree, ch, m) → (s.group g).entry = some n →
      (s.contributes (s.group g) tree n = false → exec (.crewContribution g) s = .next s) ∧
      (s.contributes (s.group g) tree n = true → (s.group g).since ≠ 0 → (grpChildren (s.grpReg g)) ≠ [] → (s.group g).kids = [] →
        ∃ t, exec (.crewContribution g) s = .next t ∧ State.only [.crew] s t ∧ t.group g = { s.group g with
          armed := none, entry := none,
          own := some {
            or := if tree.getLsbD 0 then (s.group g).lastOr else decide ((s.group g).lastTally ≠ 0),
            fail := (s.group g).failNext,
            count := if tree.getLsbD 1 then (s.group g).lastTally else 0 } }) ∧
      (s.seq.run = none → s.seq.queue = [] → s.seq.park = [] → (s.group g).readyOr ≤ s.seq.cyc → (s.group g).readyTally ≤ s.seq.cyc →
        s.contributes (s.group g) tree n = true)) ∧
    ((s.group g).since ≠ 0 → (s.group g).since + s.grpTmo g ≤ s.now + 1 → ∃ t, exec (.crewRoundTimeout g) s = .next t ∧
      (t.group g).res = some ((s.group g).round, { or := (s.freeVal 28).getLsbD 27, fail := true, count := fld (s.freeVal 28) 0 27 }) ∧
      (t.group g).since = 0 ∧ t.err.sum = setBit s.err.sum 37 true) ∧
    (s.now + 1 < (s.group g).since + s.grpTmo g → exec (.crewRoundTimeout g) s = .next s)

/-- Route epochs and reduction rounds of the crew: the claims above together. -/
def Obligations.CrewEpochsAndRounds : Prop :=
  Claim.CrewEpochs ∧ Claim.CrewRounds

/-- Discovery (R287 to R289): CREW_SCAN sends SCAN and waits, or is denied while a lower scanner's scan is fresh; a device passes a new SCAN
on and answers its parent; the scanner keeps IDENT records and counts MGTR frames, another device passes both to its parent; an MGT
frame's records act only while REMOTE is 1; and 1 ms without IDENT ends the slate with its report. -/
def Obligations.CrewDiscovery : Prop :=
  ∀ (s : State) (p : BitVec 4) (w : Wire) (f : Frame) (x : Scan) (o : OwnScan), f = w.frame →
    (∀ (ch : BitVec 18) (e : Exec), s.executes ch e → slOp e.slate = 0x47 → e.waiting = false → s.ownerOf ch.toNat = 0 →
      (s.scanning = none → (∀ q, (s.port q).up = false) → ∃ t, exec (.crewScan ch) s = .next t ∧ t.crew.scanNum = s.crew.scanNum + 1 ∧
        (t.chan ch).exec = some { e with waiting := true } ∧ State.only [.crew, .host] s t ∧
        t.crew.own = some { num := s.crew.scanNum + 1, ch := some ch, lastIdent := s.now,
                            records := [s.scanRecord (fld s.crew.addr 0 8) 0], loading := false, due := [], swapped := 0 } ∧
        ∃ y, t.crew.scan = some y ∧ y.mine = true ∧ y.num = s.crew.scanNum + 1) ∧
      (s.scanning = some x → x.mine = false → ∃ t, exec (.crewScan ch) s = .next t ∧
        (x.ident < s.crewIdent → s.recorded ch e 1 0 2 t ∧ t.crew = s.crew) ∧
        (s.crewIdent ≤ x.ident → t.crew.scanNum = s.crew.scanNum + 1))) ∧
    (s.accepts 7 p w → s.crew.scan = some x → x.ident = BitVec.ofNat 128 (frameNat f 0 4) → x.num = fld f.tsf 0 16 →
      exec (.scanFrame p w) s = .next (((s.acked p f).upCrew (fun c => { c with
        scan := some { x with from_ := setBit x.from_ p.toNat true } })).returnCredit p f)) ∧
    (s.accepts 7 p w → s.crew.scan = none → ∃ t, exec (.scanFrame p w) s = .next t ∧
      t.crew.scan = some { ident := BitVec.ofNat 128 (frameNat f 0 4), num := fld f.tsf 0 16, mine := false, parent := p, hops := f.word 4,
                           from_ := setBit 0 p.toNat true, since := s.now }) ∧
    (s.accepts 8 p w → s.crew.own = some o → o.num = fld f.tsf 0 16 → o.loading = false →
      exec (.identFrame p w) s = .next (((s.acked p f).upCrew (fun c => { c with
        own := some { o with lastIdent := s.now, records := o.records ++ [BitVec.ofNat 512 (frameNat f 0 16)] } })).returnCredit p f)) ∧
    (∀ c : Instr, (c = .identFrame p w ∧ s.accepts 8 p w) ∨ (c = .mgtrFrame p w ∧ s.accepts 10 p w) → s.crew.own = none → s.crew.scan = some x →
      x.num = fld f.tsf 0 16 → x.mine = false → x.parent ≠ p →
      ((s.port x.parent).up = false → exec c s = .next (((s.acked p f).crewCount x.parent 3 1).returnCredit p f)) ∧
      ((s.port x.parent).up = true → ∃ t, exec c s = .next t ∧ State.only [.crew, .mesh, .out] s t ∧
        t.crew.transit = s.crew.transit ++ [{ src := p, dst := x.parent, tag := s.crew.tag, epoch := f.epoch, words := f.payload.length,
                                              slot := none, segs := [] }])) ∧
    (s.accepts 9 p w → s.crew.scan = some x → x.num = fld f.tsf 0 16 → x.mine = false → x.from_ = 0 →
      (BitVec.ofNat 128 (frameNat f 0 4) ≠ s.crewIdent → BitVec.ofNat 128 (frameNat f 0 4) ≠ BitVec.allOnes 128 →
        exec (.mgtFrame p w) s = .next ((s.acked p f).returnCredit p f)) ∧
      (BitVec.ofNat 128 (frameNat f 0 4) = BitVec.allOnes 128 → f.payload.length = 6 → f.word 5 = 0x01200000 →
        ∃ t, exec (.mgtFrame p w) s = .next t ∧
          t.crew.hxmap = (if s.crew.remote then f.word 4 &&& 0xCFCFCFCF else s.crew.hxmap))) ∧
    (∀ lo hi : BitVec 32, s.crew.remote = false → s.mgtRecord lo hi = (0xFF, s)) ∧
    (s.accepts 10 p w → s.crew.own = some o → o.num = fld f.tsf 0 16 → o.loading = false →
      exec (.mgtrFrame p w) s = .next (((s.acked p f).upCrew (fun c => { c with own := some { o with
        due := o.due.map (fun d => if d.1 = BitVec.ofNat 128 (frameNat f 0 4) then (d.1, d.2 - 1) else d) } })).returnCredit p f)) ∧
    (∀ (ch : BitVec 18) (e : Exec), s.executes ch e → slOp e.slate = 0x47 → e.waiting = true → s.crew.own = some o → o.ch = some ch →
      (s.now < o.lastIdent + 1000000 → exec .scanCollectEnd s = .next s) ∧
      (o.lastIdent + 1000000 ≤ s.now → slNum e.slate 24 4 = 0 → ∃ t, exec .scanCollectEnd s = .next t ∧ s.recorded ch e 0 0 0 t ∧
        ∀ u, t.crew.own = some u → u.ch = none))

/-! ## Double mode (chapter 11) -/

/-- Joining (R312, R313, Table 11-2): EN = 1 starts JOINING and lets port 15 train afresh; port 15 not up within 1 ms, or a HELLO that fails a
check, ends it with its code; a HELLO that passes fixes T_s; at T_s the member takes a Director reset and is PAIRED, in Endure (log entry 25);
EN = 0 dissolves a pair that is still joining. -/
def Obligations.PairJoining : Prop :=
  ∀ (s : State) (v : BitVec 32) (h : Hello) (x : PairLink), s.err.armed = none →
    (v.msb = true → v.getLsbD 29 = false → s.ready 6 = true → s.pair.st = .solo →
      ∃ t, exec (.pairJoin v) s = .next t ∧ t.pair.st = .joining ∧ t.pair.ctl = v &&& 0xDC000000 ∧ t.pair.since = s.now ∧
        (Tab.wf CrewPort.reset s.crew.ports = true → (t.port 15).up = false)) ∧
    (v.msb = true → s.pair.st = .paired ∨ s.pair.st = .joining → exec (.pairJoin v) s = .next s) ∧
    (s.pair.st = .joining → (s.port 15).up = false →
      (s.pair.since + 1000000 ≤ s.now →
        exec .pairJoinTimeout s = .next (s.upPair (fun p => { p with st := .solo, refuse := 1, ts := 0 }))) ∧
      (s.now < s.pair.since + 1000000 → exec .pairJoinTimeout s = .next s)) ∧
    (s.pair.st = .joining → s.pairAccepts x → x.num = s.pair.rxNum →
      (∀ c, s.helloCode h = some c → ∃ t, exec (.helloFrame h x) s = .next t ∧ t.pair.st = .solo ∧ t.pair.refuse = c ∧ t.pair.partner = h.ident ∧
        State.only [.pair, .crew, .out] s t) ∧
      (s.helloCode h = none → s.pair.ts = 0 → s.isLead = false →
        exec (.helloFrame h x) s = .next ((s.pairTaken x).upPair (fun p => { p with partner := h.ident, ts := h.ts }))) ∧
      (s.helloCode h = none → s.pair.ts = 0 → s.isLead = true → ∃ t, exec (.helloFrame h x) s = .next t ∧
        t.pair.ts = s.tbNow + 100000 + (s.freeVal 20).setWidth 64 ∧ State.only [.pair, .crew, .out, .free] s t)) ∧
    (s.othersOpen = true → h.mate ≠ s.pair.ctl.getLsbD 30 → s.helloCode h = some 3) ∧
    (s.pair.st = .joining → s.pair.ts ≠ 0 → s.pair.ts ≤ s.tbNow → ∃ t, exec .pairTsReached s = .next t ∧ t.pair.st = .paired ∧
      t.pair.cyc0 = t.dir.cyc ∧ t.pair.held = [] ∧ t.pair.ptime = s.pair.ts ∧ t.gaf.mode = 3 ∧ (s.isLead = false → t.pair.orders = []) ∧
      (s.isLead = true → t.pair.orders.map (·.input) = [.channel 0 (t.chan 0).context (t.chan 0).subReel (t.chan 0).compReel, .portWords t.portWords])) ∧
    (s.tbNow < s.pair.ts → exec .pairTsReached s = .next s) ∧
    (s.pair.st = .joining → v.msb = false → s.ready 6 = true → ∃ t, exec (.pairSplit v) s = .next t ∧
      t.pair.st = (if s.isLead then .solo else .safe) ∧ t.pair.cause = 9)

/-- Inputs of a pair (R314 to R316, R324): the lead orders pair time every 1 us with its delivery cycle and sends it to the mate; the mate queues an
order in time, diverges by LAG on a late one and by LINK when a PAIR frame before it is lost; and the oldest order is delivered once its
cycle has begun. -/
def Sys2Proof.Claim.PairOrders : Prop :=
  ∀ (s : State) (o : Ordered) (x : PairLink) (rest : List Ordered), s.pair.st = .paired →
    (s.isMate = true → s.pairAccepts x →
      (x.num = s.pair.rxNum → s.pairCycle ≤ o.cycle.toNat →
        exec (.orderFrame (some o) x) s = .next ((s.pairTaken x).upPair (fun p => { p with orders := p.orders ++ [o] }))) ∧
      (x.num = s.pair.rxNum → exec (.orderFrame none x) s = .next (s.pairTaken x)) ∧
      (x.num = s.pair.rxNum → o.cycle.toNat < s.pairCycle → s.pair.verdict = 0 → ∃ t, exec (.orderFrame (some o) x) s = .next t ∧
        t.pair.cause = 7 ∧ t.pair.orders = (if fld s.pair.ctl 28 2 = (1 : BitVec 2) then s.pair.orders else [])) ∧
      (x.num ≠ s.pair.rxNum → s.pair.verdict = 0 → ∃ t, exec (.orderFrame (some o) x) s = .next t ∧ t.pair.cause = 8 ∧
        t.pair.orders = s.pair.orders)) ∧
    (s.pair.orders = o :: rest → o.cycle.toNat ≤ s.pairCycle →
      (∀ n : BitVec 6, o.input = .eventLine n → s.isLead = true →
        exec .orderedInputDelivery s = .next ((s.upPair (fun p => { p with orders := rest })).raise n.toNat)) ∧
      (∀ x : BitVec 64, o.input = .pairTime x → exec .orderedInputDelivery s =
        .next (s.upPair (fun p => { p with orders := rest, ptime := x, pcyc := p.cyc0 + (o.cycle.toNat - p.lag) })))) ∧
    (s.pair.orders = o :: rest → s.pairCycle < o.cycle.toNat → exec .orderedInputDelivery s = .next s) ∧
    (s.isLead = true → s.pair.assigned = 0 ∨ s.pair.assigned - 1 + 1000 ≤ s.now →
      ∀ q : Ordered, q = { cycle := BitVec.ofNat 48 (s.pairCycle + s.pair.lag), input := .pairTime s.tbNow } →
      ∃ t, exec .pairTimeAssign s = .next t ∧ t.pair.orders = s.pair.orders ++ [q] ∧ t.pair.assigned = s.now + 1 ∧
        State.only [.pair, .crew, .out] s t ∧
        (s.pairIdle → t.out = s.out ++ [s.pairSent 1 (unitsOf (natBytes 6 q.cycle.toNat ++ [5, 8] ++ natBytes 8 s.tbNow.toNat))] ∧
          t.pair.seq = s.pair.seq + 1) ∧
        ((s.port 15).up = false → t.out = s.out))

/-- Paired inputs and compared outputs (R315, R317, Table 11-1): matching occurrences are ordered, a line whose number differs from the other
member's waits, one whose CRC differs diverges, one member's alone waits LINEWAIT and is then masked or diverges; a held output is released by its
partner's equal digest, and a different one, or none within CMPTMO, diverges. -/
def Sys2Proof.Claim.PairComparisons : Prop :=
  ∀ (s : State) (n : Notice) (y : Notice × Nat) (x : PairLink) (kind : BitVec 2) (num : BitVec 32) (dg : BitVec 64) (h : Held),
    s.pair.st = .paired → s.pair.verdict = 0 →
    (s.isLead = true → n.source ≠ 127 → s.pairAccepts x → x.num = s.pair.rxNum →
      ((∀ z ∈ s.pair.mine, z.1.source ≠ n.source) →
        exec (.noticeFrame n x) s = .next ((s.pairTaken x).upPair (fun p => { p with notices := p.notices ++ [(n, s.now)] }))) ∧
      (s.pair.mine = [y] → y.1.source = n.source → s.pair.notices = [] →
        (n.source.msb = true → ∃ t q, exec (.noticeFrame n x) s = .next t ∧ t.pair.mine = [] ∧ t.pair.notices = [] ∧
          t.pair.orders = s.pair.orders ++ [q] ∧ q.input = .eventLine (fld n.source 0 6) ∧ State.only [.pair, .crew, .out] s t) ∧
        (n.source.msb = false → y.1.number ≠ n.number → exec (.noticeFrame n x) s =
          .next ((s.pairTaken x).upPair (fun p => { p with notices := [(n, s.now)] }))) ∧
        (n.source.msb = false → y.1.number = n.number → y.1.crc ≠ n.crc → ∃ t, exec (.noticeFrame n x) s = .next t ∧ t.pair.cause = 5 ∧
          t.pair.divNum = n.number) ∧
        (∀ j : LineJob, n.source.msb = false → y.1.number = n.number → y.1.crc = n.crc → (s.slot n.source.toNat).jobs = [j] → j.line = n.number →
          Tab.wf Slot.reset s.ing.slots = true → ∃ t, exec (.noticeFrame n x) s = .next t ∧ t.pair.mine = [] ∧ t.pair.notices = [] ∧
            (t.slot n.source.toNat).jobs = [j] ∧ State.only [.pair, .crew, .out, .ing] s t ∧
            ∀ w, w = j.record (n.source.toNat % 4) (s.slot n.source.toNat).dropSince → t.pair.orders.map (·.input) =
              s.pair.orders.map (·.input) ++ [.lineRecord (fld n.source 0 6) w.1 w.2.1 w.2.2.1 w.2.2.2]))) ∧
    (s.isLead = true → s.pair.mine = [y] → y.1 = n → n.source.msb = false → s.pair.notices = [] →
      (s.now < y.2 + s.pair.linewait → exec (.linewaitExpiry n) s = .next s) ∧
      (y.2 + s.pair.linewait ≤ s.now → s.pair.ctl.getLsbD 27 = true → ∃ t q, exec (.linewaitExpiry n) s = .next t ∧ t.pair.mine = [] ∧
        t.pair.orders = s.pair.orders ++ [q] ∧ q.input = .maskedLine (fld n.source 0 6) n.number ∧ State.only [.pair, .crew, .out] s t) ∧
      (y.2 + s.pair.linewait ≤ s.now → s.pair.ctl.getLsbD 27 = false → ∃ t, exec (.linewaitExpiry n) s = .next t ∧ t.pair.cause = 5 ∧
        t.pair.divNum = n.number)) ∧
    (s.pair.held = [] → s.pairAccepts x → x.num = s.pair.rxNum →
      exec (.digestFrame kind num dg x) s = .next ((s.pairTaken x).upPair (fun p => { p with theirs := p.theirs ++ [(kind, num, dg)] }))) ∧
    (s.pair.held = [h] → h.kind = kind → h.num = num →
      (s.pairAccepts x → x.num = s.pair.rxNum →
        (h.digest = dg → exec (.digestFrame kind num dg x) s = .next (((s.pairTaken x).upPair (fun p => { p with held := [] })).releaseOut h.out)) ∧
        (h.digest ≠ dg → ∃ t, exec (.digestFrame kind num dg x) s = .next t ∧ t.pair.cause = mismatchCause kind ∧ t.pair.divNum = fld num 0 24 ∧
          t.pair.held = [] ∧ t.cue.inbox = s.cue.inbox)) ∧
      (s.now < h.since + s.pair.cmptmo → exec (.cmptmoExpiry kind num) s = .next s) ∧
      (h.since + s.pair.cmptmo ≤ s.now → ∃ t, exec (.cmptmoExpiry kind num) s = .next t ∧ t.pair.cause = 6 ∧ t.pair.divNum = fld num 0 24 ∧
        t.pair.held = []))

/-- Ordered inputs and compared outputs of a pair: the claims above together. -/
def Obligations.PairOrdersAndComparisons : Prop :=
  Claim.PairOrders ∧ Claim.PairComparisons

/-- The outcome of a divergence (R320 to R322): under FAILOVER the member whose partner reports SELF, and not it, survives as Solo; otherwise, and
5 us without a VERDICT, it enters the safe state; a LINK divergence waits 20 us of silence on PAIR_HB; SPLIT leaves the lead Solo and
the mate safe. -/
def Obligations.PairOutcomes : Prop :=
  ∀ (s : State) (cause : BitVec 4) (self : Bool) (v : BitVec 32) (x : PairLink), s.pair.st = .paired → s.err.armed = none →
    (s.pair.verdict ≠ 0 → s.pair.cause ≠ 8 → cause ≠ 9 → s.pairAccepts x → x.num = s.pair.rxNum →
      (fld s.pair.ctl 28 2 = (1 : BitVec 2) → s.pair.self = false → self = true →
        ∃ t, exec (.verdictFrame cause self x) s = .next t ∧ t.pair.st = .solo ∧ t.pair.held = []) ∧
      (¬(fld s.pair.ctl 28 2 = (1 : BitVec 2) ∧ s.pair.self = false ∧ self = true) →
        ∃ t, exec (.verdictFrame cause self x) s = .next t ∧ t.pair.st = .safe ∧ t.dir.run = .safe ∧ t.dir.hold = .none ∧ t.pair.held = [])) ∧
    (s.pair.verdict ≠ 0 → s.pair.cause ≠ 8 → s.pair.verdict + 5000 ≤ s.now + 1 →
      ∃ t, exec .verdictTimeout s = .next t ∧ t.pair.st = .safe ∧ t.dir.run = .safe) ∧
    (s.now + 1 < s.pair.verdict + 5000 → exec .verdictTimeout s = .next s) ∧
    (s.pair.verdict ≠ 0 → s.pair.cause = 8 → s.pair.hbIn + 20000 ≤ s.now + 1 → ∃ t, exec .heartbeatSilent s = .next t ∧
      t.pair.st = (if fld s.pair.ctl 28 2 = (1 : BitVec 2) then .solo else .safe)) ∧
    (s.now + 1 < s.pair.hbIn + 20000 → exec .heartbeatSilent s = .next s) ∧
    (s.pair.ctl.msb = true → exec (.pairHbToggle false) s = .next (s.upPair (fun p => { p with hbOut := !p.hbOut }))) ∧
    (s.pair.verdict ≠ 0 → s.pair.cause = 8 → ∃ t, exec (.pairHbToggle true) s = .next t ∧ t.pair.st = (if s.isLead then .solo else .safe)) ∧
    (v.msb = false → s.ready 6 = true → ∃ t, exec (.pairSplit v) s = .next t ∧ t.pair.st = (if s.isLead then .solo else .safe) ∧
      t.pair.cause = 9)

/-! ## The mesh and the staging banks (chapter 12) -/

/-- Requests at a staging bank (R340, R344 to R349): after the packets before it in its VC, a read returns the line under ROT, a write
reaches the lanes OFF to OFF + LEN - 1, an atomic writes its result over the old value that it returns, poisoned or not; a lane that port B
writes in the same bank cycle collides; the secure region, an off domain, a malformed packet and an address outside the bank are answered
by their status and change no bank. -/
def Sys2Proof.Claim.BankRequests : Prop :=
  ∀ (s : State) (k : Packet) (b l old : Nat) (c : Instr) (u : State) (x : BitVec 512 × State), s.ready 1 = true → k.dst < 36 →
    endpointAt k.dst k.dport = some (.bank b) → u = s.drainVc k.dst k.dport (packetVn k.type) → u.err.armed = none →
    (k.type = 0 ∧ c = .meshRd k) ∨ (k.type = 1 ∧ c = .meshWr k) ∨ (k.type = 2 ∧ c = .meshAdd k) ∨ (k.type = 3 ∧ c = .meshSwap k) ∨
      (k.type = 4 ∧ c = .meshPwr k) →
    (u.endOff (.bank b) = false → k.badShape = false → k.addr < 1048576 → l = k.addr / 64 →
      secureLine b l = false ∨ (k.src = 34 ∧ k.sport = 0) → Tab.get 0 u.banks.phase b ≠ 2 → x = u.bankLine b l →
      old = (x.1 >>> (8 * k.off)).toNat % 2 ^ (8 * k.len) →
      ((∀ w, w < 8 → Tab.get false u.banks.poison (131072 * b + 8 * l + w) = false) →
        (Tab.get PortUse.none u.banks.wrote (2 * b + 1)).time ≠ u.now ∨ (Tab.get PortUse.none u.banks.wrote (2 * b + 1)).line ≠ l →
        exec c s = .next (match k.type with
          | 0 => x.2.reply k.dst k.dport k 0 (k.payload x.1)
          | 1 => (u.lineWritten b l k.lanes k.onLanes).bare k.dst k.dport k 6 0
          | 2 => (x.2.lineWritten b l k.lanes (BitVec.ofNat 512 ((old + k.operand) % 2 ^ (8 * k.len) * 2 ^ (8 * k.off)))).reply
              k.dst k.dport k 0 (BitVec.ofNat 512 old)
          | 3 => (x.2.lineWritten b l k.lanes (BitVec.ofNat 512 (k.operand * 2 ^ (8 * k.off)))).reply
              k.dst k.dport k 0 (BitVec.ofNat 512 old)
          | _ => u.lineWritten b l k.lanes k.onLanes)) ∧
      (∀ w ws, (List.range 8).filter (fun w => Tab.get false u.banks.poison (131072 * b + 8 * l + w)) = w :: ws → k.type = 0 →
        exec c s = .next ((x.2.occurN (ws.length + 1) 15 0 (bankInfo b (8 * l + w)) false).reply k.dst k.dport k 4 (k.payload x.1))) ∧
      (∀ p, p = Tab.get PortUse.none u.banks.wrote (2 * b + 1) → p.time = u.now → p.line = l → p.lanes &&& k.lanes ≠ 0 →
        k.type = 1 ∨ k.type = 4 → ∃ t, exec c s = .next t ∧
          (u.freeVal 1 = 1 → t.banks.coll = Tab.upd 0 u.banks.coll b satInc ∧ t.err.sum = setBit u.err.sum 17 true) ∧
          (u.freeVal 1 ≠ 1 → t.banks.coll = u.banks.coll ∧ t.err = u.err))) ∧
    (u.endOff (.bank b) = true → exec c s = .next (match k.type with
      | 4 => u.upMesh (fun m => { m with epOff := Tab.upd 0 m.epOff (2 * k.dst + k.dport) satInc })
      | 1 => u.bare k.dst k.dport k 6 1
      | _ => u.bare k.dst k.dport k 5 1)) ∧
    (u.endOff (.bank b) = false → k.badShape = true ∨ 1048576 ≤ k.addr → exec c s = .next (u.turnAway k.dst k.dport k 3)) ∧
    (u.endOff (.bank b) = false → k.badShape = false → k.addr < 1048576 → secureLine b (k.addr / 64) = true → ¬(k.src = 34 ∧ k.sport = 0) →
      exec c s = .next (u.turnAway k.dst k.dport k 5))

/-- The other packets (R328, R332, R334, R343, Table 12-2): a response is accepted as it arrives and frees the response buffer of its
tag, or is dropped as malformed; PING is answered PONG, and a trace record goes to its place in the trace reel. -/
def Sys2Proof.Claim.MeshResponses : Prop :=
  ∀ (s : State) (k : Packet) (x : TraceRec) (e : Endpoint) (u : State), s.ready 1 = true → k.dst < 36 → endpointAt k.dst k.dport = some e →
    u = s.drainVc k.dst k.dport 0 →
    (k.type = 5 → k.badResponse = false → exec (.meshRdr k) s = .next ((s.upMesh (fun m =>
      { m with issued := Tab.set false m.issued (issueKey k.dst k.dport k.tag) false })).emit (.mesh (BitVec.ofNat 6 k.dst) (BitVec.ofNat 1 k.dport) k))) ∧
    (k.type = 6 → k.badResponse = false → exec (.meshWrr k) s = .next ((s.upMesh (fun m =>
      { m with issued := Tab.set false m.issued (issueKey k.dst k.dport k.tag) false })).emit (.mesh (BitVec.ofNat 6 k.dst) (BitVec.ofNat 1 k.dport) k))) ∧
    (k.type = 5 → k.badResponse = true → exec (.meshRdr k) s = .next (s.countMalf k.dst k.dport)) ∧
    (k.type = 6 → k.badResponse = true → exec (.meshWrr k) s = .next (s.countMalf k.dst k.dport)) ∧
    (k.type = 9 → exec (.meshPing k) s = .next (u.bare k.dst k.dport k 0xA 0)) ∧
    (k.type = 10 → exec (.meshPong k) s = .next (u.emit (.mesh (BitVec.ofNat 6 k.dst) (BitVec.ofNat 1 k.dport) k))) ∧
    (s.mesh.dlySize.msb = true → s.host.link = true → ∃ t, exec (.meshTrace x) s = .next t ∧
      t.out = s.out ++ [.hostWrite 0 (s.mesh.dlyBase + 32 * s.mesh.dlyWptr.setWidth 64) (traceBytes x)] ∧
      t.mesh.dlyWptr.toNat = (s.mesh.dlyWptr.toNat + 1) % 2 ^ ((fld s.mesh.dlySize 0 4 : BitVec 4).toNat + 7) % 4294967296 ∧
      State.only [.mesh, .out] s t) ∧
    (s.mesh.dlySize.msb = false → exec (.meshTrace x) s = .next (s.upMesh (fun m => { m with dlyLost := satInc m.dlyLost })))

/-- Mesh requests at the banks, and the other packets: the claims above together. -/
def Obligations.MeshRequests : Prop :=
  Claim.BankRequests ∧ Claim.MeshResponses

/-- A router's head packet (R329 to R333, R338, Table 12-4): granted by its output, it moves to the neighbour that its route names or into
the NI's input VC, a response to its requester; it waits while there is no credit or another head is granted, and is dropped and counted when
its hops run out, its route leads off the mesh or to no endpoint, or its epoch has no table; a stopped input forwards nothing.  A local port
first takes in what waits at its NI, and an endpoint issues a packet when its domain and its tag allow (R327, R334, R336, R340). -/
def Sys2Proof.Claim.PacketsMove : Prop :=
  (∀ (s : State) (r : BitVec 6) (port : BitVec 3) (vn : BitVec 2) (f : Flit) (fs : List Flit) (k : Packet) (u g : State), s.ready 1 = true →
    r.toNat < 36 → port.toNat < 6 → u = (if 4 ≤ port.toNat then s.injectNi r.toNat (port.toNat - 4) vn.toNat else s) → u.err.armed = none →
    u.mesh.dlyCtl = [] → u.mesh.vc r.toNat port.toNat vn.toNat = f :: fs → k = f.k.withHops (f.k.hops + 1) →
    (Tab.get false u.mesh.stopped (8 * r.toNat + port.toNat) = true → exec (.packetForward r port vn none) s = .next u) ∧
    (Tab.get false u.mesh.stopped (8 * r.toNat + port.toNat) = false → k.hops ≠ 16 →
      (∀ out, u.mesh.outOf r.toNat f = some out →
        (u.mesh.credit r.toNat out vn.toNat = false → exec (.packetForward r port vn none) s = .next (u.upMesh (fun m =>
          { m with vcs := Tab.set [] m.vcs (vcKey r.toNat port.toNat vn.toNat) ({ f with waited := true } :: fs) }))) ∧
        (u.mesh.credit r.toNat out vn.toNat = true → u.mesh.grants r.toNat out port.toNat vn.toNat = false →
          exec (.packetForward r port vn none) s = .next u) ∧
        (u.mesh.credit r.toNat out vn.toNat = true → u.mesh.grants r.toNat out port.toNat vn.toNat = true →
          g = (u.dropHead r.toNat port.toNat vn.toNat).upMesh (fun m =>
            { m with turn := Tab.set 0 m.turn (turnKey r.toNat out (vnClass vn.toNat)) ((vcPlace port.toNat vn.toNat + 1) % 12) }) →
          (∀ d n, u.mesh.hop r.toNat k = .link d → neighbour r.toNat d = some n → exec (.packetForward r port vn none) s =
            .next (g.upMesh (fun m => { m with
              vcs := Tab.upd [] m.vcs (vcKey n ((d + 2) % 4) vn.toNat) (· ++ [{ f with k := k, waited := false }]) }))) ∧
          (∀ e, u.mesh.hop r.toNat k = .eject → endpointAt r.toNat k.dport = some e →
            (k.type = 5 ∨ k.type = 6 → k.badResponse = false → f.bad = false → exec (.packetForward r port vn none) s = .next ((g.upMesh (fun m =>
              { m with issued := Tab.set false m.issued (issueKey r.toNat k.dport k.tag) false })).emit (.mesh r (BitVec.ofNat 1 k.dport) k))) ∧
            (6 < k.type ∨ (k.type < 5 ∧ g.niRefuses e r.toNat k.dport k f.bad = none) → exec (.packetForward r port vn none) s =
              .next (g.upMesh (fun m => { m with
                recv := Tab.upd [] m.recv (niKey r.toNat k.dport (packetVn k.type)) (· ++ [{ f with k := k }]) })))))) ∧
      (u.mesh.hop r.toNat k = .absent ∨ (u.mesh.hop r.toNat k = .eject ∧ endpointAt r.toNat k.dport = none) →
        exec (.packetForward r port vn none) s = .next ((u.dropHead r.toNat port.toNat vn.toNat).absentAt r.toNat k)) ∧
      (u.mesh.hop r.toNat k = .noTable → exec (.packetForward r port vn none) s =
        .next (((u.dropHead r.toNat port.toNat vn.toNat).upRouter r.toNat (fun x => { x with epoch := satInc x.epoch })).noTarget r.toNat k))) ∧
    (Tab.get false u.mesh.stopped (8 * r.toNat + port.toNat) = false → k.hops = 16 → Tab.wf Router.reset u.mesh.routers = true →
      ∃ t, exec (.packetForward r port vn none) s = .next t ∧
        (t.mesh.router r.toNat).expire = satInc (u.mesh.router r.toNat).expire ∧ t.err.sum = setBit u.err.sum 19 true)) ∧
  (∀ (s : State) (r : BitVec 6) (port : BitVec 3) (vn : BitVec 2) (k : Packet) (e : Endpoint) (l q : Nat), s.ready 1 = true → r.toNat < 36 →
    port.toNat = 4 + l → l < 2 → endpointAt r.toNat l = some e → k.type < 11 → q = packetVn k.type →
    (k.type < 4 → s.endOff e = true ∨ Tab.get false s.mesh.issued (issueKey r.toNat l k.tag) = true →
      exec (.packetForward r port vn (some k)) s = .next s) ∧
    (4 ≤ k.type ∨ (s.endOff e = false ∧ Tab.get false s.mesh.issued (issueKey r.toNat l k.tag) = false) → s.err.armed = none →
      s.mesh.dlyCtl = [] → Tab.get [] s.mesh.ni (niKey r.toNat l q) = [] → Tab.get [] s.mesh.bridge (niKey r.toNat l q) = [] →
      Tab.wf [] s.mesh.ni = true → Tab.wf [] s.mesh.bridge = true → Tab.wf [] s.mesh.vcs = true →
      (s.mesh.vc r.toNat (4 + l) q).length < vcDepth q → s.mesh.mayInject (2 * r.toNat + l) q = true → ∃ t,
        exec (.packetForward r port vn (some k)) s = .next t ∧
        t.mesh.vc r.toNat (4 + l) q = s.mesh.vc r.toNat (4 + l) q ++ [Flit.of (k.filled r.toNat l (s.mesh.router r.toNat).cur)] ∧
        t.mesh.issued = (if k.type < 4 then Tab.set false s.mesh.issued (issueKey r.toNat l k.tag) true else s.mesh.issued) ∧
        t.mesh.bucket = (s.mesh.charge (2 * r.toNat + l) q).bucket ∧ t.mesh.ni = s.mesh.ni ∧ t.mesh.bridge = s.mesh.bridge ∧
        State.only [.mesh] s t))

/-- Route epochs and regulators of the mesh (R336, R338, R339): a write loads the standby table, SWAP notes the packets of the current epoch,
their departure exchanges the tables, RELEASE of all 36 ends the old epoch, and EN = 1 fills a regulator's bucket. -/
def Sys2Proof.Claim.MeshEpochs : Prop :=
  ∀ (s : State) (r d : BitVec 6) (v : BitVec 32) (e : BitVec 7), s.ready 1 = true → r.toNat < 36 → d.toNat < 36 → s.err.armed = none →
    Tab.wf Router.reset s.mesh.routers = true →
    ((s.mesh.router r.toNat).pend = false → (s.mesh.router r.toNat).oldlive = false →
      (routeOk r.toNat d.toNat (fld v 0 3) = true → exec (.mrRtsWrite r d v) s =
        .next (s.upMesh (fun m => { m with routers := Tab.upd Router.reset m.routers r.toNat (fun y => { y with stby := true }),
                                           rts := Tab.set 0 m.rts (36 * r.toNat + d.toNat) (fld v 0 3) }))) ∧
      (routeOk r.toNat d.toNat (fld v 0 3) = false → ∃ t, exec (.mrRtsWrite r d v) s = .next t ∧ t.mesh.rts = s.mesh.rts ∧
        t.err.sum = setBit s.err.sum 11 true) ∧
      ((s.mesh.router r.toNat).stby = true → ∃ t, exec (.mrEpochSwap r) s = .next t ∧ State.only [.mesh] s t ∧
        t.mesh.router r.toNat = { s.mesh.router r.toNat with pend := true } ∧ t.mesh.rtc = s.mesh.rtc ∧ t.mesh.rts = s.mesh.rts)) ∧
    ((s.mesh.router r.toNat).pend = true ∨ (s.mesh.router r.toNat).oldlive = true → exec (.mrRtsWrite r d v) s = .next s ∧
      exec (.mrEpochSwap r) s = .next s) ∧
    ((s.mesh.router r.toNat).pend = true → s.mesh.noted = [] → ∃ t, exec (.mrSwapComplete r) s = .next t ∧ State.only [.mesh] s t ∧
      t.mesh.router r.toNat = { s.mesh.router r.toNat with cur := !(s.mesh.router r.toNat).cur, pend := false, stby := false, oldlive := true } ∧
      (Tab.wf 0 s.mesh.rts = true → Tab.wf 0 s.mesh.rtc = true →
        Tab.get 0 t.mesh.rtc (36 * r.toNat + d.toNat) = Tab.get 0 s.mesh.rts (36 * r.toNat + d.toNat) ∧
        Tab.get 0 t.mesh.rts (36 * r.toNat + d.toNat) = Tab.get 0 s.mesh.rtc (36 * r.toNat + d.toNat))) ∧
    ((s.mesh.router r.toNat).oldlive = true → exec (.mrEpochRelease r) s =
      .next (s.upRouter r.toNat (fun y => { y with released := true }))) ∧
    ((∀ n, n < 36 → (s.mesh.router n).oldlive = true ∧ (s.mesh.router n).released = true) → s.mesh.holdsOld = false →
      ∃ t, exec .mrOldliveClear s = .next t ∧ State.only [.mesh] s t ∧
        ∀ n, n < 36 → t.mesh.router n = { s.mesh.router n with oldlive := false, released := false }) ∧
    (∀ f fs key, s.mesh.vcs = [(key, f :: fs)] → f.k.epoch ≠ (s.mesh.router (key / 24)).cur → exec .mrOldliveClear s = .next s) ∧
    (∀ f fs n l vn, s.mesh.recv = [(niKey n l vn, f :: fs)] → n < 36 → l < 2 → vn < 8 → niDepth n l 0 = 16 → f.k.epoch ≠ (s.mesh.router n).cur →
      exec .mrOldliveClear s = .next s) ∧
    ((endpointAt (e.toNat / 2) (e.toNat % 2)).isSome = true → v.msb = true → 0 < (fld v 16 9 : BitVec 9).toNat →
      (fld v 16 9 : BitVec 9).toNat ≤ 256 → fld v 0 8 ≠ (0 : BitVec 8) → Tab.wf 0 s.mesh.bucket = true → ∃ t, exec (.mrRateEnable e v) s = .next t ∧
        Tab.get 0 t.mesh.bucket e.toNat = 256 * (fld v 0 8 : BitVec 8).toNat ∧
        t.mesh.rate = Tab.set 0x01000010 s.mesh.rate e.toNat (v &&& 0x81FF00FF) ∧ State.only [.mesh] s t)

/-- Packets through a router, route epochs, rate regulators: the claims above together. -/
def Obligations.MeshRoutersAndEpochs : Prop :=
  Claim.PacketsMove ∧ Claim.MeshEpochs

/-- The patrol (R351 to R356): a borrow takes the next segment that is neither pinned nor in a transfer, and copies it; its copy is tested;
a pass makes the former spare that segment, a mismatch retires the tested one as well; a pin ends a copy or abandons a test on its segment. -/
def Obligations.Patrol : Prop :=
  ∀ (s : State) (b : BitVec 4) (n : BitVec 3) (v : BitVec 32) (seg : Nat), s.err.armed = none → Tab.wf 0 s.banks.phase = true →
    (9 ≤ b.toNat ∨ s.dom (21 + b.toNat) = 2 → s.ready 7 = true → s.banks.ctl.msb = true → s.banks.noSpare b.toNat = false →
      s.nextSeg b.toNat (Tab.get 0 s.banks.seg b.toNat).toNat = some seg → Tab.get 0 s.banks.phase b.toNat = 0 →
      Tab.get 0 s.banks.borrowed b.toNat = 0 ∨
        Tab.get 0 s.banks.borrowed b.toNat - 1 + 1000 * (fld s.banks.ctl 0 10 : BitVec 10).toNat ≤ s.now →
      exec (.patrolBorrow b) s = .next (s.upBanks (fun k =>
        { k with phase := Tab.set 0 k.phase b.toNat 1, seg := Tab.set 0 k.seg b.toNat (BitVec.ofNat 8 seg),
                 spareDirty := Tab.set false k.spareDirty b.toNat false, borrowed := Tab.set 0 k.borrowed b.toNat (s.now + 1) }))) ∧
    (s.banks.ctl.msb = false ∨ s.banks.noSpare b.toNat = true ∨ s.nextSeg b.toNat (Tab.get 0 s.banks.seg b.toNat).toNat = none ∨
      Tab.get 0 s.banks.phase b.toNat ≠ 0 → exec (.patrolBorrow b) s = .next s) ∧
    (∀ j, seg < 256 → s.nextSeg b.toNat seg = some j → s.banks.pinned b.toNat j = false ∧ s.inTransfer b.toNat j = false ∧
      ∀ i, i < 256 → (seg + i) % 256 = j → ∀ h, h < i → s.banks.pinned b.toNat ((seg + h) % 256) = true ∨ s.inTransfer b.toNat ((seg + h) % 256) = true) ∧
    (Tab.get 0 s.banks.phase b.toNat = 1 → exec (.patrolCopyDone b) s =
      .next (s.upBanks (fun k => { k with phase := Tab.set 0 k.phase b.toNat 2 }))) ∧
    (Tab.get 0 s.banks.phase b.toNat = 2 → exec (.patrolTestDone b false) s =
      .next (s.upBanks (fun k => (k.switchMap b.toNat).endBorrow b.toNat))) ∧
    (Tab.get 0 s.banks.phase b.toNat = 2 → ∃ t, exec (.patrolTestDone b true) s = .next t ∧
      t.banks = { (s.banks.switchMap b.toNat).endBorrow b.toNat with
        retired := Tab.set false s.banks.retired (512 * b.toNat + s.banks.phys b.toNat (Tab.get 0 s.banks.seg b.toNat).toNat) true } ∧
      t.err.sum = setBit s.err.sum 18 true) ∧
    (s.ready 7 = true → v.msb = false ∨ Tab.get 0 s.banks.seg (fld v 8 4 : BitVec 4).toNat ≠ fld v 0 8 → exec (.sbPinWrite n v) s =
      .next (s.upBanks (fun k => { k with pin := Tab.set 0 k.pin n.toNat (v &&& 0x80000FFF) }))) ∧
    (s.ready 7 = true → v.msb = true → Tab.get 0 s.banks.seg (fld v 8 4 : BitVec 4).toNat = fld v 0 8 → ∃ t, exec (.sbPinWrite n v) s = .next t ∧
      (Tab.get 0 s.banks.phase (fld v 8 4 : BitVec 4).toNat = 1 ∨ Tab.get 0 s.banks.phase (fld v 8 4 : BitVec 4).toNat = 2 →
        Tab.get 0 t.banks.phase (fld v 8 4 : BitVec 4).toNat = 0) ∧
      (Tab.get 0 s.banks.phase (fld v 8 4 : BitVec 4).toNat = 1 → t.banks.spareDirty =
        Tab.set false s.banks.spareDirty (fld v 8 4 : BitVec 4).toNat true ∧ t.banks.map = s.banks.map) ∧
      (Tab.get 0 s.banks.phase (fld v 8 4 : BitVec 4).toNat = 2 → t.banks.abort =
        Tab.upd 0 s.banks.abort (fld v 8 4 : BitVec 4).toNat satInc))

/-! ## The Splice fabric (chapter 13) -/

/-- Configuration frames (R376 to R381, Tables 13-9 and 13-10): a frame that fails a check changes only CODE and WHERE, a writer without the session
is turned away, BEGIN holds and clears its blocks, each configuration frame writes what its type names, START puts safe states into effect and
releases the session's blocks, and ABORT clears them and ends it. -/
def Obligations.SpliceConfiguration : Prop :=
  ∀ (s : State) (byHost : Bool) (ws : List (BitVec 64)) (w : BitVec 64) (f : CfgFrame) (e : Sess) (c : Nat → Instr),
    c = (fun ty => match ty with
      | 1 => .cfgBegin byHost ws
      | 2 => .cfgBlock byHost ws
      | 3 => .cfgRoute byHost ws
      | 4 => .cfgIocell byHost ws
      | 5 => .cfgQueue byHost ws
      | 6 => .cfgHardout byHost ws
      | 7 => .cfgSafe byHost ws
      | 8 => .cfgStart byHost ws
      | _ => .cfgAbort byHost ws) →
    (s.ready 5 = true → s.spl.sess = some e → e.byHost ≠ byHost →
      exec (.splCfginWord byHost w) s = .next (s.upSpl (fun x => { x with code := 7 }))) ∧
    (s.ready 5 = true → s.spl.sess = none → cfgComplete (s.spl.partHost ++ [w]) = none →
      exec (.splCfginWord true w) s = .next (s.upSpl (fun x => { x with partHost := x.partHost ++ [w] }))) ∧
    (∀ (ty : Nat) (code : BitVec 8) (wh : Option (BitVec 16)), 1 ≤ ty → ty ≤ 9 → s.feeds ty byHost ws f → s.spl.judge f = some (code, wh) →
      exec (c ty) s = .next (s.upSpl (fun x => { x with code := code, where_ := wh.getD x.where_ }))) ∧
    (f.crc ≠ f.crcOf.setWidth 64 → s.spl.judge f = some (1, none)) ∧
    (s.feeds 1 byHost ws f → s.spl.judge f = none → s.spl.sess = none → ∃ t, exec (c 1) s = .next t ∧ State.only [.spl, .out] s t ∧
      t.spl.heldBlk = s.spl.heldBlk ||| f.word 0 ∧ t.spl.run = s.spl.run &&& ~~~ f.word 0 ∧ t.spl.ff = s.spl.ff &&& ~~~ blockFfs (f.word 0) ∧
      t.spl.mc = dropKeys s.spl.mc (fun k => (f.word 1).getLsbD 0 || (f.word 0).getLsbD (k / 16)) ∧
      t.spl.pt = dropKeys s.spl.pt (fun k => (f.word 1).getLsbD 0 || (f.word 0).getLsbD (k / 80)) ∧
      t.spl.insel = dropKeys s.spl.insel (fun k => (f.word 1).getLsbD 0 || (f.word 0).getLsbD (k / 48)) ∧
      t.spl.sess = some { byHost := byHost, num := f.session, next := 1, blocks := f.word 0, full := (f.word 1).getLsbD 0,
                          crcs := [fld f.crc 0 32], given := 0, safe := [] }) ∧
    (s.spl.sess = some e → s.spl.judge f = none →
      (s.feeds 2 byHost ws f → exec (c 2) s = .next (s.configured (fun x => { x with
        insel := (List.range 48).foldl (fun t j => Tab.set 0 t (48 * f.target + j) (f.insel j)) x.insel,
        pt := (List.range 80).foldl (fun t i => Tab.set 0 t (80 * f.target + i) (f.pterm i)) x.pt,
        mc := (List.range 16).foldl (fun t m => Tab.set 0 t (16 * f.target + m) (f.cellWord m)) x.mc,
        sess := some { e.advance f with given := setBit e.given f.target true } }))) ∧
      (s.feeds 3 byHost ws f → exec (c 3) s = .next (s.configured (fun x => { x with
        seg := f.pay.foldl (fun t w => Tab.set 0 t (routeSeg w).toNat (routeEn w)) x.seg, sess := some (e.advance f) }))) ∧
      (s.feeds 4 byHost ws f → exec (c 4) s = .next (s.configured (fun x => { x with
        io := (List.range 64).foldl (fun t p => Tab.set 0 t (64 * f.target + p) (f.word p)) x.io, sess := some (e.advance f) }))) ∧
      (s.feeds 5 byHost ws f → exec (c 5) s = .next (s.configured (fun x => { x with
        qcfg := Tab.set QCfg.reset x.qcfg f.target { mode := fld (f.word 0) 62 2, owner := fld (f.word 0) 56 6,
                                                     depthM1 := fld (f.word 0) 44 12, en := (f.word 0).getLsbD 43, named := true },
        sess := some (e.advance f) }))) ∧
      (s.feeds 6 byHost ws f → exec (c 6) s = .next (s.configured (fun x => { x with
        hard := f.pay.foldl (fun t w => Tab.set 0 t (houtNum w) (if w.getLsbD 37 then houtCell w + 1 else 0)) x.hard,
        sess := some (e.advance f) }))) ∧
      (s.feeds 7 byHost ws f → exec (c 7) s = .next (s.configured (fun x => { x with
        sess := some { e.advance f with
          safe := ((List.range 64).filter (fun p => e.full || !outside e.blocks (ioOwner (Tab.get 0 x.io (64 * f.target + p))))).foldl
            (fun t p => Tab.set 0 t (64 * f.target + p) ((f.safe p).toNat + 1)) e.safe } }))) ∧
      (s.feeds 8 byHost ws f → ∃ t, exec (c 8) s = .next t ∧ State.only [.spl, .keep, .out] s t ∧ t.spl.sess = none ∧
        t.spl.heldBlk = s.spl.heldBlk &&& ~~~ e.blocks ∧ t.spl.run = (s.spl.run &&& ~~~ e.blocks) ||| (e.given &&& e.blocks) ∧
        t.spl.safeMram = e.safe.foldl (fun t p => Tab.set 0 t p.1 (BitVec.ofNat 2 (p.2 - 1))) s.spl.safeMram ∧
        t.spl.qfill = dropKeys s.spl.qfill (s.spl.ownsQueue e.blocks e.full) ∧
        (s.spl.heldBlk &&& e.blocks = 0 → t.keep = s.keep) ∧
        t.spl.insel = s.spl.insel ∧ t.spl.seg = s.spl.seg) ∧
      (s.feeds 9 byHost ws f → exec (c 9) s = .next (s.configured (fun x => { x.clearBlocks e.blocks e.full with sess := none }))))

/-- Queues, Splice memories, captures and the configuration check (R371 to R374, R382, R383): a FIFO pushes, pops and counts overflow and
underflow, a RAM reads and writes its word, a DELAY answers the word of DEPTH pushes earlier, a held capture stays, and a mismatch of
the configuration memory is logged and changes nothing. -/
def Obligations.SpliceMemories : Prop :=
  ∀ (s : State) (q : BitVec 4) (v : BitVec 36) (a : BitVec 12) (b : BitVec 6) (n d h : Nat), n = Tab.get 0 s.spl.qfill q.toNat →
    d = (s.spl.queue q.toNat).depth → h = Tab.get 0 s.spl.qhead q.toNat →
    (s.qMode q 0 = true →
      (n < d → ∃ t, exec (.queuePush q v false) s = .next t ∧ State.only [.spl] s t ∧
        t.spl.qmem = Tab.set 0 s.spl.qmem (4096 * q.toNat + (h + n) % d) v ∧ t.spl.qfill = Tab.set 0 s.spl.qfill q.toNat (n + 1) ∧
        t.spl.qhead = s.spl.qhead ∧ t.spl.qovf = s.spl.qovf) ∧
      (d ≤ n → ∃ t, exec (.queuePush q v false) s = .next t ∧ State.only [.spl] s t ∧ t.spl.qmem = s.spl.qmem ∧ t.spl.qfill = s.spl.qfill ∧
        t.spl.qovf = Tab.upd 0 s.spl.qovf q.toNat satInc) ∧
      (n = 0 → exec (.queuePop q) s = .next (s.upSpl (fun x => { x with
        qunf := Tab.upd 0 x.qunf q.toNat satInc, qvalid := Tab.set false x.qvalid q.toNat false }))) ∧
      (0 < n → s.wordClean q.toNat h → exec (.queuePop q) s = .next (s.upSpl (fun x => { x with
        qrd := Tab.set 0 x.qrd q.toNat (Tab.get 0 x.qmem (4096 * q.toNat + h)), qvalid := Tab.set false x.qvalid q.toNat true,
        qhead := Tab.set 0 x.qhead q.toNat ((h + 1) % d), qfill := Tab.set 0 x.qfill q.toNat (n - 1) })))) ∧
    (s.qMode q 0 = true → 0 < n → n ≤ d → s.wordClean q.toNat h → Tab.wf 0 s.spl.qfill = true → Tab.wf 0 s.spl.qhead = true →
      ∃ t, exec (.queuePush q v true) s = .next t ∧ State.only [.spl] s t ∧ Tab.get 0 t.spl.qfill q.toNat = n ∧
        Tab.get 0 t.spl.qhead q.toNat = (h + 1) % d ∧ t.spl.qovf = s.spl.qovf ∧
        t.spl.qrd = Tab.set 0 s.spl.qrd q.toNat (Tab.get 0 s.spl.qmem (4096 * q.toNat + h)) ∧
        t.spl.qmem = Tab.set 0 s.spl.qmem (4096 * q.toNat + (h + n) % d) v) ∧
    (s.qMode q 1 = true →
      (s.wordClean q.toNat a.toNat → exec (.queueRamRead q a) s = .next (s.upSpl (fun x => { x with
        qrd := Tab.set 0 x.qrd q.toNat (Tab.get 0 x.qmem (4096 * q.toNat + a.toNat)), qvalid := Tab.set false x.qvalid q.toNat true }))) ∧
      exec (.queueRamWrite q a v) s = .next (s.upSpl (fun x => { x with
        qmem := Tab.set 0 x.qmem (4096 * q.toNat + a.toNat) v, qpoison := Tab.set false x.qpoison (4096 * q.toNat + a.toNat) false }))) ∧
    (∀ m, s.qMode q 2 = true → m = Tab.get 0 s.spl.qpush q.toNat → s.wordClean q.toNat (m % d) → ∃ t, exec (.queueDelayPush q v) s = .next t ∧
      State.only [.spl] s t ∧ t.spl.qmem = Tab.set 0 s.spl.qmem (4096 * q.toNat + m % d) v ∧ t.spl.qpush = Tab.set 0 s.spl.qpush q.toNat (m + 1) ∧
      t.spl.qrd = Tab.set 0 s.spl.qrd q.toNat (if m < d then 0 else Tab.get 0 s.spl.qmem (4096 * q.toNat + m % d))) ∧
    (s.qMode q 0 = false → exec (.queuePush q v false) s = .next s ∧ exec (.queuePop q) s = .next s) ∧
    (s.qMode q 1 = false → exec (.queueRamRead q a) s = .next s ∧ exec (.queueRamWrite q a v) s = .next s) ∧
    (s.qMode q 2 = false → exec (.queueDelayPush q v) s = .next s) ∧
    (s.spl.capDone = false → exec .spliceCapture s =
      .next (s.took.upSpl (fun x => { x with capFf := x.ff, capPin := s.freeVal 384, capDone := true }))) ∧
    (s.spl.capDone = true → exec .spliceCapture s = .next s) ∧
    (s.ready 5 = true → s.spl.capDone = true → exec (.splCapctlGo 1) s = .next s) ∧
    (s.ready 5 = true → s.spl.capDone = true → exec (.splCapctlGo 0x80000000) s = .next (s.upSpl (fun x => { x with capDone := false }))) ∧
    (s.ready 5 = true → s.spl.capDone = false → exec (.splCapctlGo 1) s =
      .next (s.took.upSpl (fun x => { x with capFf := x.ff, capPin := s.freeVal 384, capDone := true }))) ∧
    (s.err.armed = none → s.spl.heldBlk.getLsbD b.toNat = false → exec (.cramCheck b false) s = .next s ∧
      ∃ t, exec (.cramCheck b true) s = .next t ∧ t.spl = s.spl ∧ t.err.sum = setBit s.err.sum 29 true) ∧
    (s.spl.heldBlk.getLsbD b.toNat = true → exec (.cramCheck b true) s = .next s)

/-! ## The Keeper (chapter 14) -/

/-- Keeper commands (R391 to R394, R406, Tables 14-3 and 14-5): while tampered all fail TAMPERED; each ends with the code of its first failed
check and no effect, or with its effect and code 0. -/
def Sys2Proof.Claim.KeeperCommands : Prop :=
  ∀ (s : State) (tok : Token) (c : Instr) (d : Nat), s.ready 3 = true → s.pair.st = .solo → s.keep.busy = false →
    (s.keep.tampered = true → c = .kpTransition tok ∨ c = .kpMtoken tok ∨ c = .kpMtokenEnd ∨ c = .kpDomainRelease tok ∨ c = .kpIdentity →
      s.kpFails c 9) ∧
    (s.keep.tampered = false →
      (s.channelsLeft = true → s.kpFails (.kpTransition tok) 0x0A) ∧
      (s.channelsLeft = false → s.spl.sess.isSome = true ∨ s.keep.sess.any (fun e => e.2.isSome) = true → s.kpFails (.kpTransition tok) 0x0C) ∧
      (s.channelsLeft = false → s.spl.sess = none → s.keep.sess.any (fun e => e.2.isSome) = false →
        (s.keep.lc = .scrapped → s.kpFails (.kpTransition tok) 7) ∧
        (s.keep.lc ≠ .scrapped → tokenFits tok s.keep = false ∨ 5 < tok.kind.toNat → s.kpFails (.kpTransition tok) 8) ∧
        (s.keep.lc ≠ .scrapped → tokenFits tok s.keep = true → tok.kind.toNat ≤ 5 → nextLc tok.kind s.keep.lc = none →
          s.kpFails (.kpTransition tok) 7) ∧
        (∀ l, tokenFits tok s.keep = true → tok.kind.toNat ≤ 5 → nextLc tok.kind s.keep.lc = some l →
          (tok.sigOk = false → tok.kind ≠ 5 ∨ s.keep.lc = .deployed → s.kpFails (.kpTransition tok) 1) ∧
          (tok.sigOk = true ∨ (tok.kind = 5 ∧ s.keep.lc ≠ .deployed) → ∃ t, exec (.kpTransition tok) s = .next t ∧ t.keep.code = 0 ∧ t.keep.lc = l ∧
            t.keep.counter = tok.counter ∧ t.err.armed = none ∧ t.arr.mem = [] ∧ t.keep.keys = decide (l ≠ .scrapped) ∧
            t.keep.dk = [] ∧ t.keep.log = [] ∧ (tok.kind = 1 → t.keep.cert = tok.body) ∧
            (tok.kind = 3 → t.keep.domOwner = [] ∧ t.keep.floors = [] ∧ t.keep.ownerKey = none)))) ∧
      (tokenFits tok s.keep = false ∨ tok.kind ≠ 6 → s.kpFails (.kpMtoken tok) 8) ∧
      (tokenFits tok s.keep = true → tok.kind = 6 →
        (s.keep.lc ≠ .deployed → s.kpFails (.kpMtoken tok) 7) ∧
        (s.keep.lc = .deployed → tok.sigOk = false → s.kpFails (.kpMtoken tok) 1) ∧
        (s.keep.lc = .deployed → tok.sigOk = true → ∃ t, exec (.kpMtoken tok) s = .next t ∧ t.keep.code = 0 ∧ t.keep.counter = tok.counter ∧
          t.keep.mtoken = some (tok.rights, tok.counter, s.tbNow.toNat + 1000000000 * tok.validity.toNat))) ∧
      (∃ t, exec .kpMtokenEnd s = .next t ∧ t.keep.code = 0 ∧ t.keep.mtoken = none ∧ t.keep.lc = s.keep.lc) ∧
      (tokenFits tok s.keep = false ∨ tok.kind ≠ 7 → s.kpFails (.kpDomainRelease tok) 8) ∧
      (tokenFits tok s.keep = true → tok.kind = 7 → d = tok.domain.toNat →
        (s.host.chans.any (fun e => e.2.dom.toNat == d && decide (e.2.st ≠ .free)) = true → s.kpFails (.kpDomainRelease tok) 0x0A) ∧
        (s.host.chans.any (fun e => e.2.dom.toNat == d && decide (e.2.st ≠ .free)) = false →
          (tok.sigOk = false ∨ Tab.get none s.keep.domOwner d = none → s.kpFails (.kpDomainRelease tok) 1) ∧
          (tok.sigOk = true → (Tab.get none s.keep.domOwner d).isSome = true →
            ∃ t, exec (.kpDomainRelease tok) s = .next t ∧ t.keep.code = 0 ∧ t.keep.counter = tok.counter ∧
              t.keep.domOwner = Tab.set none s.keep.domOwner d none ∧ t.keep.dk = Tab.set 0 s.keep.dk d 0 ∧ State.only [.keep, .dir] s t))) ∧
      (s.host.link = true → s.keep.lc ≠ .scrapped → ∃ t, exec .kpIdentity s = .next t ∧ t.keep.code = 0 ∧ State.only [.keep, .dir, .out] s t ∧
        t.out = s.out ++ [.hostWrite 0 s.keep.kaddr (dikBytes ++ s.chain)]) ∧
      (s.host.link = true → s.keep.lc = .scrapped → ∃ t, exec .kpIdentity s = .next t ∧ t.keep.code = 0 ∧ State.only [.keep, .dir, .out, .free] s t))

/-- Keeper events (R19, R394, R396 to R398): a maintenance token ends when its validity has passed, a tamper source zeroes the key registers
and the secure region, sets TAMPERED and raises line 62, before KEEPER it waits for the check, one under VBAT alone is latched, and a lost
VBAT loses the latch. -/
def Sys2Proof.Claim.KeeperEvents : Prop :=
  ∀ (s : State) (src : BitVec 3) (r : BitVec 8) (n : BitVec 32) (e : Nat),
    (s.keep.mtoken = some (r, n, e) → (e ≤ s.tbNow.toNat → ∃ t, exec .mtokenExpiry s = .next t ∧ t.keep = { s.keep with mtoken := none }) ∧
      (s.tbNow.toNat < e → exec .mtokenExpiry s = .next s)) ∧
    (s.keep.mtoken = none → exec .mtokenExpiry s = .next s) ∧
    (src.toNat < 6 → s.ready 3 = true → ∃ t, exec (.tamper src) s = .next t ∧ t.keep.tampered = true ∧ t.keep.keys = false ∧
      t.keep.src = s.keep.src ||| setBit 0 src.toNat true ∧ t.keep.dk = [] ∧ t.keep.log = [] ∧ t.keep.sess = [] ∧ t.arr.mem = [] ∧
      t.err.sum.getLsbD 43 = true ∧
      (s.pair.st = .solo → s.dir.run ≠ .held → s.ready 12 = true → t.dir.evp.getLsbD 62 = true)) ∧
    (src.toNat < 6 → s.ready 3 = false → s.err.armed = none → exec (.tamper src) s =
      .next (s.upKeep (fun k => { k with active := setBit k.active src.toNat true }))) ∧
    (6 ≤ src.toNat → exec (.tamper src) s = .next s) ∧
    (src = 0 ∨ src = 4 ∨ src = 5 → ∃ t, exec (.vbatTamper src) s = .next t ∧ State.only [.keep, .banks] s t ∧ t.keep.dk = [] ∧ t.keep.log = [] ∧
      t.keep.keys = false ∧ t.keep.vbLatch = setBit s.keep.vbLatch src.toNat true ∧ t.keep.lc = s.keep.lc ∧
      (∀ e ∈ t.banks.mem, e.1 < 15728640 ∨ 16252928 ≤ e.1)) ∧
    (src ≠ 0 → src ≠ 4 → src ≠ 5 → exec (.vbatTamper src) s = .next s) ∧
    exec .vbatLost s = .next (s.upKeep (fun k => { k with vbGone := true, vbLatch := 0 }))

/-- Keeper commands, tokens and tamper: the claims above together. -/
def Obligations.Keeper : Prop :=
  Claim.KeeperCommands ∧ Claim.KeeperEvents

/-- SPDM and IDE (R400, R402, Table 14-2; the codes of the messages are the model's, log entry 29): negotiation goes in its order, a muted
state answers an error, at most four sessions open, and a stream's keys change only in an established session, one sub-stream and direction
at a time, the stream being secure while each has a key set in use. -/
def Obligations.SecureSessions : Prop :=
  ∀ (s : State) (sid : BitVec 2) (x : SpdmSess) (nonce : BitVec 256) (rs off len : BitVec 16) (st sub : BitVec 3)
    (ks : Bool) (c : Instr) (i : Nat), s.ready 3 = true →
    (s.keep.mute = true → exec .spdmGetVersion s = .next (s.spdmError 5 7) ∧ exec (.spdmHeartbeat sid) s = .next (s.spdmError 5 7)) ∧
    (s.keep.mute = false →
      exec .spdmGetVersion s = .next ((s.upKeep (fun k => { k with spdm := 1 })).emit (.spdm 0x04 [0x12])) ∧
      (s.keep.spdm = 0 → exec .spdmGetCapabilities s = .next (s.spdmError 4 0)) ∧
      (s.keep.spdm = 1 → exec .spdmGetCapabilities s = .next ((s.upKeep (fun k => { k with spdm := 2 })).emit (.spdm 0x61 [0x62F6]))) ∧
      (s.keep.spdm = 2 → exec (.spdmNegotiateAlgorithms true) s = .next ((s.upKeep (fun k => { k with spdm := 3 })).emit (.spdm 0x63 [1]))) ∧
      (s.keep.spdm.toNat < 3 → c = .spdmGetDigests ∨ c = .spdmGetCertificate 0 off len ∨ c = .spdmChallenge 0 nonce ∨
          c = .spdmGetMeasurements 0 false nonce ∨ c = .spdmKeyExchange 0 rs ∨ c = .spdmFinish sid true ∨ c = .spdmKeyUpdate sid ∨
          c = .spdmEndSession sid → exec c s = .next (s.spdmError 4 0)) ∧
      (s.keep.spdm = 3 →
        exec .spdmGetDigests s = .next (s.emit (.spdm 0x01 [1, s.chainDigest.setWidth 512])) ∧
        (off.toNat < s.chain.length → exec (.spdmGetCertificate 0 off len) s = .next (s.emit (.spdm 0x02
          ([BitVec.ofNat 512 (min len.toNat (s.chain.length - off.toNat)),
            BitVec.ofNat 512 (s.chain.length - off.toNat - min len.toNat (s.chain.length - off.toNat))] ++
              byteFields 49 ((s.chain.drop off.toNat).take len.toNat))))) ∧
        (∃ t f, exec (.spdmChallenge 0 nonce) s = .next t ∧ t.out = s.out ++ [.spdm 0x03 f] ∧ State.only [.out, .free] s t ∧
          f.head? = some (s.chainDigest.setWidth 512)) ∧
        exec (.spdmGetMeasurements 0 false nonce) s = .next (s.emit (.spdm 0x60 [10])) ∧
        (∀ n : BitVec 8, 1 ≤ n.toNat → n.toNat ≤ 10 →
          exec (.spdmGetMeasurements n false nonce) s = .next (s.emit (.spdm 0x60 [1, s.block n.toNat]))) ∧
        exec (.spdmGetMeasurements 255 false nonce) s =
          .next (s.emit (.spdm 0x60 ([10] ++ (List.range 10).map (fun j => s.block (j + 1))))) ∧
        (∃ t, exec (.spdmGetMeasurements 1 true nonce) s = .next t ∧ State.only [.out, .free] s t) ∧
        (s.keep.sess = [] → ∃ t, exec (.spdmKeyExchange 0 rs) s = .next t ∧ State.only [.keep, .out, .free] s t ∧
          t.keep.sess = [(0, some { reqId := rs, established := false, keyGen := 0 })]) ∧
        ((∀ i, i < 4 → (Tab.get none s.keep.sess i).isSome = true) → exec (.spdmKeyExchange 0 rs) s = .next (s.spdmError 0x0A 0)) ∧
        (s.keep.session sid = some x → x.established = false →
          exec (.spdmFinish sid true) s = .next ((s.setSession sid.toNat (some { x with established := true })).emit (.spdm 0x65 [])) ∧
          exec (.spdmFinish sid false) s = .next ((s.setSession sid.toNat none).spdmError 6 0) ∧
          exec (.spdmHeartbeat sid) s = .next (s.spdmError 4 0)) ∧
        (s.keep.session sid = some x → x.established = true →
          exec (.spdmHeartbeat sid) s = .next (s.emit (.spdm 0x68 [])) ∧
          exec (.spdmKeyUpdate sid) s = .next ((s.setSession sid.toNat (some { x with keyGen := x.keyGen + 1 })).emit (.spdm 0x69 [])) ∧
          exec (.spdmEndSession sid) s = .next ((s.setSession sid.toNat none).emit (.spdm 0x6C [])))) ∧
      (∀ op, exec (.ideKmRequest none op st sub ks) s = .next (s.ideSend op 4) ∧
        ((fld sub 0 2 : BitVec 2) = 3 ∨ s.keep.session sid = none ∨ (∃ y, s.keep.session sid = some y ∧ y.established = false) →
          exec (.ideKmRequest (some sid) op st sub ks) s = .next (s.ideSend op 4))) ∧
      (s.keep.session sid = some x → x.established = true → (fld sub 0 2 : BitVec 2) ≠ 3 → Tab.wf IdeStream.off s.keep.ide = true →
        i = sub.toNat + (if ks then 8 else 0) →
        exec (.ideKmRequest (some sid) .query st sub ks) s = .next (s.ideSend .query 0) ∧
        exec (.ideKmRequest (some sid) .keyProg st sub ks) s =
          .next ((s.upStream st (fun y => { y with keyed := setBit y.keyed i true })).ideSend .keyProg 0) ∧
        ((Tab.get IdeStream.off s.keep.ide st.toNat).keyed.getLsbD i = false →
          exec (.ideKmRequest (some sid) .kSetGo st sub ks) s = .next (s.ideSend .kSetGo 0)) ∧
        ((Tab.get IdeStream.off s.keep.ide st.toNat).keyed.getLsbD i = true → exec (.ideKmRequest (some sid) .kSetGo st sub ks) s =
          .next ((s.upStream st (fun y => { y with active := setBit y.active sub.toNat ks, live := setBit y.live sub.toNat true })).ideSend
            .kSetGo 0)) ∧
        (∃ t, exec (.ideKmRequest (some sid) .kSetStop st sub ks) s = .next t ∧ State.only [.keep, .out] s t ∧
          (Tab.get IdeStream.off t.keep.ide st.toNat).keyed = setBit (Tab.get IdeStream.off s.keep.ide st.toNat).keyed i false ∧
          ((Tab.get IdeStream.off s.keep.ide st.toNat).active.getLsbD sub.toNat = ks →
            (Tab.get IdeStream.off t.keep.ide st.toNat).live.getLsbD sub.toNat = false ∧
            (Tab.get IdeStream.off t.keep.ide st.toNat).secure = false))))

/-! ## The whole machine -/

/-- Reset (R435, R438, R467): the values that Tables 18-3 to 18-12 give at power-on for the registers named here, an empty queue, no
function ready, the Director held, the memories listing nothing. The values of log entry 35 are the model's choice and are not stated. -/
def Obligations.ResetState : Prop :=
  (∀ p ∈ [(0x0, 0), (0x8, 0x40000), (0x10, 0xFFFFFFFFFFFFFFFF), (0x18, 0), (0x20, 0), (0x100, 0), (0x118, 0), (0x128, 0), (0x200, 0),
      (0x208, 0), (0x218, 0), (0x10000, 0xC3), (0x10008, 0), (0x10010, 0), (0x10018, 0x8000), (0x10020, 0x6E), (0x10028, 0x3FFFFFFF),
      (0x10030, 0x0AAAAAAAAAAAAAAA), (0x10038, 0), (0x20000, 0), (0x20008, 0), (0x20020, 0), (0x20028, 0), (0x20100, 0x1C00),
      (0x20108, 0), (0x20110, 0), (0x20118, 0), (0x20120, 0), (0x30000, 0), (0x30008, 0)],
    State.reset.regValue 0 p.1 = some p.2) ∧
  (∀ p ∈ [(0x40000, 0), (0x40010, 0), (0x40018, 0), (0x40028, 0), (0x50000, 0), (0x50008, 0), (0x50010, 0), (0x60000, 0),
      (0x60008, 0x25801414), (0x60010, 0), (0xC0100, 0), (0xC0108, 0), (0xC0118, 0), (0xC0120, 0), (0xC0128, 0), (0x118200, 0),
      (0x118208, 0), (0x118210, 0), (0x118218, 0), (0x180000, 0x64), (0x190008, 0), (0x190010, 0), (0x190018, 0), (0x190020, 0),
      (0x190028, 0)],
    State.reset.regValue 0 p.1 = some p.2) ∧
  (∀ n : Nat, n < 20 → State.reset.regValue 0 (0x10100 + 8 * n) = some 0) ∧
  (∀ n : Nat, n < 48 → State.reset.regValue 0 (0x40100 + 8 * n) = some 0) ∧
  (∀ n ∈ [1, 3, 4, 5, 7, 9, 10, 13, 15, 16, 18, 21, 22, 23, 25, 26, 28, 29, 35, 40, 41, 43, 44, 45, 46],
    State.reset.regValue 0 (0x40300 + 8 * n) = some 3) ∧
  (∀ n ∈ [0, 2, 6, 8, 11, 12, 14, 17, 19, 20, 24, 27, 30, 31, 32, 33, 34, 36, 37, 38, 39, 42, 47],
    State.reset.regValue 0 (0x40300 + 8 * n) = some 1) ∧
  (∀ i : Nat, i < 32 → State.reset.regValue 0 (0x80000 + 0x20 * i) = some 0) ∧
  (∀ i : Nat, 32 ≤ i → i < 64 → State.reset.regValue 0 (0x80000 + 0x20 * i) = some 0x40000000) ∧
  (∀ i : Nat, 64 ≤ i → i < 80 → State.reset.regValue 0 (0x80000 + 0x20 * i) = some 0x80000000) ∧
  (∀ k j : Nat, k < 64 → j < 17 → State.reset.regValue 0 (0x90000 + 0x100 * k + 8 * j) = some 0) ∧
  (∀ p : Nat, p < 16 → State.reset.regValue 0 (0xC0000 + 8 * p) = some 0x80000000 ∧ State.reset.regValue 0 (0xC0080 + 8 * p) = some 0) ∧
  (∀ q : Nat, q < 16 → State.reset.regValue 0 (0x190100 + 0x20 * q) = some 0x20000000) ∧
  State.reset.pending = [] ∧ State.reset.rst.rdy = 0 ∧ State.reset.dir.run = .held ∧ Memory.wf State.reset = true ∧ State.reset.legalCodes

/-- Every command of the table answers a next state in every state, and none touches the queue of the commands that wait: no command ends a
run, whatever its operands. -/
def Obligations.EveryCommandAnswers : Prop :=
  ∀ (c : Instr) (s : State), ∃ t, exec c s = .next t ∧ t.pending = s.pending

/-- In every state a step keeps the encodings legal: GF_MODE's ENV and LIMIT never take 3 (Table 15-5), DEV_BOOTSTAT.CODE no code above 4
(Table 16-6), ERR_INJSTAT.CODE only 0x0 and 0x7, and ERR_INJ no reserved detector number (Table 17-4, R11). -/
def Obligations.StepKeepsLegalCodes : Prop :=
  ∀ (s t : State), s.legalCodes → step s = .next t → t.legalCodes

/-- In every state a step keeps every memory in its canonical form: array planes, data and program memory, the control store, staging
banks, MRAM and the Splice memories. -/
def Obligations.StepKeepsMemories : Prop :=
  ∀ (s t : State), Memory.wf s = true → step s = .next t → Memory.wf t = true
end

