-- ==== Sys2Proof/Laws/State.lean ====
section
/-!
SUPPORT. One lemma per block of the state per named update, true by rfl, so that no later proof unfolds a record update.
-/

namespace Sys2Proof.Machine

@[simp] theorem State.upArr_arr (f : Arr → Arr) (s : State) : (s.upArr f).arr = f s.arr := rfl
@[simp] theorem State.upArr_seq (f : Arr → Arr) (s : State) : (s.upArr f).seq = s.seq := rfl
@[simp] theorem State.upArr_dir (f : Arr → Arr) (s : State) : (s.upArr f).dir = s.dir := rfl
@[simp] theorem State.upArr_sys (f : Arr → Arr) (s : State) : (s.upArr f).sys = s.sys := rfl
@[simp] theorem State.upArr_ing (f : Arr → Arr) (s : State) : (s.upArr f).ing = s.ing := rfl
@[simp] theorem State.upArr_host (f : Arr → Arr) (s : State) : (s.upArr f).host = s.host := rfl
@[simp] theorem State.upArr_cue (f : Arr → Arr) (s : State) : (s.upArr f).cue = s.cue := rfl
@[simp] theorem State.upArr_crew (f : Arr → Arr) (s : State) : (s.upArr f).crew = s.crew := rfl
@[simp] theorem State.upArr_pair (f : Arr → Arr) (s : State) : (s.upArr f).pair = s.pair := rfl
@[simp] theorem State.upArr_mesh (f : Arr → Arr) (s : State) : (s.upArr f).mesh = s.mesh := rfl
@[simp] theorem State.upArr_banks (f : Arr → Arr) (s : State) : (s.upArr f).banks = s.banks := rfl
@[simp] theorem State.upArr_spl (f : Arr → Arr) (s : State) : (s.upArr f).spl = s.spl := rfl
@[simp] theorem State.upArr_keep (f : Arr → Arr) (s : State) : (s.upArr f).keep = s.keep := rfl
@[simp] theorem State.upArr_gaf (f : Arr → Arr) (s : State) : (s.upArr f).gaf = s.gaf := rfl
@[simp] theorem State.upArr_rst (f : Arr → Arr) (s : State) : (s.upArr f).rst = s.rst := rfl
@[simp] theorem State.upArr_err (f : Arr → Arr) (s : State) : (s.upArr f).err = s.err := rfl
@[simp] theorem State.upArr_now (f : Arr → Arr) (s : State) : (s.upArr f).now = s.now := rfl
@[simp] theorem State.upArr_out (f : Arr → Arr) (s : State) : (s.upArr f).out = s.out := rfl
@[simp] theorem State.upArr_free (f : Arr → Arr) (s : State) : (s.upArr f).free = s.free := rfl
@[simp] theorem State.upArr_pending (f : Arr → Arr) (s : State) : (s.upArr f).pending = s.pending := rfl

@[simp] theorem State.upSeq_arr (f : Seq → Seq) (s : State) : (s.upSeq f).arr = s.arr := rfl
@[simp] theorem State.upSeq_seq (f : Seq → Seq) (s : State) : (s.upSeq f).seq = f s.seq := rfl
@[simp] theorem State.upSeq_dir (f : Seq → Seq) (s : State) : (s.upSeq f).dir = s.dir := rfl
@[simp] theorem State.upSeq_sys (f : Seq → Seq) (s : State) : (s.upSeq f).sys = s.sys := rfl
@[simp] theorem State.upSeq_ing (f : Seq → Seq) (s : State) : (s.upSeq f).ing = s.ing := rfl
@[simp] theorem State.upSeq_host (f : Seq → Seq) (s : State) : (s.upSeq f).host = s.host := rfl
@[simp] theorem State.upSeq_cue (f : Seq → Seq) (s : State) : (s.upSeq f).cue = s.cue := rfl
@[simp] theorem State.upSeq_crew (f : Seq → Seq) (s : State) : (s.upSeq f).crew = s.crew := rfl
@[simp] theorem State.upSeq_pair (f : Seq → Seq) (s : State) : (s.upSeq f).pair = s.pair := rfl
@[simp] theorem State.upSeq_mesh (f : Seq → Seq) (s : State) : (s.upSeq f).mesh = s.mesh := rfl
@[simp] theorem State.upSeq_banks (f : Seq → Seq) (s : State) : (s.upSeq f).banks = s.banks := rfl
@[simp] theorem State.upSeq_spl (f : Seq → Seq) (s : State) : (s.upSeq f).spl = s.spl := rfl
@[simp] theorem State.upSeq_keep (f : Seq → Seq) (s : State) : (s.upSeq f).keep = s.keep := rfl
@[simp] theorem State.upSeq_gaf (f : Seq → Seq) (s : State) : (s.upSeq f).gaf = s.gaf := rfl
@[simp] theorem State.upSeq_rst (f : Seq → Seq) (s : State) : (s.upSeq f).rst = s.rst := rfl
@[simp] theorem State.upSeq_err (f : Seq → Seq) (s : State) : (s.upSeq f).err = s.err := rfl
@[simp] theorem State.upSeq_now (f : Seq → Seq) (s : State) : (s.upSeq f).now = s.now := rfl
@[simp] theorem State.upSeq_out (f : Seq → Seq) (s : State) : (s.upSeq f).out = s.out := rfl
@[simp] theorem State.upSeq_free (f : Seq → Seq) (s : State) : (s.upSeq f).free = s.free := rfl
@[simp] theorem State.upSeq_pending (f : Seq → Seq) (s : State) : (s.upSeq f).pending = s.pending := rfl

@[simp] theorem State.upDir_arr (f : Dir → Dir) (s : State) : (s.upDir f).arr = s.arr := rfl
@[simp] theorem State.upDir_seq (f : Dir → Dir) (s : State) : (s.upDir f).seq = s.seq := rfl
@[simp] theorem State.upDir_dir (f : Dir → Dir) (s : State) : (s.upDir f).dir = f s.dir := rfl
@[simp] theorem State.upDir_sys (f : Dir → Dir) (s : State) : (s.upDir f).sys = s.sys := rfl
@[simp] theorem State.upDir_ing (f : Dir → Dir) (s : State) : (s.upDir f).ing = s.ing := rfl
@[simp] theorem State.upDir_host (f : Dir → Dir) (s : State) : (s.upDir f).host = s.host := rfl
@[simp] theorem State.upDir_cue (f : Dir → Dir) (s : State) : (s.upDir f).cue = s.cue := rfl
@[simp] theorem State.upDir_crew (f : Dir → Dir) (s : State) : (s.upDir f).crew = s.crew := rfl
@[simp] theorem State.upDir_pair (f : Dir → Dir) (s : State) : (s.upDir f).pair = s.pair := rfl
@[simp] theorem State.upDir_mesh (f : Dir → Dir) (s : State) : (s.upDir f).mesh = s.mesh := rfl
@[simp] theorem State.upDir_banks (f : Dir → Dir) (s : State) : (s.upDir f).banks = s.banks := rfl
@[simp] theorem State.upDir_spl (f : Dir → Dir) (s : State) : (s.upDir f).spl = s.spl := rfl
@[simp] theorem State.upDir_keep (f : Dir → Dir) (s : State) : (s.upDir f).keep = s.keep := rfl
@[simp] theorem State.upDir_gaf (f : Dir → Dir) (s : State) : (s.upDir f).gaf = s.gaf := rfl
@[simp] theorem State.upDir_rst (f : Dir → Dir) (s : State) : (s.upDir f).rst = s.rst := rfl
@[simp] theorem State.upDir_err (f : Dir → Dir) (s : State) : (s.upDir f).err = s.err := rfl
@[simp] theorem State.upDir_now (f : Dir → Dir) (s : State) : (s.upDir f).now = s.now := rfl
@[simp] theorem State.upDir_out (f : Dir → Dir) (s : State) : (s.upDir f).out = s.out := rfl
@[simp] theorem State.upDir_free (f : Dir → Dir) (s : State) : (s.upDir f).free = s.free := rfl
@[simp] theorem State.upDir_pending (f : Dir → Dir) (s : State) : (s.upDir f).pending = s.pending := rfl

@[simp] theorem State.upSys_arr (f : Dsys → Dsys) (s : State) : (s.upSys f).arr = s.arr := rfl
@[simp] theorem State.upSys_seq (f : Dsys → Dsys) (s : State) : (s.upSys f).seq = s.seq := rfl
@[simp] theorem State.upSys_dir (f : Dsys → Dsys) (s : State) : (s.upSys f).dir = s.dir := rfl
@[simp] theorem State.upSys_sys (f : Dsys → Dsys) (s : State) : (s.upSys f).sys = f s.sys := rfl
@[simp] theorem State.upSys_ing (f : Dsys → Dsys) (s : State) : (s.upSys f).ing = s.ing := rfl
@[simp] theorem State.upSys_host (f : Dsys → Dsys) (s : State) : (s.upSys f).host = s.host := rfl
@[simp] theorem State.upSys_cue (f : Dsys → Dsys) (s : State) : (s.upSys f).cue = s.cue := rfl
@[simp] theorem State.upSys_crew (f : Dsys → Dsys) (s : State) : (s.upSys f).crew = s.crew := rfl
@[simp] theorem State.upSys_pair (f : Dsys → Dsys) (s : State) : (s.upSys f).pair = s.pair := rfl
@[simp] theorem State.upSys_mesh (f : Dsys → Dsys) (s : State) : (s.upSys f).mesh = s.mesh := rfl
@[simp] theorem State.upSys_banks (f : Dsys → Dsys) (s : State) : (s.upSys f).banks = s.banks := rfl
@[simp] theorem State.upSys_spl (f : Dsys → Dsys) (s : State) : (s.upSys f).spl = s.spl := rfl
@[simp] theorem State.upSys_keep (f : Dsys → Dsys) (s : State) : (s.upSys f).keep = s.keep := rfl
@[simp] theorem State.upSys_gaf (f : Dsys → Dsys) (s : State) : (s.upSys f).gaf = s.gaf := rfl
@[simp] theorem State.upSys_rst (f : Dsys → Dsys) (s : State) : (s.upSys f).rst = s.rst := rfl
@[simp] theorem State.upSys_err (f : Dsys → Dsys) (s : State) : (s.upSys f).err = s.err := rfl
@[simp] theorem State.upSys_now (f : Dsys → Dsys) (s : State) : (s.upSys f).now = s.now := rfl
@[simp] theorem State.upSys_out (f : Dsys → Dsys) (s : State) : (s.upSys f).out = s.out := rfl
@[simp] theorem State.upSys_free (f : Dsys → Dsys) (s : State) : (s.upSys f).free = s.free := rfl
@[simp] theorem State.upSys_pending (f : Dsys → Dsys) (s : State) : (s.upSys f).pending = s.pending := rfl

@[simp] theorem State.upIng_arr (f : Ing → Ing) (s : State) : (s.upIng f).arr = s.arr := rfl
@[simp] theorem State.upIng_seq (f : Ing → Ing) (s : State) : (s.upIng f).seq = s.seq := rfl
@[simp] theorem State.upIng_dir (f : Ing → Ing) (s : State) : (s.upIng f).dir = s.dir := rfl
@[simp] theorem State.upIng_sys (f : Ing → Ing) (s : State) : (s.upIng f).sys = s.sys := rfl
@[simp] theorem State.upIng_ing (f : Ing → Ing) (s : State) : (s.upIng f).ing = f s.ing := rfl
@[simp] theorem State.upIng_host (f : Ing → Ing) (s : State) : (s.upIng f).host = s.host := rfl
@[simp] theorem State.upIng_cue (f : Ing → Ing) (s : State) : (s.upIng f).cue = s.cue := rfl
@[simp] theorem State.upIng_crew (f : Ing → Ing) (s : State) : (s.upIng f).crew = s.crew := rfl
@[simp] theorem State.upIng_pair (f : Ing → Ing) (s : State) : (s.upIng f).pair = s.pair := rfl
@[simp] theorem State.upIng_mesh (f : Ing → Ing) (s : State) : (s.upIng f).mesh = s.mesh := rfl
@[simp] theorem State.upIng_banks (f : Ing → Ing) (s : State) : (s.upIng f).banks = s.banks := rfl
@[simp] theorem State.upIng_spl (f : Ing → Ing) (s : State) : (s.upIng f).spl = s.spl := rfl
@[simp] theorem State.upIng_keep (f : Ing → Ing) (s : State) : (s.upIng f).keep = s.keep := rfl
@[simp] theorem State.upIng_gaf (f : Ing → Ing) (s : State) : (s.upIng f).gaf = s.gaf := rfl
@[simp] theorem State.upIng_rst (f : Ing → Ing) (s : State) : (s.upIng f).rst = s.rst := rfl
@[simp] theorem State.upIng_err (f : Ing → Ing) (s : State) : (s.upIng f).err = s.err := rfl
@[simp] theorem State.upIng_now (f : Ing → Ing) (s : State) : (s.upIng f).now = s.now := rfl
@[simp] theorem State.upIng_out (f : Ing → Ing) (s : State) : (s.upIng f).out = s.out := rfl
@[simp] theorem State.upIng_free (f : Ing → Ing) (s : State) : (s.upIng f).free = s.free := rfl
@[simp] theorem State.upIng_pending (f : Ing → Ing) (s : State) : (s.upIng f).pending = s.pending := rfl

@[simp] theorem State.upHost_arr (f : HostIf → HostIf) (s : State) : (s.upHost f).arr = s.arr := rfl
@[simp] theorem State.upHost_seq (f : HostIf → HostIf) (s : State) : (s.upHost f).seq = s.seq := rfl
@[simp] theorem State.upHost_dir (f : HostIf → HostIf) (s : State) : (s.upHost f).dir = s.dir := rfl
@[simp] theorem State.upHost_sys (f : HostIf → HostIf) (s : State) : (s.upHost f).sys = s.sys := rfl
@[simp] theorem State.upHost_ing (f : HostIf → HostIf) (s : State) : (s.upHost f).ing = s.ing := rfl
@[simp] theorem State.upHost_host (f : HostIf → HostIf) (s : State) : (s.upHost f).host = f s.host := rfl
@[simp] theorem State.upHost_cue (f : HostIf → HostIf) (s : State) : (s.upHost f).cue = s.cue := rfl
@[simp] theorem State.upHost_crew (f : HostIf → HostIf) (s : State) : (s.upHost f).crew = s.crew := rfl
@[simp] theorem State.upHost_pair (f : HostIf → HostIf) (s : State) : (s.upHost f).pair = s.pair := rfl
@[simp] theorem State.upHost_mesh (f : HostIf → HostIf) (s : State) : (s.upHost f).mesh = s.mesh := rfl
@[simp] theorem State.upHost_banks (f : HostIf → HostIf) (s : State) : (s.upHost f).banks = s.banks := rfl
@[simp] theorem State.upHost_spl (f : HostIf → HostIf) (s : State) : (s.upHost f).spl = s.spl := rfl
@[simp] theorem State.upHost_keep (f : HostIf → HostIf) (s : State) : (s.upHost f).keep = s.keep := rfl
@[simp] theorem State.upHost_gaf (f : HostIf → HostIf) (s : State) : (s.upHost f).gaf = s.gaf := rfl
@[simp] theorem State.upHost_rst (f : HostIf → HostIf) (s : State) : (s.upHost f).rst = s.rst := rfl
@[simp] theorem State.upHost_err (f : HostIf → HostIf) (s : State) : (s.upHost f).err = s.err := rfl
@[simp] theorem State.upHost_now (f : HostIf → HostIf) (s : State) : (s.upHost f).now = s.now := rfl
@[simp] theorem State.upHost_out (f : HostIf → HostIf) (s : State) : (s.upHost f).out = s.out := rfl
@[simp] theorem State.upHost_free (f : HostIf → HostIf) (s : State) : (s.upHost f).free = s.free := rfl
@[simp] theorem State.upHost_pending (f : HostIf → HostIf) (s : State) : (s.upHost f).pending = s.pending := rfl

@[simp] theorem State.upCue_arr (f : Cue → Cue) (s : State) : (s.upCue f).arr = s.arr := rfl
@[simp] theorem State.upCue_seq (f : Cue → Cue) (s : State) : (s.upCue f).seq = s.seq := rfl
@[simp] theorem State.upCue_dir (f : Cue → Cue) (s : State) : (s.upCue f).dir = s.dir := rfl
@[simp] theorem State.upCue_sys (f : Cue → Cue) (s : State) : (s.upCue f).sys = s.sys := rfl
@[simp] theorem State.upCue_ing (f : Cue → Cue) (s : State) : (s.upCue f).ing = s.ing := rfl
@[simp] theorem State.upCue_host (f : Cue → Cue) (s : State) : (s.upCue f).host = s.host := rfl
@[simp] theorem State.upCue_cue (f : Cue → Cue) (s : State) : (s.upCue f).cue = f s.cue := rfl
@[simp] theorem State.upCue_crew (f : Cue → Cue) (s : State) : (s.upCue f).crew = s.crew := rfl
@[simp] theorem State.upCue_pair (f : Cue → Cue) (s : State) : (s.upCue f).pair = s.pair := rfl
@[simp] theorem State.upCue_mesh (f : Cue → Cue) (s : State) : (s.upCue f).mesh = s.mesh := rfl
@[simp] theorem State.upCue_banks (f : Cue → Cue) (s : State) : (s.upCue f).banks = s.banks := rfl
@[simp] theorem State.upCue_spl (f : Cue → Cue) (s : State) : (s.upCue f).spl = s.spl := rfl
@[simp] theorem State.upCue_keep (f : Cue → Cue) (s : State) : (s.upCue f).keep = s.keep := rfl
@[simp] theorem State.upCue_gaf (f : Cue → Cue) (s : State) : (s.upCue f).gaf = s.gaf := rfl
@[simp] theorem State.upCue_rst (f : Cue → Cue) (s : State) : (s.upCue f).rst = s.rst := rfl
@[simp] theorem State.upCue_err (f : Cue → Cue) (s : State) : (s.upCue f).err = s.err := rfl
@[simp] theorem State.upCue_now (f : Cue → Cue) (s : State) : (s.upCue f).now = s.now := rfl
@[simp] theorem State.upCue_out (f : Cue → Cue) (s : State) : (s.upCue f).out = s.out := rfl
@[simp] theorem State.upCue_free (f : Cue → Cue) (s : State) : (s.upCue f).free = s.free := rfl
@[simp] theorem State.upCue_pending (f : Cue → Cue) (s : State) : (s.upCue f).pending = s.pending := rfl

@[simp] theorem State.upCrew_arr (f : Crew → Crew) (s : State) : (s.upCrew f).arr = s.arr := rfl
@[simp] theorem State.upCrew_seq (f : Crew → Crew) (s : State) : (s.upCrew f).seq = s.seq := rfl
@[simp] theorem State.upCrew_dir (f : Crew → Crew) (s : State) : (s.upCrew f).dir = s.dir := rfl
@[simp] theorem State.upCrew_sys (f : Crew → Crew) (s : State) : (s.upCrew f).sys = s.sys := rfl
@[simp] theorem State.upCrew_ing (f : Crew → Crew) (s : State) : (s.upCrew f).ing = s.ing := rfl
@[simp] theorem State.upCrew_host (f : Crew → Crew) (s : State) : (s.upCrew f).host = s.host := rfl
@[simp] theorem State.upCrew_cue (f : Crew → Crew) (s : State) : (s.upCrew f).cue = s.cue := rfl
@[simp] theorem State.upCrew_crew (f : Crew → Crew) (s : State) : (s.upCrew f).crew = f s.crew := rfl
@[simp] theorem State.upCrew_pair (f : Crew → Crew) (s : State) : (s.upCrew f).pair = s.pair := rfl
@[simp] theorem State.upCrew_mesh (f : Crew → Crew) (s : State) : (s.upCrew f).mesh = s.mesh := rfl
@[simp] theorem State.upCrew_banks (f : Crew → Crew) (s : State) : (s.upCrew f).banks = s.banks := rfl
@[simp] theorem State.upCrew_spl (f : Crew → Crew) (s : State) : (s.upCrew f).spl = s.spl := rfl
@[simp] theorem State.upCrew_keep (f : Crew → Crew) (s : State) : (s.upCrew f).keep = s.keep := rfl
@[simp] theorem State.upCrew_gaf (f : Crew → Crew) (s : State) : (s.upCrew f).gaf = s.gaf := rfl
@[simp] theorem State.upCrew_rst (f : Crew → Crew) (s : State) : (s.upCrew f).rst = s.rst := rfl
@[simp] theorem State.upCrew_err (f : Crew → Crew) (s : State) : (s.upCrew f).err = s.err := rfl
@[simp] theorem State.upCrew_now (f : Crew → Crew) (s : State) : (s.upCrew f).now = s.now := rfl
@[simp] theorem State.upCrew_out (f : Crew → Crew) (s : State) : (s.upCrew f).out = s.out := rfl
@[simp] theorem State.upCrew_free (f : Crew → Crew) (s : State) : (s.upCrew f).free = s.free := rfl
@[simp] theorem State.upCrew_pending (f : Crew → Crew) (s : State) : (s.upCrew f).pending = s.pending := rfl

@[simp] theorem State.upPair_arr (f : Pair → Pair) (s : State) : (s.upPair f).arr = s.arr := rfl
@[simp] theorem State.upPair_seq (f : Pair → Pair) (s : State) : (s.upPair f).seq = s.seq := rfl
@[simp] theorem State.upPair_dir (f : Pair → Pair) (s : State) : (s.upPair f).dir = s.dir := rfl
@[simp] theorem State.upPair_sys (f : Pair → Pair) (s : State) : (s.upPair f).sys = s.sys := rfl
@[simp] theorem State.upPair_ing (f : Pair → Pair) (s : State) : (s.upPair f).ing = s.ing := rfl
@[simp] theorem State.upPair_host (f : Pair → Pair) (s : State) : (s.upPair f).host = s.host := rfl
@[simp] theorem State.upPair_cue (f : Pair → Pair) (s : State) : (s.upPair f).cue = s.cue := rfl
@[simp] theorem State.upPair_crew (f : Pair → Pair) (s : State) : (s.upPair f).crew = s.crew := rfl
@[simp] theorem State.upPair_pair (f : Pair → Pair) (s : State) : (s.upPair f).pair = f s.pair := rfl
@[simp] theorem State.upPair_mesh (f : Pair → Pair) (s : State) : (s.upPair f).mesh = s.mesh := rfl
@[simp] theorem State.upPair_banks (f : Pair → Pair) (s : State) : (s.upPair f).banks = s.banks := rfl
@[simp] theorem State.upPair_spl (f : Pair → Pair) (s : State) : (s.upPair f).spl = s.spl := rfl
@[simp] theorem State.upPair_keep (f : Pair → Pair) (s : State) : (s.upPair f).keep = s.keep := rfl
@[simp] theorem State.upPair_gaf (f : Pair → Pair) (s : State) : (s.upPair f).gaf = s.gaf := rfl
@[simp] theorem State.upPair_rst (f : Pair → Pair) (s : State) : (s.upPair f).rst = s.rst := rfl
@[simp] theorem State.upPair_err (f : Pair → Pair) (s : State) : (s.upPair f).err = s.err := rfl
@[simp] theorem State.upPair_now (f : Pair → Pair) (s : State) : (s.upPair f).now = s.now := rfl
@[simp] theorem State.upPair_out (f : Pair → Pair) (s : State) : (s.upPair f).out = s.out := rfl
@[simp] theorem State.upPair_free (f : Pair → Pair) (s : State) : (s.upPair f).free = s.free := rfl
@[simp] theorem State.upPair_pending (f : Pair → Pair) (s : State) : (s.upPair f).pending = s.pending := rfl

@[simp] theorem State.upMesh_arr (f : Mesh → Mesh) (s : State) : (s.upMesh f).arr = s.arr := rfl
@[simp] theorem State.upMesh_seq (f : Mesh → Mesh) (s : State) : (s.upMesh f).seq = s.seq := rfl
@[simp] theorem State.upMesh_dir (f : Mesh → Mesh) (s : State) : (s.upMesh f).dir = s.dir := rfl
@[simp] theorem State.upMesh_sys (f : Mesh → Mesh) (s : State) : (s.upMesh f).sys = s.sys := rfl
@[simp] theorem State.upMesh_ing (f : Mesh → Mesh) (s : State) : (s.upMesh f).ing = s.ing := rfl
@[simp] theorem State.upMesh_host (f : Mesh → Mesh) (s : State) : (s.upMesh f).host = s.host := rfl
@[simp] theorem State.upMesh_cue (f : Mesh → Mesh) (s : State) : (s.upMesh f).cue = s.cue := rfl
@[simp] theorem State.upMesh_crew (f : Mesh → Mesh) (s : State) : (s.upMesh f).crew = s.crew := rfl
@[simp] theorem State.upMesh_pair (f : Mesh → Mesh) (s : State) : (s.upMesh f).pair = s.pair := rfl
@[simp] theorem State.upMesh_mesh (f : Mesh → Mesh) (s : State) : (s.upMesh f).mesh = f s.mesh := rfl
@[simp] theorem State.upMesh_banks (f : Mesh → Mesh) (s : State) : (s.upMesh f).banks = s.banks := rfl
@[simp] theorem State.upMesh_spl (f : Mesh → Mesh) (s : State) : (s.upMesh f).spl = s.spl := rfl
@[simp] theorem State.upMesh_keep (f : Mesh → Mesh) (s : State) : (s.upMesh f).keep = s.keep := rfl
@[simp] theorem State.upMesh_gaf (f : Mesh → Mesh) (s : State) : (s.upMesh f).gaf = s.gaf := rfl
@[simp] theorem State.upMesh_rst (f : Mesh → Mesh) (s : State) : (s.upMesh f).rst = s.rst := rfl
@[simp] theorem State.upMesh_err (f : Mesh → Mesh) (s : State) : (s.upMesh f).err = s.err := rfl
@[simp] theorem State.upMesh_now (f : Mesh → Mesh) (s : State) : (s.upMesh f).now = s.now := rfl
@[simp] theorem State.upMesh_out (f : Mesh → Mesh) (s : State) : (s.upMesh f).out = s.out := rfl
@[simp] theorem State.upMesh_free (f : Mesh → Mesh) (s : State) : (s.upMesh f).free = s.free := rfl
@[simp] theorem State.upMesh_pending (f : Mesh → Mesh) (s : State) : (s.upMesh f).pending = s.pending := rfl

@[simp] theorem State.upBanks_arr (f : Banks → Banks) (s : State) : (s.upBanks f).arr = s.arr := rfl
@[simp] theorem State.upBanks_seq (f : Banks → Banks) (s : State) : (s.upBanks f).seq = s.seq := rfl
@[simp] theorem State.upBanks_dir (f : Banks → Banks) (s : State) : (s.upBanks f).dir = s.dir := rfl
@[simp] theorem State.upBanks_sys (f : Banks → Banks) (s : State) : (s.upBanks f).sys = s.sys := rfl
@[simp] theorem State.upBanks_ing (f : Banks → Banks) (s : State) : (s.upBanks f).ing = s.ing := rfl
@[simp] theorem State.upBanks_host (f : Banks → Banks) (s : State) : (s.upBanks f).host = s.host := rfl
@[simp] theorem State.upBanks_cue (f : Banks → Banks) (s : State) : (s.upBanks f).cue = s.cue := rfl
@[simp] theorem State.upBanks_crew (f : Banks → Banks) (s : State) : (s.upBanks f).crew = s.crew := rfl
@[simp] theorem State.upBanks_pair (f : Banks → Banks) (s : State) : (s.upBanks f).pair = s.pair := rfl
@[simp] theorem State.upBanks_mesh (f : Banks → Banks) (s : State) : (s.upBanks f).mesh = s.mesh := rfl
@[simp] theorem State.upBanks_banks (f : Banks → Banks) (s : State) : (s.upBanks f).banks = f s.banks := rfl
@[simp] theorem State.upBanks_spl (f : Banks → Banks) (s : State) : (s.upBanks f).spl = s.spl := rfl
@[simp] theorem State.upBanks_keep (f : Banks → Banks) (s : State) : (s.upBanks f).keep = s.keep := rfl
@[simp] theorem State.upBanks_gaf (f : Banks → Banks) (s : State) : (s.upBanks f).gaf = s.gaf := rfl
@[simp] theorem State.upBanks_rst (f : Banks → Banks) (s : State) : (s.upBanks f).rst = s.rst := rfl
@[simp] theorem State.upBanks_err (f : Banks → Banks) (s : State) : (s.upBanks f).err = s.err := rfl
@[simp] theorem State.upBanks_now (f : Banks → Banks) (s : State) : (s.upBanks f).now = s.now := rfl
@[simp] theorem State.upBanks_out (f : Banks → Banks) (s : State) : (s.upBanks f).out = s.out := rfl
@[simp] theorem State.upBanks_free (f : Banks → Banks) (s : State) : (s.upBanks f).free = s.free := rfl
@[simp] theorem State.upBanks_pending (f : Banks → Banks) (s : State) : (s.upBanks f).pending = s.pending := rfl

@[simp] theorem State.upSpl_arr (f : Splice → Splice) (s : State) : (s.upSpl f).arr = s.arr := rfl
@[simp] theorem State.upSpl_seq (f : Splice → Splice) (s : State) : (s.upSpl f).seq = s.seq := rfl
@[simp] theorem State.upSpl_dir (f : Splice → Splice) (s : State) : (s.upSpl f).dir = s.dir := rfl
@[simp] theorem State.upSpl_sys (f : Splice → Splice) (s : State) : (s.upSpl f).sys = s.sys := rfl
@[simp] theorem State.upSpl_ing (f : Splice → Splice) (s : State) : (s.upSpl f).ing = s.ing := rfl
@[simp] theorem State.upSpl_host (f : Splice → Splice) (s : State) : (s.upSpl f).host = s.host := rfl
@[simp] theorem State.upSpl_cue (f : Splice → Splice) (s : State) : (s.upSpl f).cue = s.cue := rfl
@[simp] theorem State.upSpl_crew (f : Splice → Splice) (s : State) : (s.upSpl f).crew = s.crew := rfl
@[simp] theorem State.upSpl_pair (f : Splice → Splice) (s : State) : (s.upSpl f).pair = s.pair := rfl
@[simp] theorem State.upSpl_mesh (f : Splice → Splice) (s : State) : (s.upSpl f).mesh = s.mesh := rfl
@[simp] theorem State.upSpl_banks (f : Splice → Splice) (s : State) : (s.upSpl f).banks = s.banks := rfl
@[simp] theorem State.upSpl_spl (f : Splice → Splice) (s : State) : (s.upSpl f).spl = f s.spl := rfl
@[simp] theorem State.upSpl_keep (f : Splice → Splice) (s : State) : (s.upSpl f).keep = s.keep := rfl
@[simp] theorem State.upSpl_gaf (f : Splice → Splice) (s : State) : (s.upSpl f).gaf = s.gaf := rfl
@[simp] theorem State.upSpl_rst (f : Splice → Splice) (s : State) : (s.upSpl f).rst = s.rst := rfl
@[simp] theorem State.upSpl_err (f : Splice → Splice) (s : State) : (s.upSpl f).err = s.err := rfl
@[simp] theorem State.upSpl_now (f : Splice → Splice) (s : State) : (s.upSpl f).now = s.now := rfl
@[simp] theorem State.upSpl_out (f : Splice → Splice) (s : State) : (s.upSpl f).out = s.out := rfl
@[simp] theorem State.upSpl_free (f : Splice → Splice) (s : State) : (s.upSpl f).free = s.free := rfl
@[simp] theorem State.upSpl_pending (f : Splice → Splice) (s : State) : (s.upSpl f).pending = s.pending := rfl

@[simp] theorem State.upKeep_arr (f : Keep → Keep) (s : State) : (s.upKeep f).arr = s.arr := rfl
@[simp] theorem State.upKeep_seq (f : Keep → Keep) (s : State) : (s.upKeep f).seq = s.seq := rfl
@[simp] theorem State.upKeep_dir (f : Keep → Keep) (s : State) : (s.upKeep f).dir = s.dir := rfl
@[simp] theorem State.upKeep_sys (f : Keep → Keep) (s : State) : (s.upKeep f).sys = s.sys := rfl
@[simp] theorem State.upKeep_ing (f : Keep → Keep) (s : State) : (s.upKeep f).ing = s.ing := rfl
@[simp] theorem State.upKeep_host (f : Keep → Keep) (s : State) : (s.upKeep f).host = s.host := rfl
@[simp] theorem State.upKeep_cue (f : Keep → Keep) (s : State) : (s.upKeep f).cue = s.cue := rfl
@[simp] theorem State.upKeep_crew (f : Keep → Keep) (s : State) : (s.upKeep f).crew = s.crew := rfl
@[simp] theorem State.upKeep_pair (f : Keep → Keep) (s : State) : (s.upKeep f).pair = s.pair := rfl
@[simp] theorem State.upKeep_mesh (f : Keep → Keep) (s : State) : (s.upKeep f).mesh = s.mesh := rfl
@[simp] theorem State.upKeep_banks (f : Keep → Keep) (s : State) : (s.upKeep f).banks = s.banks := rfl
@[simp] theorem State.upKeep_spl (f : Keep → Keep) (s : State) : (s.upKeep f).spl = s.spl := rfl
@[simp] theorem State.upKeep_keep (f : Keep → Keep) (s : State) : (s.upKeep f).keep = f s.keep := rfl
@[simp] theorem State.upKeep_gaf (f : Keep → Keep) (s : State) : (s.upKeep f).gaf = s.gaf := rfl
@[simp] theorem State.upKeep_rst (f : Keep → Keep) (s : State) : (s.upKeep f).rst = s.rst := rfl
@[simp] theorem State.upKeep_err (f : Keep → Keep) (s : State) : (s.upKeep f).err = s.err := rfl
@[simp] theorem State.upKeep_now (f : Keep → Keep) (s : State) : (s.upKeep f).now = s.now := rfl
@[simp] theorem State.upKeep_out (f : Keep → Keep) (s : State) : (s.upKeep f).out = s.out := rfl
@[simp] theorem State.upKeep_free (f : Keep → Keep) (s : State) : (s.upKeep f).free = s.free := rfl
@[simp] theorem State.upKeep_pending (f : Keep → Keep) (s : State) : (s.upKeep f).pending = s.pending := rfl

@[simp] theorem State.upGaf_arr (f : Gaf → Gaf) (s : State) : (s.upGaf f).arr = s.arr := rfl
@[simp] theorem State.upGaf_seq (f : Gaf → Gaf) (s : State) : (s.upGaf f).seq = s.seq := rfl
@[simp] theorem State.upGaf_dir (f : Gaf → Gaf) (s : State) : (s.upGaf f).dir = s.dir := rfl
@[simp] theorem State.upGaf_sys (f : Gaf → Gaf) (s : State) : (s.upGaf f).sys = s.sys := rfl
@[simp] theorem State.upGaf_ing (f : Gaf → Gaf) (s : State) : (s.upGaf f).ing = s.ing := rfl
@[simp] theorem State.upGaf_host (f : Gaf → Gaf) (s : State) : (s.upGaf f).host = s.host := rfl
@[simp] theorem State.upGaf_cue (f : Gaf → Gaf) (s : State) : (s.upGaf f).cue = s.cue := rfl
@[simp] theorem State.upGaf_crew (f : Gaf → Gaf) (s : State) : (s.upGaf f).crew = s.crew := rfl
@[simp] theorem State.upGaf_pair (f : Gaf → Gaf) (s : State) : (s.upGaf f).pair = s.pair := rfl
@[simp] theorem State.upGaf_mesh (f : Gaf → Gaf) (s : State) : (s.upGaf f).mesh = s.mesh := rfl
@[simp] theorem State.upGaf_banks (f : Gaf → Gaf) (s : State) : (s.upGaf f).banks = s.banks := rfl
@[simp] theorem State.upGaf_spl (f : Gaf → Gaf) (s : State) : (s.upGaf f).spl = s.spl := rfl
@[simp] theorem State.upGaf_keep (f : Gaf → Gaf) (s : State) : (s.upGaf f).keep = s.keep := rfl
@[simp] theorem State.upGaf_gaf (f : Gaf → Gaf) (s : State) : (s.upGaf f).gaf = f s.gaf := rfl
@[simp] theorem State.upGaf_rst (f : Gaf → Gaf) (s : State) : (s.upGaf f).rst = s.rst := rfl
@[simp] theorem State.upGaf_err (f : Gaf → Gaf) (s : State) : (s.upGaf f).err = s.err := rfl
@[simp] theorem State.upGaf_now (f : Gaf → Gaf) (s : State) : (s.upGaf f).now = s.now := rfl
@[simp] theorem State.upGaf_out (f : Gaf → Gaf) (s : State) : (s.upGaf f).out = s.out := rfl
@[simp] theorem State.upGaf_free (f : Gaf → Gaf) (s : State) : (s.upGaf f).free = s.free := rfl
@[simp] theorem State.upGaf_pending (f : Gaf → Gaf) (s : State) : (s.upGaf f).pending = s.pending := rfl

@[simp] theorem State.upRst_arr (f : Rst → Rst) (s : State) : (s.upRst f).arr = s.arr := rfl
@[simp] theorem State.upRst_seq (f : Rst → Rst) (s : State) : (s.upRst f).seq = s.seq := rfl
@[simp] theorem State.upRst_dir (f : Rst → Rst) (s : State) : (s.upRst f).dir = s.dir := rfl
@[simp] theorem State.upRst_sys (f : Rst → Rst) (s : State) : (s.upRst f).sys = s.sys := rfl
@[simp] theorem State.upRst_ing (f : Rst → Rst) (s : State) : (s.upRst f).ing = s.ing := rfl
@[simp] theorem State.upRst_host (f : Rst → Rst) (s : State) : (s.upRst f).host = s.host := rfl
@[simp] theorem State.upRst_cue (f : Rst → Rst) (s : State) : (s.upRst f).cue = s.cue := rfl
@[simp] theorem State.upRst_crew (f : Rst → Rst) (s : State) : (s.upRst f).crew = s.crew := rfl
@[simp] theorem State.upRst_pair (f : Rst → Rst) (s : State) : (s.upRst f).pair = s.pair := rfl
@[simp] theorem State.upRst_mesh (f : Rst → Rst) (s : State) : (s.upRst f).mesh = s.mesh := rfl
@[simp] theorem State.upRst_banks (f : Rst → Rst) (s : State) : (s.upRst f).banks = s.banks := rfl
@[simp] theorem State.upRst_spl (f : Rst → Rst) (s : State) : (s.upRst f).spl = s.spl := rfl
@[simp] theorem State.upRst_keep (f : Rst → Rst) (s : State) : (s.upRst f).keep = s.keep := rfl
@[simp] theorem State.upRst_gaf (f : Rst → Rst) (s : State) : (s.upRst f).gaf = s.gaf := rfl
@[simp] theorem State.upRst_rst (f : Rst → Rst) (s : State) : (s.upRst f).rst = f s.rst := rfl
@[simp] theorem State.upRst_err (f : Rst → Rst) (s : State) : (s.upRst f).err = s.err := rfl
@[simp] theorem State.upRst_now (f : Rst → Rst) (s : State) : (s.upRst f).now = s.now := rfl
@[simp] theorem State.upRst_out (f : Rst → Rst) (s : State) : (s.upRst f).out = s.out := rfl
@[simp] theorem State.upRst_free (f : Rst → Rst) (s : State) : (s.upRst f).free = s.free := rfl
@[simp] theorem State.upRst_pending (f : Rst → Rst) (s : State) : (s.upRst f).pending = s.pending := rfl

@[simp] theorem State.upErr_arr (f : Err → Err) (s : State) : (s.upErr f).arr = s.arr := rfl
@[simp] theorem State.upErr_seq (f : Err → Err) (s : State) : (s.upErr f).seq = s.seq := rfl
@[simp] theorem State.upErr_dir (f : Err → Err) (s : State) : (s.upErr f).dir = s.dir := rfl
@[simp] theorem State.upErr_sys (f : Err → Err) (s : State) : (s.upErr f).sys = s.sys := rfl
@[simp] theorem State.upErr_ing (f : Err → Err) (s : State) : (s.upErr f).ing = s.ing := rfl
@[simp] theorem State.upErr_host (f : Err → Err) (s : State) : (s.upErr f).host = s.host := rfl
@[simp] theorem State.upErr_cue (f : Err → Err) (s : State) : (s.upErr f).cue = s.cue := rfl
@[simp] theorem State.upErr_crew (f : Err → Err) (s : State) : (s.upErr f).crew = s.crew := rfl
@[simp] theorem State.upErr_pair (f : Err → Err) (s : State) : (s.upErr f).pair = s.pair := rfl
@[simp] theorem State.upErr_mesh (f : Err → Err) (s : State) : (s.upErr f).mesh = s.mesh := rfl
@[simp] theorem State.upErr_banks (f : Err → Err) (s : State) : (s.upErr f).banks = s.banks := rfl
@[simp] theorem State.upErr_spl (f : Err → Err) (s : State) : (s.upErr f).spl = s.spl := rfl
@[simp] theorem State.upErr_keep (f : Err → Err) (s : State) : (s.upErr f).keep = s.keep := rfl
@[simp] theorem State.upErr_gaf (f : Err → Err) (s : State) : (s.upErr f).gaf = s.gaf := rfl
@[simp] theorem State.upErr_rst (f : Err → Err) (s : State) : (s.upErr f).rst = s.rst := rfl
@[simp] theorem State.upErr_err (f : Err → Err) (s : State) : (s.upErr f).err = f s.err := rfl
@[simp] theorem State.upErr_now (f : Err → Err) (s : State) : (s.upErr f).now = s.now := rfl
@[simp] theorem State.upErr_out (f : Err → Err) (s : State) : (s.upErr f).out = s.out := rfl
@[simp] theorem State.upErr_free (f : Err → Err) (s : State) : (s.upErr f).free = s.free := rfl
@[simp] theorem State.upErr_pending (f : Err → Err) (s : State) : (s.upErr f).pending = s.pending := rfl

@[simp] theorem State.took_arr (s : State) : s.took.arr = s.arr := rfl
@[simp] theorem State.took_seq (s : State) : s.took.seq = s.seq := rfl
@[simp] theorem State.took_dir (s : State) : s.took.dir = s.dir := rfl
@[simp] theorem State.took_sys (s : State) : s.took.sys = s.sys := rfl
@[simp] theorem State.took_ing (s : State) : s.took.ing = s.ing := rfl
@[simp] theorem State.took_host (s : State) : s.took.host = s.host := rfl
@[simp] theorem State.took_cue (s : State) : s.took.cue = s.cue := rfl
@[simp] theorem State.took_crew (s : State) : s.took.crew = s.crew := rfl
@[simp] theorem State.took_pair (s : State) : s.took.pair = s.pair := rfl
@[simp] theorem State.took_mesh (s : State) : s.took.mesh = s.mesh := rfl
@[simp] theorem State.took_banks (s : State) : s.took.banks = s.banks := rfl
@[simp] theorem State.took_spl (s : State) : s.took.spl = s.spl := rfl
@[simp] theorem State.took_keep (s : State) : s.took.keep = s.keep := rfl
@[simp] theorem State.took_gaf (s : State) : s.took.gaf = s.gaf := rfl
@[simp] theorem State.took_rst (s : State) : s.took.rst = s.rst := rfl
@[simp] theorem State.took_err (s : State) : s.took.err = s.err := rfl
@[simp] theorem State.took_now (s : State) : s.took.now = s.now := rfl
@[simp] theorem State.took_out (s : State) : s.took.out = s.out := rfl
@[simp] theorem State.took_free (s : State) : s.took.free = s.free + 1 := rfl
@[simp] theorem State.took_pending (s : State) : s.took.pending = s.pending := rfl

@[simp] theorem State.emit_arr (o : Out) (s : State) : (s.emit o).arr = s.arr := rfl
@[simp] theorem State.emit_seq (o : Out) (s : State) : (s.emit o).seq = s.seq := rfl
@[simp] theorem State.emit_dir (o : Out) (s : State) : (s.emit o).dir = s.dir := rfl
@[simp] theorem State.emit_sys (o : Out) (s : State) : (s.emit o).sys = s.sys := rfl
@[simp] theorem State.emit_ing (o : Out) (s : State) : (s.emit o).ing = s.ing := rfl
@[simp] theorem State.emit_host (o : Out) (s : State) : (s.emit o).host = s.host := rfl
@[simp] theorem State.emit_cue (o : Out) (s : State) : (s.emit o).cue = s.cue := rfl
@[simp] theorem State.emit_crew (o : Out) (s : State) : (s.emit o).crew = s.crew := rfl
@[simp] theorem State.emit_pair (o : Out) (s : State) : (s.emit o).pair = s.pair := rfl
@[simp] theorem State.emit_mesh (o : Out) (s : State) : (s.emit o).mesh = s.mesh := rfl
@[simp] theorem State.emit_banks (o : Out) (s : State) : (s.emit o).banks = s.banks := rfl
@[simp] theorem State.emit_spl (o : Out) (s : State) : (s.emit o).spl = s.spl := rfl
@[simp] theorem State.emit_keep (o : Out) (s : State) : (s.emit o).keep = s.keep := rfl
@[simp] theorem State.emit_gaf (o : Out) (s : State) : (s.emit o).gaf = s.gaf := rfl
@[simp] theorem State.emit_rst (o : Out) (s : State) : (s.emit o).rst = s.rst := rfl
@[simp] theorem State.emit_err (o : Out) (s : State) : (s.emit o).err = s.err := rfl
@[simp] theorem State.emit_now (o : Out) (s : State) : (s.emit o).now = s.now := rfl
@[simp] theorem State.emit_out (o : Out) (s : State) : (s.emit o).out = s.out ++ [o] := rfl
@[simp] theorem State.emit_free (o : Out) (s : State) : (s.emit o).free = s.free := rfl
@[simp] theorem State.emit_pending (o : Out) (s : State) : (s.emit o).pending = s.pending := rfl

end Sys2Proof.Machine
end

