-- ==== Sys2Proof/Laws/Director.lean ====
section
/-!
SUPPORT. How the Director issues: the fetch of a clean word, the checks passed, and what the end of an instruction leaves.
-/

namespace Sys2Proof.Machine

/-- A word that is clean and that no injection waits for is fetched without effect. -/
theorem State.fetch_clean {s : State} (h : s.issues) : s.fetch = (s, true) := by
  obtain ⟨-, -, h3, h4, h5, -⟩ := h
  unfold State.fetch
  simp only [h4, h5, Bool.false_eq_true, if_false, h3]

theorem State.issues_issuing {s : State} (h : s.issues) : s.issuing = true := by
  simp [State.issuing, h.1, h.2.1]

/-- Outside Double mode, or with SIG = 0, no signature is kept. -/
theorem State.signRetired_off {s : State} (h : (s.paired && s.pair.ctl.getLsbD 26) = false) (pc : BitVec 18) :
    s.signRetired pc = s := by
  unfold State.signRetired
  cases hp : s.paired <;> cases hb : s.pair.ctl.getLsbD 26 <;> simp_all

/-- An instruction outside a repetition whose checks pass is performed. -/
theorem State.issue_performs {i : Info} {body : State → Res} {s : State} (h : s.issuesOnce) (hx : s.sys.ext = none ∨ i.ext = true)
    (hi : i.illegal = false) (hp : i.priv = false ∨ s.dir.priv = true)
    (hf : i.fp = false ∨ s.dir.priv = true ∨ ownedBy s.sys.fown s.sys.chid = true)
    (ha : i.ar = false ∨ s.dir.priv = true ∨ ownedBy s.sys.aown s.sys.chid = true) :
    s.issue i body = s.perform i.cycles body := by
  have e1 : (s.literal.isSome && !i.ext) = false := by
    rcases hx with hx | hx <;> simp [State.literal, hx, h.2]
  have e2 : (i.priv && !s.dir.priv) = false := by rcases hp with hp | hp <;> simp [hp]
  have e3 : (i.fp && !s.dir.priv && !ownedBy s.sys.fown s.sys.chid) = false := by rcases hf with hp | hp | hp <;> simp [hp]
  have e4 : (i.ar && !s.dir.priv && !ownedBy s.sys.aown s.sys.chid) = false := by rcases ha with hp | hp | hp <;> simp [hp]
  unfold State.issue
  rw [if_neg (by simp [State.issues_issuing h.1]), State.fetch_clean h.1]
  simp only [Bool.not_true, Bool.false_eq_true, if_false, h.2, Option.isSome_none, Bool.false_and, Option.map_none, hi, e1, e2, e3, e4,
    Bool.or_self, Bool.and_false, reduceCtorEq, decide_false]

/-- The end of an instruction outside a repetition. -/
theorem State.retire_once {s : State} (old : Option (BitVec 2 × Word)) (n : Nat) (next : BitVec 18) (hr : s.sys.rep = none)
    (hs : (s.paired && s.pair.ctl.getLsbD 26) = false) :
    s.retire old n next =
      { s with dir := { (match old with | some p => s.dir.setLoaded p | none => s.dir) with pc := next, cyc := s.dir.cyc + n },
               sys := { s.sys with ext := none } } := by
  have hc (p : BitVec 2 × Word) : (s.dir.setLoaded p).cyc = s.dir.cyc := by unfold Dir.setLoaded; split <;> (try split) <;> (try split) <;> rfl
  have hp (f : Dir → Dir) : (((s.upDir f).paired) && (s.upDir f).pair.ctl.getLsbD 26) = false := hs
  have hp2 (f g : Dir → Dir) : ((((s.upDir f).upDir g).paired) && ((s.upDir f).upDir g).pair.ctl.getLsbD 26) = false := hs
  unfold State.retire
  cases old with
  | none =>
    dsimp only
    rw [State.signRetired_off (hp _)]
    split
    · next r h => exact absurd (h.symm.trans hr) (by simp)
    · rfl
  | some p =>
    dsimp only
    rw [State.signRetired_off (hp2 _ _)]
    split
    · next r h => exact absurd (h.symm.trans hr) (by simp)
    · simp only [State.upDir, State.upSys, hc]

theorem State.literal_isSome {s : State} (hr : s.sys.rep = none) : s.literal.isSome = s.sys.ext.isSome := by
  unfold State.literal; cases s.sys.ext <;> simp [hr]

/-- An instruction that completes with an effect on the Director's registers d and nothing else. -/
theorem State.perform_done {n : Nat} {body : State → Res} {s : State} {d : Dir} (h : s.issuesOnce)
    (hb : body { s with sys := { s.sys with ld := none } } = .done { s with dir := d, sys := { s.sys with ld := none } })
    (hpc : d.pc = s.dir.pc) (hcyc : d.cyc = s.dir.cyc) : s.perform n body = s.completed d n := by
  unfold State.perform
  simp only [State.upSys, hb]
  rw [State.retire_once, State.literal_isSome h.2]
  · unfold State.completed State.endDir
    cases s.sys.ld <;> cases s.sys.ext <;> simp [hpc, hcyc, Nat.add_assoc]
  · exact h.2
  · exact h.1.2.2.2.2.2

/-- An instruction that transfers control. -/
theorem State.perform_jump {n : Nat} {body : State → Res} {s : State} {d : Dir} {next : BitVec 18} (h : s.issuesOnce)
    (hb : body { s with sys := { s.sys with ld := none } } = .jump { s with dir := d, sys := { s.sys with ld := none } } next)
    (hcyc : d.cyc = s.dir.cyc) : s.perform n body = s.jumped d n next := by
  unfold State.perform
  simp only [State.upSys, hb]
  rw [State.retire_once, State.literal_isSome h.2]
  · unfold State.jumped State.endDir
    cases s.sys.ld <;> cases s.sys.ext <;> simp [hcyc, Nat.add_comm, Nat.add_left_comm]
  · exact h.2
  · exact h.1.2.2.2.2.2

/-- A register instruction of group 0x5 or 0x7. -/
theorem State.alu_completes {s : State} {f : Dir → Dir} (h : s.issuesAlone) (hpc : (f s.dir).pc = s.dir.pc)
    (hcyc : (f s.dir).cyc = s.dir.cyc) : s.alu f = .next (s.completed (f s.dir) 1) := by
  unfold State.alu
  rw [State.issue_performs ⟨h.1, h.2.1⟩ (.inl h.2.2) rfl (.inl rfl) (.inl rfl) (.inl rfl),
    State.perform_done ⟨h.1, h.2.1⟩ (d := f s.dir) rfl hpc hcyc]
  rfl

/-- What an instruction leaves when its effect completes with the state t. -/
theorem State.perform_once {n : Nat} {body : State → Res} {s t : State} (h : s.issuesOnce)
    (hb : body { s with sys := { s.sys with ld := none } } = .done t) (hr : t.sys.rep = none)
    (hs : (t.paired && t.pair.ctl.getLsbD 26) = false) :
    s.perform n body = { t with
      dir := { (match s.sys.ld with | some p => t.dir.setLoaded p | none => t.dir) with
        pc := t.dir.pc + 1, cyc := t.dir.cyc + (n + (if s.sys.ext.isSome then 1 else 0)) },
      sys := { t.sys with ext := none } } := by
  unfold State.perform
  simp only [State.upSys, hb]
  rw [State.retire_once _ _ _ hr hs, State.literal_isSome h.2]

/-- A read that is allowed, correctable and not injected answers the word. -/
theorem State.load_readable {s : State} {a : BitVec 18} (h : s.readable a) : s.load a = .ok (s.word a) s := by
  obtain ⟨h1, h2, h3, h4⟩ := h
  unfold State.load
  simp only [h1, h2, h3, h4, Bool.not_true, Bool.false_eq_true, if_false]

/-- A write that a region grants writes the word. -/
theorem State.store_allowed {s : State} {a : BitVec 18} {v : Word} (h : s.mayAccess true a = true) :
    s.store a v = .ok v (s.putWord a v) := by
  unfold State.store
  simp only [h, Bool.not_true, Bool.false_eq_true, if_false]

/-- An instruction that holds leaves its state and the load slot. -/
theorem State.perform_hold {n : Nat} {body : State → Res} {s t : State} {k : Hold}
    (hb : body { s with sys := { s.sys with ld := none } } = .hold k t) :
    s.perform n body = { t with dir := { t.dir with hold := k }, sys := { t.sys with ld := s.sys.ld } } := by
  unfold State.perform
  simp only [State.upSys, hb]
  rfl

/-- A precise trap of an instruction outside a repetition and outside an EXT pair. -/
theorem State.perform_trap {n : Nat} {body : State → Res} {s t : State} {v : BitVec 8} {w : Word} (hr : t.sys.rep = none)
    (hx : t.sys.ext = none) (hb : body { s with sys := { s.sys with ld := none } } = .trap t v w) :
    s.perform n body = { t with sys := { t.sys with ld := s.sys.ld } }.enter (.trap v w) t.dir.pc none := by
  unfold State.perform
  simp only [State.upSys, hb]
  unfold State.trapHere State.instrPc
  simp only [hr, hx, Option.isSome_none, Bool.false_eq_true, if_false]

/-- Trap entry below window 14 with no injection of detector 10: what it sets (R175). -/
theorem State.enter_trap {s : State} {v : BitVec 8} {td : Word} {ret : BitVec 18} {rep : Option Rep} (hw : s.dir.cwp.toNat < 14)
    (hi : s.armedFor 10 (fun _ _ => true) = false) :
    s.enter (.trap v td) ret rep = { s with
      dir := { (saveSet (s.dir.cwp.toNat + 1) ret (srfWord (.trap v td) false s.sys rep) s.sys.normal s.sys rep s.dir) with
        cwp := s.dir.cwp + 1, priv := true, ie := false, pc := (s.sys.vbase ++ 0#10) + (v.setWidth 18 <<< 2), hold := .none,
        cyc := s.dir.cyc + 4 },
      sys := { s.sys with
        tcause := (0#8) ++ (0xFF : BitVec 8) ++ 0#1 ++ v.setWidth 7, tdata := td, ext := none, rep := none, ld := none,
        abarHeld := Tab.set 0 s.sys.abarHeld (s.dir.cwp.toNat + 1) s.dir.hold.abarSerial,
        repnHeld := Tab.set false s.sys.repnHeld (s.dir.cwp.toNat + 1) (match rep with | some r => r.noInt | none => false) } } := by
  have h15 : s.dir.cwp ≠ 15 := by intro h; rw [h] at hw; exact absurd hw (by decide)
  have h14 : s.dir.cwp ≠ 14 := by intro h; rw [h] at hw; exact absurd hw (by decide)
  unfold State.enter
  simp only [h15, h14, hi, if_false, Bool.and_false, Bool.false_eq_true, decide_false, Bool.false_and, Cause.vector, Cause.data]
  unfold State.upDir State.upSys saveSet
  cases rep <;> cases h : s.sys.ld <;> simp [Dir.setSaved]

end Sys2Proof.Machine
end

