-- ==== Sys2Proof/Laws/Tab.lean ====
section
/-!
SUPPORT. The laws of sparse tables: a read after a write, writes elsewhere, and that every operation keeps the canonical form.
-/

namespace Sys2Proof.Machine

variable {α : Type} [DecidableEq α] {d : α}

omit [DecidableEq α] in
@[simp] theorem Tab.get_nil (k : Nat) : Tab.get d [] k = d := rfl

theorem Tab.wfFrom_mono {b c : Nat} {t : Tab α} (h : Tab.wfFrom d c t = true) (hb : b ≤ c) : Tab.wfFrom d b t = true := by
  cases t with
  | nil => rfl
  | cons e t =>
    simp only [Tab.wfFrom, Bool.and_eq_true, decide_eq_true_eq] at h ⊢
    exact ⟨⟨by omega, h.1.2⟩, h.2⟩

/-- A key below every key of a table reads as the default. -/
theorem Tab.get_below {b k : Nat} {t : Tab α} (h : Tab.wfFrom d b t = true) (hk : k < b) : Tab.get d t k = d := by
  induction t generalizing b with
  | nil => rfl
  | cons e t ih =>
    simp only [Tab.wfFrom, Bool.and_eq_true, decide_eq_true_eq] at h
    have hne : e.1 ≠ k := by omega
    simp only [Tab.get, if_neg hne]
    exact ih h.2 (by omega)

/-- A read after a write to the same key. -/
theorem Tab.get_set_same {t : Tab α} (h : Tab.wf d t = true) (k : Nat) (v : α) : Tab.get d (Tab.set d t k v) k = v := by
  unfold Tab.wf at h
  generalize 0 = b at h
  induction t generalizing b with
  | nil => unfold Tab.set; split <;> simp_all [Tab.get]
  | cons e t ih =>
    obtain ⟨k', w⟩ := e
    simp only [Tab.wfFrom, Bool.and_eq_true, decide_eq_true_eq] at h
    unfold Tab.set
    split
    · split
      · subst_vars
        have hne : k' ≠ k := by omega
        simp only [Tab.get, if_neg hne]
        exact Tab.get_below h.2 (by omega)
      · simp [Tab.get]
    · split
      · split
        · subst_vars; exact Tab.get_below h.2 (by omega)
        · simp [Tab.get]
      · have hne : k' ≠ k := by omega
        simp only [Tab.get, if_neg hne]
        exact ih _ h.2

/-- A write leaves every other key alone. -/
theorem Tab.get_set_other (t : Tab α) {j k : Nat} (v : α) (hjk : j ≠ k) :
    Tab.get d (Tab.set d t k v) j = Tab.get d t j := by
  induction t with
  | nil => unfold Tab.set; split <;> simp [Tab.get, hjk.symm]
  | cons e t ih =>
    obtain ⟨k', w⟩ := e
    unfold Tab.set
    split
    · split <;> simp [Tab.get, hjk.symm]
    · split
      · split <;> (subst_vars; simp [Tab.get, hjk.symm])
      · simp only [Tab.get, ih]

theorem Tab.wfFrom_set {b : Nat} {t : Tab α} (h : Tab.wfFrom d b t = true) {k : Nat} (v : α) (hk : b ≤ k) :
    Tab.wfFrom d b (Tab.set d t k v) = true := by
  induction t generalizing b with
  | nil => unfold Tab.set; split <;> simp_all [Tab.wfFrom]
  | cons e t ih =>
    obtain ⟨k', w⟩ := e
    have h0 := h
    simp only [Tab.wfFrom, Bool.and_eq_true, decide_eq_true_eq] at h
    unfold Tab.set
    split
    · split
      · exact h0
      · simp only [Tab.wfFrom, Bool.and_eq_true, decide_eq_true_eq]
        exact ⟨⟨hk, ‹_›⟩, ⟨by omega, h.1.2⟩, h.2⟩
    · split
      · subst_vars
        split
        · exact Tab.wfFrom_mono h.2 (by omega)
        · simp only [Tab.wfFrom, Bool.and_eq_true, decide_eq_true_eq]
          exact ⟨⟨hk, ‹_›⟩, h.2⟩
      · simp only [Tab.wfFrom, Bool.and_eq_true, decide_eq_true_eq]
        exact ⟨h.1, ih h.2 (by omega)⟩

/-- A write keeps the canonical form. -/
theorem Tab.wf_set {t : Tab α} (h : Tab.wf d t = true) (k : Nat) (v : α) : Tab.wf d (Tab.set d t k v) = true :=
  Tab.wfFrom_set h v (Nat.zero_le k)

theorem Tab.wf_upd {t : Tab α} (h : Tab.wf d t = true) (k : Nat) (f : α → α) : Tab.wf d (Tab.upd d t k f) = true :=
  Tab.wf_set h k _

theorem Tab.wf_setList {t : Tab α} (h : Tab.wf d t = true) (k : Nat) (vs : List α) : Tab.wf d (Tab.setList d t k vs) = true := by
  induction vs generalizing t k with
  | nil => exact h
  | cons v vs ih => exact ih (Tab.wf_set h k v) (k + 1)

theorem Tab.wfFrom_filter {b : Nat} {t : Tab α} (h : Tab.wfFrom d b t = true) (p : Nat × α → Bool) :
    Tab.wfFrom d b (t.filter p) = true := by
  induction t generalizing b with
  | nil => rfl
  | cons e t ih =>
    obtain ⟨k', w⟩ := e
    simp only [Tab.wfFrom, Bool.and_eq_true, decide_eq_true_eq] at h
    simp only [List.filter]
    split
    · simp only [Tab.wfFrom, Bool.and_eq_true, decide_eq_true_eq]
      exact ⟨h.1, ih h.2⟩
    · exact Tab.wfFrom_mono (ih h.2) (by omega)

/-- Leaving entries out keeps the canonical form. -/
theorem Tab.wf_filter {t : Tab α} (h : Tab.wf d t = true) (p : Nat × α → Bool) : Tab.wf d (t.filter p) = true :=
  Tab.wfFrom_filter h p

theorem Tab.wf_foldl_set {β : Type} (l : List β) (key : β → Nat) (val : β → α) {t : Tab α} (h : Tab.wf d t = true) :
    Tab.wf d (l.foldl (fun t x => Tab.set d t (key x) (val x)) t) = true := by
  induction l generalizing t with
  | nil => exact h
  | cons x l ih => exact ih (Tab.wf_set h _ _)

theorem Tab.wf_ofFn (n : Nat) (f : Nat → α) : Tab.wf d (Tab.ofFn d n f) = true :=
  Tab.wf_foldl_set (List.range n) id f rfl

/-- Two canonical tables that read alike are equal data. -/
theorem Tab.ext_of_get {t u : Tab α} (ht : Tab.wf d t = true) (hu : Tab.wf d u = true)
    (h : ∀ k, Tab.get d t k = Tab.get d u k) : t = u := by
  unfold Tab.wf at ht hu
  generalize 0 = b at ht
  generalize 0 = c at hu
  induction t generalizing u b c with
  | nil =>
    cases u with
    | nil => rfl
    | cons e u =>
      simp only [Tab.wfFrom, Bool.and_eq_true, decide_eq_true_eq] at hu
      have := h e.1
      simp [Tab.get] at this
      exact absurd this.symm hu.1.2
  | cons e t ih =>
    obtain ⟨k, v⟩ := e
    simp only [Tab.wfFrom, Bool.and_eq_true, decide_eq_true_eq] at ht
    cases u with
    | nil =>
      have := h k
      simp [Tab.get] at this
      exact absurd this ht.1.2
    | cons e' u =>
      obtain ⟨k', v'⟩ := e'
      simp only [Tab.wfFrom, Bool.and_eq_true, decide_eq_true_eq] at hu
      have hkk : k = k' := by
        rcases Nat.lt_trichotomy k k' with hlt | heq | hlt
        · have h1 := h k
          have hne : k' ≠ k := by omega
          simp only [Tab.get, if_true, if_neg hne] at h1
          rw [Tab.get_below hu.2 (by omega)] at h1
          exact absurd h1 ht.1.2
        · exact heq
        · have h1 := h k'
          have hne : k ≠ k' := by omega
          simp only [Tab.get, if_true, if_neg hne] at h1
          rw [Tab.get_below ht.2 (by omega)] at h1
          exact absurd h1.symm hu.1.2
      subst hkk
      have hv : v = v' := by have := h k; simpa [Tab.get] using this
      subst hv
      congr 1
      refine ih (b := k + 1) (c := k + 1) ?_ ht.2 hu.2
      intro j
      by_cases hj : k = j
      · subst hj
        rw [Tab.get_below ht.2 (by omega), Tab.get_below hu.2 (by omega)]
      · have := h j
        simpa only [Tab.get, if_neg hj] using this

end Sys2Proof.Machine
end

