-- ==== Sys2Proof/WellFormed.lean ====
section
/-!
DEFINITION. Which commands are well formed: an operand that numbers a part of the device names one that exists, and an
operand that carries a frame or an image has the parts that its own header counts.  The meanings are total; this says
which commands the device can be sent.
-/

namespace Sys2Proof

/-- A frame on a crew link has a first cell (R278). -/
def Wire.wellFormed (w : Wire) : Bool := !w.cells.isEmpty

/-- The words of a configuration frame: two of header, LENGTH of payload, one of CRC (R376, Table 13-8). -/
def cfgWordsOk (ws : List (BitVec 64)) : Bool :=
  ws.length == 3 + ((ws.getD 1 0).extractLsb' 6 10).toNat

/-- An image has NWRAP wrap records, 1 to 255 (R403). -/
def Image.wellFormed (i : Image) : Bool := !i.wrappedFor.isEmpty && decide (i.wrappedFor.length < 256)

/-- Whether a command is well formed. -/
def Instr.wellFormed (c : Instr) : Bool :=
  match c with
  | .powerOnReset _ _ => true
  | .warmReset => true
  | .hostDeviceResetRequest _ _ => true
  | .smbusResetRequest _ _ => true
  | .functionLevelReset _ => true
  | .directorReset _ _ _ => true
  | .readyBitSet bit => decide (bit.toNat < 15)
  | .bootCopy _ _ => true
  | .bootRetry _ _ _ => true
  | .registerWrite _ _ _ _ => true
  | .powerSample _ _ => true
  | .junctionSensorSample temps => temps.length == 20
  | .voltageSettled => true
  | .vregFault => true
  | .setMode _ => true
  | .gfDomreqWrite _ => true
  | .domainGated b => decide (b.toNat < 30)
  | .domainOpened b => decide (b.toNat < 30)
  | .microword => true
  | .shadowWrite _ => true
  | .orResultReady => true
  | .tallyResultReady => true
  | .entryStart => true
  | .scriptEnd => true
  | .yieldEffect => true
  | .planeTransferEnd => true
  | .haloStripRead _ => true
  | .imageCommit => true
  | .imageBusyTimeout => true
  | .nop _ un => un.all unassignedWord
  | .halt _ => true
  | .wfe _ => true
  | .wfeWake => true
  | .sev _ => true
  | .wtu _ => true
  | .wtuComplete => true
  | .wtuCompareMatch _ => true
  | .trap _ => true
  | .interruptEntry => true
  | .reti _ => true
  | .rep _ => true
  | .repn _ => true
  | .ext _ _ => true
  | .mfs _ => true
  | .mts _ => true
  | .mfsTbl => true
  | .mtsWtuvh _ => true
  | .fsave => true
  | .asave => true
  | .fload => true
  | .aload => true
  | .afloadWrite => true
  | .dstateNormalWrite => true
  | .maintProductReady => true
  | .ldaDirect _ => true
  | .staDirect _ => true
  | .ldi _ => true
  | .ldaIndexed _ => true
  | .staIndexed _ => true
  | .ldx _ => true
  | .stx _ => true
  | .ldy _ => true
  | .sty _ => true
  | .addMem _ => true
  | .subMem _ => true
  | .andMem _ => true
  | .orMem _ => true
  | .xorMem _ => true
  | .mulMem _ => true
  | .muluMem _ => true
  | .ldg _ _ => true
  | .stg _ _ => true
  | .add _ => true
  | .adc _ => true
  | .sub _ => true
  | .sbc _ => true
  | .and _ => true
  | .or _ => true
  | .xor _ => true
  | .andn _ => true
  | .mul _ => true
  | .mulu _ => true
  | .mova _ => true
  | .movg _ => true
  | .movx _ => true
  | .getx _ => true
  | .movy _ => true
  | .gety _ => true
  | .shl _ => true
  | .shr _ => true
  | .sar _ => true
  | .rol _ => true
  | .xch _ => true
  | .addx _ => true
  | .addy _ => true
  | .neg => true
  | .not => true
  | .clz => true
  | .popc => true
  | .sext8 => true
  | .sext16 => true
  | .zext8 => true
  | .xferAToX => true
  | .xferXToA => true
  | .xferAToY => true
  | .xferYToA => true
  | .xferAToRc => true
  | .xferRcToA => true
  | .xferAToDp => true
  | .addi _ => true
  | .subi _ => true
  | .andi _ => true
  | .ori _ => true
  | .xori _ => true
  | .addxi _ => true
  | .addyi _ => true
  | .ldxi _ => true
  | .ceq _ _ => true
  | .cne _ _ => true
  | .clt _ _ => true
  | .cle _ _ => true
  | .cgt _ _ => true
  | .cge _ _ => true
  | .cltu _ _ => true
  | .cleu _ _ => true
  | .cgtu _ _ => true
  | .cgeu _ _ => true
  | .cbs _ _ => true
  | .cbc _ _ => true
  | .bnz _ _ => true
  | .bz _ _ => true
  | .bra _ => true
  | .call _ => true
  | .jmp _ _ => true
  | .callIndirect _ _ => true
  | .ret _ => true
  | .fadd _ _ => true
  | .fsub _ _ => true
  | .fmul _ _ => true
  | .fdiv _ _ => true
  | .ffma _ _ => true
  | .fsqrt _ _ => true
  | .fmov _ _ => true
  | .fneg _ _ => true
  | .fabs _ _ => true
  | .fceq _ _ => true
  | .fclt _ _ => true
  | .fcle _ _ => true
  | .fcun _ _ => true
  | .fin _ => true
  | .fout _ => true
  | .fcvti _ => true
  | .fcvtu _ => true
  | .ftoi _ => true
  | .ftou _ => true
  | .dadd _ _ => true
  | .dsub _ _ => true
  | .divu _ _ => true
  | .divs _ _ => true
  | .scriptCall _ => true
  | .callQueueResume => true
  | .abar _ => true
  | .abarRetire => true
  | .rdor _ _ => true
  | .rdorComplete => true
  | .rdtally _ _ => true
  | .rdtallyComplete => true
  | .mset _ => true
  | .mclr _ => true
  | .minv _ => true
  | .mload _ _ => true
  | .halo _ _ _ => true
  | .ard _ _ => true
  | .awr _ _ => true
  | .yield _ => true
  | .unpark _ => true
  | .unparkResume => true
  | .pload _ _ => true
  | .pstore _ _ => true
  | .spliceOpcode _ _ _ => true
  | .opcodeAnswer _ _ => true
  | .opcodeWithdrawal => true
  | .spliceNoanswer => true
  | .spliceEventOut _ => true
  | .cuetime _ _ => true
  | .cuepost _ _ => true
  | .cuepostResume => true
  | .cueEntry => true
  | .cueEdgeDue => true
  | .tbStepWrite _ => true
  | .tbSlewWrite _ => true
  | .slewComplete => true
  | .tbNowLowRead _ => true
  | .ptpEventMessage _ _ _ => true
  | .csi2LongPacket _ _ _ _ _ _ => true
  | .csi2FrameStart _ _ _ => true
  | .csi2FrameEnd _ _ _ => true
  | .dphyDeskewBurst _ => true
  | .dphyAlignmentLoss _ _ _ => true
  | .cxpImageHeader _ _ _ _ _ _ => true
  | .cxpStreamPacket _ _ _ _ _ => true
  | .cxpControlPacket _ _ _ => true
  | .cxpTriggerEdge _ => true
  | .cxpTriggerReceived _ => true
  | .gvspLeader _ _ _ _ _ _ _ _ _ => true
  | .gvspPayload _ _ _ _ _ _ _ _ => true
  | .gvspTrailer _ _ _ _ _ => true
  | .arpRequest _ _ _ _ => true
  | .sensorLink i => decide (i.toNat < 80)
  | .lineComplete _ => true
  | .clap _ _ _ _ => true
  | .admCqEnable _ => true
  | .slateFetch _ _ => true
  | .slateTimeout _ => true
  | .dmaReadCompletion _ _ _ _ => true
  | .dmaCompletionTimeout _ => true
  | .pcieLinkdown _ => true
  | .pcieLinkReturn => true
  | .eventRecordWrite => true
  | .slateNop _ => true
  | .start _ => true
  | .stop _ => true
  | .stopComplete _ => true
  | .msg _ => true
  | .msgAnswer _ => true
  | .put _ => true
  | .get _ => true
  | .mark _ => true
  | .createChannel _ => true
  | .destroyChannel _ => true
  | .drainEnd _ _ => true
  | .loadRecipe _ img => img.wellFormed
  | .unbind _ => true
  | .bindInput _ => true
  | .bindOutput _ => true
  | .crewScan _ => true
  | .scanCollectEnd => true
  | .attest _ => true
  | .loadPatch _ img => img.wellFormed
  | .reloadVerify _ => true
  | .logRead _ => true
  | .channelInfo _ => true
  | .setRange _ => true
  | .mgmtTx _ _ => true
  | .mgmtRx _ => true
  | .mgmtCtl _ => true
  | .crewLinkUp _ _ _ _ _ => true
  | .crewPortDown _ => true
  | .crewBypWrite _ => true
  | .bypassSettled => true
  | .crewMsgFrame _ w => w.wellFormed
  | .haloFrame _ w => w.wellFormed
  | .redUpFrame _ w => w.wellFormed
  | .redDnFrame _ w => w.wellFormed
  | .timeFrame _ w => w.wellFormed
  | .crewSevFrame _ w => w.wellFormed
  | .scanFrame _ w => w.wellFormed
  | .identFrame _ w => w.wellFormed
  | .mgtFrame _ w => w.wellFormed
  | .mgtrFrame _ w => w.wellFormed
  | .linkAck _ _ _ => true
  | .linkNak _ _ _ => true
  | .crewCreditReturn _ _ _ _ => true
  | .delayRequest _ _ => true
  | .delayResponse _ _ _ => true
  | .delayMeasure => true
  | .timeFrameSend => true
  | .replayTimeout _ => true
  | .sendSlotGo _ _ => true
  | .crewRtsWrite _ _ => true
  | .crewEpochSwap => true
  | .crewEpochRelease => true
  | .crewOldliveClear => true
  | .hxsend _ _ => true
  | .hxdone _ _ => true
  | .crarm _ _ => true
  | .crread _ _ => true
  | .crGrpWrite _ _ => true
  | .crewContribution _ => true
  | .crewRoundTimeout _ => true
  | .pairJoin _ => true
  | .helloFrame _ _ => true
  | .pairTsReached => true
  | .orderFrame _ _ => true
  | .orderedInputDelivery => true
  | .pairTimeAssign => true
  | .noticeFrame _ _ => true
  | .linewaitExpiry _ => true
  | .digestFrame _ _ _ _ => true
  | .cmptmoExpiry _ _ => true
  | .verdictFrame _ _ _ => true
  | .verdictTimeout => true
  | .heartbeatSilent => true
  | .pairHbToggle _ => true
  | .pairSplit _ => true
  | .meshRd _ => true
  | .meshWr _ => true
  | .meshAdd _ => true
  | .meshSwap _ => true
  | .meshPwr _ => true
  | .meshRdr _ => true
  | .meshWrr _ => true
  | .meshCfgw _ => true
  | .meshTrace _ => true
  | .meshPing _ => true
  | .meshPong _ => true
  | .packetForward r port _ _ => decide (r.toNat < 36) && decide (port.toNat < 6)
  | .mrRtsWrite r d _ => decide (r.toNat < 36) && decide (d.toNat < 36)
  | .mrEpochSwap r => decide (r.toNat < 36)
  | .mrSwapComplete r => decide (r.toNat < 36)
  | .mrEpochRelease r => decide (r.toNat < 36)
  | .mrOldliveClear => true
  | .mrRateEnable e _ => decide (e.toNat < 72)
  | .patrolBorrow _ => true
  | .patrolCopyDone _ => true
  | .patrolTestDone _ _ => true
  | .sbPinWrite _ _ => true
  | .splCfginWord _ _ => true
  | .cfgBegin _ ws => cfgWordsOk ws
  | .cfgBlock _ ws => cfgWordsOk ws
  | .cfgRoute _ ws => cfgWordsOk ws
  | .cfgIocell _ ws => cfgWordsOk ws
  | .cfgQueue _ ws => cfgWordsOk ws
  | .cfgHardout _ ws => cfgWordsOk ws
  | .cfgSafe _ ws => cfgWordsOk ws
  | .cfgStart _ ws => cfgWordsOk ws
  | .cfgAbort _ ws => cfgWordsOk ws
  | .cramCheck _ _ => true
  | .spliceCapture => true
  | .splCapctlGo _ => true
  | .queuePush _ _ _ => true
  | .queuePop _ => true
  | .queueRamRead _ _ => true
  | .queueRamWrite _ _ _ => true
  | .queueDelayPush _ _ => true
  | .kpTransition _ => true
  | .kpMtoken _ => true
  | .kpMtokenEnd => true
  | .mtokenExpiry => true
  | .kpDomainRelease _ => true
  | .kpIdentity => true
  | .tamper src => decide (src.toNat < 6)
  | .vbatTamper src => src == 0 || src == 4 || src == 5
  | .spdmGetVersion => true
  | .spdmGetCapabilities => true
  | .spdmNegotiateAlgorithms _ => true
  | .spdmGetDigests => true
  | .spdmGetCertificate _ _ _ => true
  | .spdmChallenge _ _ => true
  | .spdmGetMeasurements _ _ _ => true
  | .spdmKeyExchange _ _ => true
  | .spdmFinish _ _ => true
  | .spdmHeartbeat _ => true
  | .spdmKeyUpdate _ => true
  | .spdmEndSession _ => true
  | .ideKmRequest _ _ _ _ _ => true
  | .jtagExtest _ => true
  | .jtagIdcode => true
  | .jtagSamplePreload _ => true
  | .jtagIntest _ => true
  | .jtagBypass _ => true
  | .jtagDebug _ => true
  | .errInjArm _ => true
  | .errInjDisarm _ => true
  | .errorQueueFlush => true
  | .linkPll _ _ => true
  | .ethernetUnmatchedFrame _ _ _ => true
  | .sensorLinkUp i _ => decide (i.toNat < 80)
  | .linkPllLock _ _ => true
  | .crewSyncClear => true
  | .pairJoinTimeout => true
  | .vbatLost => true
  | .lineCopyComplete _ => true

end Sys2Proof
end

