-- ==== Sys2Proof/Tests/Slice0.lean ====
section
/-!
SUPPORT. The model's own tests: ill-formed operands that the checks refuse, worked examples of the spec, and for each statement with
hypotheses a state and operands that meet them, at the bounds of their ranges.
-/

open Sys2Proof Sys2Proof.Machine

namespace Sys2Proof.Tests

/-! ## States -/

/-- Every function ready, the Director running privileged code at PC 0. -/
def up : State := { State.reset with rst := { State.reset.rst with rdy := 0x7FFF }, dir := { Dir.reset with run := .running } }

/-- It with other Director registers. -/
def upd (f : Dir → Dir) : State := up.upDir f

/-- Unprivileged code in window 13, the last from which a trap enters a usable window. -/
def user : State := upd (fun d => { d with priv := false, cwp := 13 })

/-- The wait h. -/
def holding (h : Hold) : State := upd (fun d => { d with hold := h })

end Sys2Proof.Tests

open Sys2Proof.Tests

section Checks
set_option Elab.async false

/-! ## Witnesses: the Director -/

theorem witness_emptyQueueTicks : up.pending = [] ∧ up.ready 4 = true ∧ up.cue.slew = 0 := by decide

theorem witness_registers : up.issuesAlone ∧ (up.upSys (fun y => { y with normal := true })).issuesAlone ∧
    (up.upSys (fun y => { y with ext := some 0x3FFF })).issuesOnce := by
  unfold State.issuesAlone State.issuesOnce State.issues; decide

theorem witness_divideAndDecimal : (upd (fun d => { d with a := 0x800000 })).issuesAlone ∧
    (upd (fun d => { d with a := 0x800000, wreg := [(0, 0xFFFFFF)] })).issuesAlone ∧
    (upd (fun d => { d with a := 0x800000, wreg := [(0, 0xFFFFFF)] })).dir.g 0 = 0xFFFFFF ∧ up.dir.g 0 = 0 := by
  unfold State.issuesAlone State.issues; decide

/-- DADD and DSUB of Table 6-4 and the divide of Table 6-3. -/
theorem test_decimal_examples :
    bcdPack ((bcdVal 0x999998 + bcdVal 0x000003) % 1000000) = 0x000001 ∧ bcdPack ((bcdVal 0x000150 + 1000000 - bcdVal 0x000275) % 1000000) = 0x999875 ∧
    bcdPack ((bcdVal 0x12A456 + bcdVal 0x000001) % 1000000) = 0x129457 ∧ bcdPack (bcdVal 0x00000F) = 9 := by decide

theorem witness_directAccess : up.issuesOnce ∧ up.readable 0x3FF ∧ up.mayAccess true 0x3FF = true ∧ (0x3FF : BitVec 18) = up.dir.dp ++ 0x3FF#10 ∧
    (up.upSys (fun y => { y with ext := some 0x00FF })).issuesOnce ∧ (fld (0x00FF : BitVec 14) 8 6 : BitVec 6) = 0 ∧
    (up.upSys (fun y => { y with ext := some 0x00FF })).readable (fld (0x00FF : BitVec 14) 0 8 ++ 0x3FF#10) := by
  unfold State.issuesOnce State.issues State.readable; decide

theorem witness_indexed : up.issuesAlone ∧ amode 0 = some (false, .keep) ∧ amode 0xA = some (true, .decM) ∧ amode 0xB = some (false, .addY) ∧
    (upd (fun d => { d with x := 0xFFFFFF })).readable (fld (0xFFFFFF : Word) 0 18) := by
  unfold State.issuesAlone State.issues State.readable; decide

/-- R130: a buffer of 5 words at 8; the walk of 8 words in reversed-bit order. -/
theorem test_modulo_index : modIndex .incM 12 5 0 = 8 ∧ modIndex .decM 8 5 0 = 12 ∧ modIndex .incM 14 5 0 = 8 ∧ modIndex .revM 8 8 0 = 12 ∧
    modIndex .revM 15 8 0 = 8 := by decide

theorem witness_indexModification : (5 : Nat) ≤ 2 ^ 3 ∧ (∀ j, j < 3 → 2 ^ j < 5) ∧ (7 : Nat) < 2 ^ 3 ∧ 8 % 2 ^ 3 = 0 ∧ (15 : Word).toNat = 8 + 7 := by decide

theorem witness_dataMemory : Memory.wf up = true ∧ (0x3FFFF : BitVec 18) ≠ 0 := by decide

theorem witness_float : up.issuesAlone ∧ (fAdd fmt32 (rmMode 0) 0 0).2 &&& fld up.dir.fpcr 8 5 = 0 ∧
    (fDiv fmt32 (rmMode 0) 0 0).2 &&& fld up.dir.fpcr 8 5 = 0 ∧ (user.upSys (fun y => { y with fown := 0x40000 })).issuesAlone ∧
    ownedBy (user.upSys (fun y => { y with fown := 0x40000 })).sys.fown 0 = true := by
  unfold State.issuesAlone State.issues; decide

theorem witness_floatTrap : (upd (fun d => { d with fpcr := 0x1000, cwp := 13, f := [(0, 0x7F800001)] })).issuesAlone ∧
    up.armedFor 10 (fun _ _ => true) = false ∧ Tab.wf 0 up.dir.wsave = true ∧ fNan fmt32 (0x7F800001 : BitVec 32).toNat = true := by
  unfold State.issuesAlone State.issues; decide

theorem witness_controlFlow : up.issuesOnce ∧ up.dir.g 0 = 0 ∧ (upd (fun d => { d with wreg := [(0, 1)] })).dir.g 0 ≠ 0 ∧
    (upd (fun d => { d with cwp := 13 })).dir.cwp.toNat < 14 ∧ (upd (fun d => { d with cwp := 1 })).dir.cwp ≠ 0 ∧
    ((upd (fun d => { d with cwp := 1 })).dir.saved 1 8).msb = false ∧ (up.upSys (fun y => { y with ext := some 0 })).issuesOnce := by
  unfold State.issuesOnce State.issues; decide

theorem witness_prefixes : up.issuesAlone ∧ (upd (fun d => { d with rc := 256 })).dir.rc.toNat ≤ 256 ∧
    256 < (upd (fun d => { d with rc := 257 })).dir.rc.toNat ∧ Tab.get false up.sys.ppoison 1 = false ∧
    up.armedFor 8 (fun _ x => x == 1) = false := by
  unfold State.issuesAlone State.issues; decide

/-- A repetition of n more, of REPN or REP, of which fresh tells whether the word after the prefix has not issued yet. -/
def repeating (n : Word) (noInt fresh : Bool) : State :=
  up.upSys (fun y => { y with rep := some { pc := 0, count := n, noInt := noInt, held := none, lit := none, slot := none, fresh := fresh } })

theorem witness_repetition : (repeating 2 false true).issues ∧ 1 < (2 : Word).toNat ∧ (repeating 1 false true).issues ∧
    (repeating 0 false true).issues ∧ (repeating 1 false true).sys.ld = none ∧ (repeating 1 false true).sys.ext = none ∧
    (repeating 256 true true).issues ∧ (256 : Word).toNat ≤ 256 ∧ (repeating 257 true true).issues ∧ 256 < (257 : Word).toNat ∧
    (repeating 300 false true).issues ∧ (repeating 300 true false).issues ∧ (repeating 257 true true).dir.cwp.toNat < 14 ∧
    Tab.wf 0 (repeating 257 true true).dir.wsave = true ∧ (repeating 257 true true).armedFor 10 (fun _ _ => true) = false := by
  unfold State.issues; decide

theorem witness_waits : up.issuesAlone ∧ up.dir.priv = true ∧ up.dir.evp = 0 ∧
    ((upd (fun d => { d with evp := 1, evm := 1 })).dir.evp.getLsbD 0 && (upd (fun d => { d with evp := 1, evm := 1 })).dir.evm.getLsbD 0) = true ∧
    Tab.get 0 up.dir.wtuv 3 ≤ up.dirTime ∧ ¬ Tab.get 0 (upd (fun d => { d with wtuv := [(3, 1)] })).dir.wtuv 3 ≤ up.dirTime ∧
    up.pair.st = .solo ∧ (up.port 15).up = false := by
  unfold State.issuesAlone State.issues; decide

theorem witness_eventToPort : (up.upCrew (fun c => { c with ports := [(15, { CrewPort.reset with up := true })] })).issuesAlone ∧
    State.linked 15 (up.upCrew (fun c => { c with ports := [(15, { CrewPort.reset with up := true })] })) ∧
    State.room 15 (up.mkFrame 6 3 0 0 []) (up.upCrew (fun c => { c with ports := [(15, { CrewPort.reset with up := true })] })) := by
  unfold State.issuesAlone State.issues State.linked State.room; decide

theorem witness_waitsEnd : (holding .wfe).sys.rep = none ∧ (holding .wfe).paired = false ∧
    (∀ m, m ≤ 2 → ((upd (fun d => { d with evp := 4, evm := 4 })).dir.evp.getLsbD m &&
      (upd (fun d => { d with evp := 4, evm := 4 })).dir.evm.getLsbD m && !(Tab.get 0 up.sys.irqcfg m).getLsbD 3) = decide (m = 2)) ∧
    Tab.get 0 (holding (.wtu 3)).dir.wtuv 3 ≤ (holding (.wtu 3)).tbNow ∧ (upd (fun d => { d with wtuArmed := 8 })).dir.wtuArmed.getLsbD 3 = true := by
  decide

theorem witness_traps : (upd (fun d => { d with cwp := 13 })).issuesAlone ∧ up.sys.ld = none ∧ user.issuesAlone ∧
    ownedBy user.sys.fown user.sys.chid = false ∧ (user.upDir (fun d => { d with cwp := 14 })).issuesAlone ∧
    (user.upDir (fun d => { d with cwp := 15 })).issuesAlone ∧ Tab.wf 0 user.dir.wsave = true := by
  unfold State.issuesAlone State.issues; decide

theorem witness_interruptEntry : ((upd (fun d => { d with ie := true, ipl := 0, cwp := 13, evp := setBit 0 63 true, evm := BitVec.allOnes 64 })).upSys
      (fun y => { y with normal := true, irqcfg := [(63, 15)] })).takable = some (63, 7) ∧ up.seq.yieldOn.getLsbD 7 = false := by decide

/-- RETI into an interrupted repetition of window 1, with a hold of ABAR to take up and a load of A put off. -/
def returning : State := (upd (fun d => { d with cwp := 1, wsave := [(40, 0x800000), (51, 0x7F)] })).upSys (fun y => { y with abarHeld := [(1, 3)] })

theorem witness_returnIntoRepetition : returning.issuesAlone ∧ returning.dir.priv = true ∧ 0 < returning.dir.cwp.toNat ∧
    (returning.dir.saved 1 8).msb = true ∧ (returning.dir.saved 1 19).getLsbD 0 = true ∧ (returning.dir.saved 1 19).getLsbD 1 = true ∧
    (returning.dir.saved 1 19).getLsbD 2 = true ∧ (fld (returning.dir.saved 1 19) 6 2 : BitVec 2) = 1 ∧ Tab.get 0 returning.sys.abarHeld 1 = 2 + 1 := by
  unfold State.issuesAlone State.issues; decide

theorem witness_returnFromTrap : (upd (fun d => { d with cwp := 1, wsave := [(40, 0x800000)] })).issuesAlone ∧
    ((upd (fun d => { d with cwp := 1, wsave := [(40, 0x800000)] })).dir.saved 1 8).msb = true ∧
    ((upd (fun d => { d with cwp := 1, wsave := [(40, 0x800000)] })).dir.saved 1 19).getLsbD 0 = false := by
  unfold State.issuesAlone State.issues; decide

theorem witness_readSpecialRegister : up.issuesAlone ∧ up.dir.priv = true ∧ srIllegal 0x3E = false ∧ srIllegal 0 = false ∧ srPriv 0x3E = true ∧
    user.issuesAlone ∧ srPriv 2 = false ∧ (user.upSys (fun y => { y with fown := 0x40000 })).issuesAlone ∧
    ownedBy (user.upSys (fun y => { y with fown := 0x40000 })).sys.fown 0 = true ∧ up.pair.st ≠ .paired ∧
    ({ up with pair := { up.pair with st := .paired } } : State).issuesAlone ∧ ({ up with pair := { up.pair with st := .paired } } : State).pair.st = .paired := by
  unfold State.issuesAlone State.issues; decide

/-- It with A = a. -/
def withA (a : Word) : State := upd (fun d => { d with a := a })

theorem witness_writeSpecialRegister : (withA 0x040000).issuesAlone ∧ (fld (withA 0x040000).dir.a 0 19 : BitVec 19).toNat ≤ 262144 ∧
    (withA 0x040001).issuesAlone ∧ 262144 < (fld (withA 0x040001).dir.a 0 19 : BitVec 19).toNat ∧ (withA 0x040001).err.armed = none ∧
    (fld (withA 0x040000).dir.a 16 3 : BitVec 3).toNat ≤ 4 ∧ (withA 0x050000).issuesAlone ∧ 4 < (fld (withA 0x050000).dir.a 16 3 : BitVec 3).toNat ∧
    (fld (withA 20).dir.a 0 5 : BitVec 5).toNat ≤ 20 ∧ 20 < (fld (withA 21).dir.a 0 5 : BitVec 5).toNat ∧ (withA 20).issuesAlone ∧
    (withA 21).issuesAlone ∧ (withA 21).dir.priv = true ∧ user.dir.priv = false ∧
    (fld (withA 0xF).dir.a 0 4 : BitVec 4) = 0xF ∧ (fld (withA 8).dir.a 0 4 : BitVec 4) = 8 ∧ (fld (withA 0x10).dir.a 0 4 : BitVec 4) = 0 := by
  unfold State.issuesAlone State.issues; decide

theorem witness_saveFrames : up.issuesAlone ∧ up.armedFor 12 (fun _ a => a == up.sys.sfch.toNat) = false ∧
    up.armedFor 13 (fun _ a => a == up.sys.sfch.toNat) = false ∧ fld (up.chan up.sys.sfch).ue 3 5 = (0 : BitVec 5) ∧ Tab.wf 0 up.dir.f = true ∧
    (up.upSys (fun y => { y with mpipe := [(1, 3)] })).sys.mpipe = (1, 3) :: [] := by
  unfold State.issuesAlone State.issues; decide

/-- A prefix that stands in the slot of a load of A. -/
theorem witness_prefixInSlot : ((repeating 2 false true).upSys (fun y => { y with rep := y.rep.map (fun r => { r with slot := some (1, 7, 5) }) })).issues ∧
    ((repeating 2 false true).upSys (fun y => { y with rep := y.rep.map (fun r => { r with slot := some (1, 7, 5) }) })).dir.cwp.toNat < 14 := by
  unfold State.issues; decide +kernel

/-! ## Witnesses: the array -/

/-- A valid plain script 256 of 16 cycles at micro-PC 0x2000. -/
def script : BitVec 320 := setBit (putFld (putFld 0 296 (0x2000 : BitVec 14)) 276 (16 : BitVec 20)) 319 true

/-- It in the table, the Director running. -/
def scripted : State := up.upSeq (fun q => { q with table := [(256, script)], pr := [(0, 0x100000), (1, 0x100000)] })

/-- An entry of kind k. -/
def entry (k : EntryKind) (n : Nat) : Entry := { kind := k, idx := 256, aa := [], pr := [], ch := 0, total := n, serial := 0, order := 0 }

/-- It issuing. -/
def issuing (k : EntryKind) (n : Nat) : Run :=
  { e := entry k n, upc := 0x2000, lc := [], ix := [], cix := 0, remain := n, phase := 0, orb := false, allb := false, countb := 0, ended := false,
    ckpt := false, run := 0, sw := none, incoming := false, loads := false }

theorem witness_scriptCalls : scripted.issuesAlone ∧ scripted.callRefused 256 = none ∧ scripted.seq.queue.length < 4 ∧
    4 ≤ (scripted.upSeq (fun q => { q with queue := List.replicate 4 (entry .mset 1) })).seq.queue.length ∧
    up.callRefused 256 = some 1 ∧ (Tab.get 0 up.seq.table 256).msb = false ∧ (Tab.get 0 scripted.seq.table 256).msb = true ∧
    (setBit script 317 true).getLsbD 317 = true ∧ script.getLsbD 317 = false ∧
    fld (setBit script 310 true) 310 6 ≠ (fld up.sys.chid 18 6 : BitVec 6) := by
  unfold State.issuesAlone State.issues; decide

theorem witness_arrayEntries : scripted.issuesAlone ∧ scripted.dir.priv = true ∧ (fld (0x3FF : BitVec 12) 0 10 : BitVec 10).toNat <
      (fld (Tab.get 0 scripted.seq.pr 0) 10 11 : BitVec 11).toNat ∧
    (upd (fun d => { d with a := 0x1000 })).dir.a.getLsbD 12 = true ∧ 147456 - 512 + 512 * 1 ≤ 147456 ∧
    (fld (0x400 : BitVec 12) 10 2 : BitVec 2) ≠ 3 := by
  unfold State.issuesAlone State.issues; decide

theorem witness_arrayBarrier : scripted.issuesAlone ∧
    (Tab.get 0 (scripted.upDir (fun d => { d with aa := [(7, 1019)] })).dir.aa 7).toNat + 5 ≤ (fld (Tab.get 0 scripted.seq.pr 0) 10 11 : BitVec 11).toNat ∧
    (holding (.abar 0)).dir.hold = .abar 0 ∧ Tab.get (0, 0) (up.upSeq (fun q => { q with abarRes := [(0, (1, 5))] })).seq.abarRes 0 = (1, 5) ∧
    (1 : BitVec 5) &&& up.sys.afEn = 0 ∧ (1 : BitVec 5) &&& (up.upSys (fun y => { y with afEn := 1 })).sys.afEn ≠ 0 ∧
    (upd (fun d => { d with cwp := 13 })).dir.cwp.toNat < 14 := by
  unfold State.issuesAlone State.issues; decide

/-- A sample in flight. -/
def sampled (tally : Bool) : Sample := { cyc := 0, tally := tally, count := 1, run := 0, idx := 256, abar := none }

theorem witness_arrayResults : up.issuesAlone ∧ up.seq.samples = [] ∧ up.seq.queue = [] ∧ up.seq.run = none ∧
    up.seq.orTaken = false ∧ up.seq.tallyTaken = false ∧ (up.upSeq (fun q => { q with orTaken := true, tallyTaken := true })).issuesAlone ∧
    (up.upSeq (fun q => { q with samples := [sampled true, sampled false] })).issuesAlone ∧ (sampled true).abar = none ∧
    sampled true ∈ (up.upSeq (fun q => { q with samples := [sampled true] })).seq.samples ∧
    sampled false ∈ (up.upSeq (fun q => { q with samples := [sampled false] })).seq.samples ∧ (4 : BitVec 3).toNat = 4 ∧
    (fld (0x100000 : Word) 10 11 : BitVec 11).toNat ≤ 1024 ∧ (holding (.rdor 7)).dir.hold = .rdor 7 ∧
    (up.upSeq (fun q => { q with run := some (issuing .mset 1) })).seq.run = some (issuing .mset 1) ∧ (issuing .mset 1).sw = none ∧
    (up.upSeq (fun q => { q with run := some (issuing .mset 1) })).issuesAlone := by
  unfold State.issuesAlone State.issues; decide

/-- n levels parked. -/
def parked (n : Nat) : State := up.upSeq (fun q => { q with park := List.replicate n [entry .mset 1], run := some (issuing .mset 1) })

theorem witness_yieldAndUnpark : (parked 7).issuesAlone ∧ (parked 7).seq.switching = false ∧
    ((parked 7).upSeq (fun q => { q with run := some { issuing .mset 1 with sw := some (0, true) } })).issuesAlone ∧
    ((parked 7).upSeq (fun q => { q with run := some { issuing .mset 1 with sw := some (0, true) } })).seq.switching = true ∧ (parked 7).seq.park.length + (parked 7).seq.reqs.length < 8 ∧
    8 ≤ (parked 8).seq.park.length + (parked 8).seq.reqs.length ∧ (parked 8).issuesAlone ∧ up.seq.park = [] ∧
    (parked 1).seq.park = (entry .mset 1 :: []) :: [] ∧ (parked 1).seq.run ≠ none ∧ (parked 1).seq.queue.length + 0 ≤ 3 ∧
    3 < ((parked 1).upSeq (fun q => { q with queue := List.replicate 4 (entry .mset 1) })).seq.queue.length + 0 := by
  unfold State.issuesAlone State.issues; decide

/-- Script 256 issuing its word w, at its micro-PC. -/
def micro (w : MicroW) : State := scripted.upSeq (fun q => { q with cs := Tab.set 0 [] 0x2000 w, run := some (issuing .script 16) })

/-- The SEQ values from 0 to 5, END the last. -/
def ends : MicroW := putFld 0 116 (5 : BitVec 3)

theorem witness_microword : (micro 0).seq.run = some (issuing .script 16) ∧ 0 < (issuing .script 16).remain ∧ (issuing .script 16).ended = false ∧
    (issuing .script 16).sw = none ∧ (issuing .script 16).ckpt = false ∧ (micro 0).seq.isRom 256 = false ∧
    Tab.get 0 (micro ends).seq.cs (issuing .script 16).upc.toNat = ends ∧ MicroW.cap ends = 0 ∧ MicroW.tree ends = 0 ∧
    MicroW.sdist ends = 0 ∧ MicroW.kop ends = 0 ∧ MicroW.kadr ends = 0 ∧ MicroW.seq ends = 5 ∧ MicroW.seq 0 = 0 ∧ (micro 0).seq.samples = [] ∧
    (micro 0).arr.poison = [] ∧ (micro 0).err.armed = none ∧ Memory.wf (micro ends) = true := by
  decide

/-- A segment of plane 3 x 1024, row 511, tile column 15. -/
def seg : Seg := { slot := 0, line := 0, plane := 0xC00, row := 511, bits := 0x80000001 }

theorem witness_shadowWrite : Memory.wf up = true ∧ (up.upArr (fun a => { a with sb3 := true })).arr.sb3 = true ∧ up.arr.sb3 = false ∧
    Tab.get none (up.upArr (fun a => { a with shHead := [(255, some seg)] })).arr.shHead 255 = some seg := by decide

theorem witness_treeResults : (up.upSeq (fun q => { q with samples := [sampled false] })).seq.samples = sampled false :: [] ∧
    (sampled false).abar = none ∧ up.seq.run = none ∧ up.err.armed = none := by decide

/-- Entry k issuing, at phase n of its cycles. -/
def transferring (n : Nat) : State := up.upSeq (fun q => { q with run := some { issuing (.transfer true 0xFFF 1 146944) 562 with phase := n } })

theorem witness_entries : (up.upSeq (fun q => { q with queue := [entry .script 16] })).seq.queue = entry .script 16 :: [] ∧
    (entry .script 16).kind.isTransfer = false ∧ (entry .resume 16).kind.isTransfer = false ∧ up.crew.sends = [] ∧ up.seq.run = none ∧
    (up.upSeq (fun q => { q with run := some (issuing .script 0) })).seq.isRom (issuing .script 0).e.idx = false ∧
    (issuing .script 0).remain = 0 ∧ (issuing .script 0).sw = none ∧
    (up.upSeq (fun q => { q with reqs := [1] })).seq.reqs = [1] ∧ (0xFFF : BitVec 12).toNat % 1024 + 1 ≤ 1024 ∧ 146944 + 512 * 1 ≤ 147456 ∧
    (transferring 48).seq.run = some { issuing (.transfer true 0xFFF 1 146944) 562 with phase := 48 } ∧
    (entry (.transfer true 0xFFF 1 146944) 562).total = 512 * 1 + 50 ∧ Memory.wf (transferring 48) = true ∧
    up.banks.poison = [] ∧ up.banks.phase = [] := by decide

/-- Script 256 at a checkpoint. -/
def atCheckpoint : Run := { issuing .script 16 with ckpt := true }

/-- Cycle y of a sequence with its switch, or of a restore; into a resumed script, whose registers load. -/
def inSwitch (y : Nat) (full incoming loads : Bool) : Run := { atCheckpoint with sw := some (y, full), incoming := incoming, loads := loads }

/-- It issuing. -/
def switching (y : Nat) (full incoming loads : Bool) : State :=
  up.upSeq (fun q => { q with table := [(256, setBit script 318 true)], run := some (inSwitch y full incoming loads) })

theorem witness_switchBegins : ((switching 0 true false false).upSeq (fun q => { q with reqs := [1], run := some atCheckpoint })).seq.reqs = [1] ∧
    ((switching 0 true false false).upSeq (fun q => { q with reqs := [1], run := some atCheckpoint })).seq.run = some atCheckpoint ∧
    atCheckpoint.ckpt = true ∧ atCheckpoint.sw = none ∧
    (Tab.get 0 (switching 0 true false false).seq.table atCheckpoint.e.idx.toNat).getLsbD 318 = true := by decide

theorem witness_switchCycles :
    (switching 12 true true false).seq.run = some (inSwitch 12 true true false) ∧
    (inSwitch 12 true true false).sw = some (12, true) ∧ (switching 12 true true false).seq.samples = [] ∧ (switching 12 true true false).err.armed = none ∧
    (switching 12 true true false).arr.poison = [] ∧ Memory.wf (switching 12 true true false) = true ∧
    (∀ e ∈ (switching 19 true false false).seq.queue.head?, e.kind ≠ .resume) ∧
    (switching 39 false true true).seq.run = some (inSwitch 39 false true true) ∧
    (switching 39 true false false).dir.run ≠ .held := by decide

/-- A field below a concatenation's low part is the low part's. -/
theorem fld_append_low {n m : Nat} (c : BitVec n) (b : BitVec m) (lo w : Nat) (h : lo + w ≤ m) : (fld (c ++ b) lo w : BitVec w) = fld b lo w := by
  apply BitVec.eq_of_getLsbD_eq
  intro i hi
  simp [fld, BitVec.getLsbD_append, hi, show lo + i < m by omega]

theorem fld_append_high {n m : Nat} (c : BitVec n) (b : BitVec m) : (fld (c ++ b) m n : BitVec n) = c := by
  apply BitVec.eq_of_getLsbD_eq
  intro i hi
  simp [fld, BitVec.getLsbD_append, hi]

/-- A record that a resume accepts, and one that it refuses. -/
theorem witness_resumeRecord : recordOk (entry .resume 16) (atCheckpoint.record false) = true ∧ recordOk (entry .resume 16) 0 = false := by
  refine ⟨?_, by simp [recordOk]⟩
  unfold recordOk Run.record
  simp only [Bool.false_eq_true, if_false, fld_append_high (n := 16) (m := 496), fld_append_low (n := 16) (m := 496) _ _ 0 496 (by decide),
    fld_append_low (n := 16) (m := 496) _ _ 477 18 (by decide), fld_append_low (n := 16) (m := 496) _ _ 35 84 (by decide),
    BitVec.getLsbD_append]
  refine Bool.and_eq_true_iff.mpr ⟨Bool.and_eq_true_iff.mpr ⟨Bool.and_eq_true_iff.mpr ⟨?_, ?_⟩, ?_⟩, ?_⟩
  · decide +kernel
  · exact decide_eq_true (congrArg recordCheck (by decide +kernel))
  · decide +kernel
  · decide +kernel

/-! ## Witnesses: coprocessor, cue list, timebase, errors -/

theorem witness_spliceOpcodes : up.err.armed = none ∧ user.issuesAlone ∧ up.issuesAlone ∧ (0x2F : BitVec 6).toNat < 0x30 ∧ (0x3D : BitVec 6).toNat = 0x3D ∧
    (holding (.opcode 0x30 3 3)).dir.hold = .opcode 0x30 3 3 ∧
    ((holding (.opcode 0x30 3 3)).upSpl (fun x => { x with op := some { op := 0x30, a := 0, x := 0, y := 0 } })).spl.op =
      some { op := 0x30, a := 0, x := 0, y := 0 } ∧ up.dir.hold = .none ∧
    (up.upSpl (fun x => { x with withdrawn := some 0x30 })).spl.withdrawn = some 0x30 := by
  unfold State.issuesAlone State.issues; decide

theorem witness_cuePort : up.paired = false ∧ up.issuesAlone ∧ up.cue.credits ≠ 0 ∧ (up.upCue (fun c => { c with credits := 0 })).cue.credits = 0 ∧
    (holding (.cuepost 3 0)).dir.hold = .cuepost 3 0 ∧ (holding (.cuepost 3 0)).cue.credits ≠ 0 := by
  unfold State.issuesAlone State.issues; decide

/-- A PULSE of 1,000 ns on pin 63 of bank 5, sent by channel 0 for time t. -/
def pulse (t : BitVec 64) : CuePost := { time := t, a := 1, x := putFld (putFld 0 15 (5 : BitVec 3)) 9 (63 : BitVec 6), y := 1000, ch := 0 }

/-- It received, its pin bound to the channel. -/
def cueing (t : BitVec 64) : State :=
  up.upCue (fun c => { c with inbox := [pulse t], owner := [(383, 1)], cueMax := [(0, 16)], keys := [(0, some { high := 0, marks := 1 })] })

theorem witness_cueJudgement : (cueing 200).cue.inbox = pulse 200 :: [] ∧ (cueing 200).cue.judge (cueing 200).tbNow (pulse 200) = none ∧
    (cueing 199).cue.judge (cueing 199).tbNow (pulse 199) = some 3 ∧ (pulse 199).time.toNat < (cueing 199).tbNow.toNat + 200 ∧
    (pulse 199).badArg = false ∧ (∀ k ∈ (pulse 199).pins, Tab.get 0 (cueing 199).cue.owner k = (pulse 199).ch.toNat + 1) ∧
    ({ pulse 0 with y := 0 } : CuePost).badArg = true ∧ (Tab.get Chan.free up.host.chans 0).out.mac = false := by decide

/-- An entry in the list. -/
def edge (level rose : Bool) : CueEnt :=
  { time := 0, obj := 1, isLevel := level, value := true, npm1 := 0, bank := 5, pin := 63, width := 0, ch := 0, rose := rose, masked := false,
    place := 0, ue := false }

theorem witness_cueEdges : ((up.upCue (fun c => { c with pend := [edge false false] })).cue.dueFirst up.tbNow.toNat) = some (edge false false) ∧
    ((up.upCue (fun c => { c with pend := [edge false true] })).cue.dueFirst up.tbNow.toNat) = some (edge false true) ∧
    ((up.upCue (fun c => { c with pend := [edge true false] })).cue.dueFirst up.tbNow.toNat) = some (edge true false) ∧ up.cue.release = [] := by decide

theorem witness_timebase : up.ready 4 = true ∧ (∀ e ∈ up.host.chans, e.2.st ≠ .running ∧ e.2.st ≠ .draining) ∧ up.cue.pend = [] ∧
    (up.upCue (fun c => { c with pend := [edge true false] })).cue.pend ≠ [] ∧ ((1, { Chan.free with st := ChState.running }) : Nat × Chan).2.st = .running ∧
    (-4294967 : Int).natAbs ≤ 4294967 ∧ (-4294967 : Int) ≠ 0 := by decide

theorem witness_occurrences : detClass 47 ≠ 2 ∧ up.pair.st = .solo ∧ Tab.wf 0 up.err.cnt = true ∧ Tab.wf 0 up.err.supp = true ∧
    (Tab.get 0 (up.upErr (fun e => { e with ctl := [] })).err.ctl 47).getLsbD 0 = false ∧ (Tab.get 0 up.err.ctl 47).getLsbD 0 = true ∧
    Tab.get 0 up.err.last 47 = 0 ∧ up.ready 2 = true ∧ up.err.queue = [] ∧ detClass 10 = 2 ∧
    Tab.get 0 (up.upErr (fun e => { e with last := [(47, 1)] })).err.last 47 ≠ 0 ∧ up.now + 1 < 1 + 10000000 ∧
    1 + 10000000 ≤ ({ up with now := 10000000 } : State).now + 1 := by decide

/-- A part in the state l. -/
def inLc (l : Lc) : State := up.upKeep (fun k => { k with lc0 := (l, true), lc1 := (l, true), lc2 := (l, true) })

/-- A record that waits. -/
def rec (d : BitVec 8) : ErrRec := { time := 0, det := d, flags := 0, supp := 0, chan := 0, info := 0, event := false }

theorem witness_injection : up.ready 2 = true ∧ (1 : BitVec 32).getLsbD 0 = true ∧ (1 : BitVec 32).getLsbD 1 = false ∧ (3 : BitVec 32).getLsbD 1 = true ∧
    (inLc .provisioned).keep.lc = .provisioned ∧ (inLc .deployed).keep.lc = .deployed ∧
    ((inLc .deployed).upKeep (fun k => { k with mtoken := some (1, 1, 1) })).keep.right 0 = true ∧ (inLc .deployed).keep.right 0 = false ∧
    up.keep.lc ≠ .provisioned ∧ up.keep.lc ≠ .deployed ∧ (rec 47).det ≠ 21 ∧
    (up.upErr (fun e => { e with queue := [rec 0, rec 47] })).err.queue = [rec 0, rec 47] := by decide

theorem witness_jtag : up.ready 3 = true ∧ up.keep.lc ≠ .scrapped ∧ (inLc .scrapped).keep.lc = .scrapped ∧ (fld (0x80 : BitVec 8) 5 3 : BitVec 3) = 4 ∧ 4 ≤ (4 : BitVec 8).toNat ∧
    (fld (4 : BitVec 8) 5 3 : BitVec 3) ≠ 4 ∧ (fld (0xA0 : BitVec 8) 5 3 : BitVec 3) ≠ 4 ∧
    (fld (0x9F : BitVec 8) 5 3 : BitVec 3) = 4 := by decide

theorem witness_plls : Tab.wf false up.rst.pllLost = true ∧ Tab.get false up.rst.pllLost 51 = false ∧ (16 * (3 : BitVec 2).toNat + (3 : BitVec 4).toNat) = 51 ∧
    Tab.wf CrewPort.reset up.crew.ports = true ∧ Tab.wf Port.reset up.ing.ports = true := by decide

/-! ## Witnesses: clocks, power, reset, boot -/

/-- In mode m, asked for Sprint, with P_total and P_array of the latest sample. -/
def mode (m : BitVec 2) (total array : BitVec 16) : State :=
  up.upGaf (fun g => { g with mode := m, own := m, modeReq := 0, qualify := 999, window := List.replicate 9 (total, array) })

/-- The inequality of R422 at mode n, with the margin x. -/
def fits (m : Nat) (total array x n : Nat) : Bool :=
  decide ((total - array) * arrayMax m + array * arrayMax n ≤ (3000 - x) * arrayMax m)

theorem witness_modeControl : up.pair.st = .solo ∧ up.err.armed = none ∧ (mode 0 3001 2000).ready 0 = true ∧ (3001 : BitVec 16).toNat ≤ 6000 ∧
    (mode 0 3001 2000).gaf.own = (mode 0 3001 2000).gaf.mode ∧
    ((((3001, 2000) :: (mode 0 3001 2000).gaf.window).take 10).map (fun p => p.1.toNat)).sum / 10 = 3001 ∧
    fits 0 3001 2000 100 1 = true ∧ fits 0 3001 0 100 3 = false ∧ fits 1 1000 0 200 0 = true ∧ (mode 1 1000 0).gaf.modeReq < (mode 1 1000 0).gaf.mode ∧
    (mode 1 1000 0).gaf.thold = false ∧ (mode 1 1000 0).gaf.notBefore ≤ (mode 1 1000 0).now ∧
    (up.upGaf (fun g => { g with raising := some 0 })).gaf.raising = some 0 ∧ up.gaf.withheld = false ∧
    (up.upGaf (fun g => { g with raising := some 0 })).gaf.raisedAt + 8000 ≤ ({ up with now := 8000 } : State).now := by decide

theorem witness_temperatures : (List.replicate 20 (0 : BitVec 16)).length = 20 ∧ Tab.wf 0 up.gaf.temps = true ∧ (2000 : Int) < (2001 : BitVec 16).toInt ∧
    (1920 : BitVec 16).toInt ≤ 1920 ∧ (2400 : Int) < (2401 : BitVec 16).toInt ∧ (2320 : BitVec 16).toInt ≤ 2320 ∧ up.gaf.therm = false := by decide

/-- Domain 29 in the state d, asked to be on or not. -/
def domain (d : BitVec 2) (on : Bool) : State :=
  up.upGaf (fun g => { g with domStat := putFld g.domStat 58 d, domReq := setBit g.domReq 29 on })

/-- It with a request of bank 8, which stands in that domain, still waiting for its response. -/
def asking : State := (domain 3 false).upMesh (fun m => { m with issued := [(1024 * 38, true)] })

theorem witness_powerDomains : (29 : BitVec 5).toNat < 30 ∧ up.ready 0 = true ∧ up.gaf.domStat = 0xAAAAAAAAAAAAAAA#60 ∧ up.closeRefused 29 = false ∧
    (scripted.upSeq (fun q => { q with run := some (issuing .script 16) })).closeRefused 0 = true ∧ (domain 3 false).dom 29 = 3 ∧
    (domain 3 false).gaf.domReq.getLsbD 29 = false ∧ (domain 1 true).dom 29 = 1 ∧ (domain 1 true).gaf.domReq.getLsbD 29 = true ∧
    (domain 3 false).mesh.domainQuiet 29 = true ∧ asking.dom 29 = 3 ∧ asking.mesh.domainQuiet 29 = false := by decide

theorem witness_resets : (true || false) = true ∧ up.ready 0 = true ∧ (1 : BitVec 6) ≠ 0 ∧ fld (0x5A5B0001 : BitVec 32) 16 16 ≠ (0x5A5A : BitVec 16) ∧
    up.dir.run ≠ .held ∧ up.ready 9 = true ∧ (∀ e ∈ up.host.chans, e.2.exec = none) ∧ Tab.wf 0 up.host.clapDrop = true ∧
    Tab.wf Chan.free up.host.chans = true ∧ (up.upHost (fun h => { h with chans := [(0, Chan.zero), (1, { Chan.free with st := .opened })] })).ownerOf 1 = 0 ∧
    ((up.upHost (fun h => { h with chans := [(0, Chan.zero), (1, { Chan.free with st := .opened })] })).chan 1).st = .opened ∧
    up.ownerOf 262143 ≠ 63 := by decide

/-- An image of the boot source. -/
def boot (ok : Bool) : BootImage := { words := [0x3FFF], sigOk := ok }

theorem witness_boot : State.reset.ready 0 = false ∧ (∀ k ∈ rdyNeeds 0, State.reset.ready k = true) ∧
    up.keep.active = 0 ∧ State.reset.keep.vbLatch = 0 ∧ up.dom 0 = 2 ∧
    (up.upRst (fun r => { r with rdy := 0x3FFF })).ready 14 = false ∧ (∀ k ∈ rdyNeeds 14, (up.upRst (fun r => { r with rdy := 0x3FFF })).ready k = true) ∧
    (up.upSys (fun y => { y with normal := true })).sys.normal = true ∧ (∃ k, k ∈ rdyNeeds 1 ∧ State.reset.ready k = false) ∧
    (State.reset.upRst (fun r => { r with rdy := 0x0FFF })).ready 3 = true ∧ (State.reset.upRst (fun r => { r with rdy := 0x0FFF })).ready 12 = false ∧
    State.reset.rst.bootCode = 0 ∧ (boot true).sigOk = true ∧ (boot false).sigOk = false ∧
    (up.upRst (fun r => { r with bootCode := 4 })).rst.bootCode = 4 ∧ up.keep.lc ≠ .scrapped ∧ up.rst.bootCode ≠ 4 ∧ (inLc .scrapped).keep.lc = .scrapped := by
  refine ⟨by decide, by decide, by decide, by decide, by decide, by decide, by decide, by decide, ⟨0, by decide⟩, by decide, by decide, by decide, by decide, by decide, by decide,
    by decide, by decide, by decide⟩

/-! ## Witnesses: channels and slates -/

/-- A path of one word, started by a message, every 1 ms at most. -/
def path : BitVec 128 := putFld (putFld 0 0 (3 : BitVec 8)) 32 (1000000 : BitVec 32)

/-- A recipe image of domain 1 with it. -/
def image : Image :=
  { kind := 2, domain := 1, version := 0, envelopeOk := true, signer := 0, sigOk := true, wrappedFor := [deviceIdent], tagOk := true, dk := 0,
    digest := 0, partsOk := true, dir := [], words := [], prog := [0x3FFF], paths := [path] }

/-- It bound, its window the first 64 staging lines. -/
def recipe : Recipe :=
  { img := { image with wrappedFor := [] }, pbase := [0, 0, 0, 0], pcnt := [16, 16, 16, 16], win := 0, wlen := 64, deadline := 40000, proven := 0, base := 0x2000, prog := 0,
    bytes := 64, paths := [{ trig := 3, k := 0, entry := 0, fp := false, mingap := 1000000, cueMax := 0, tDir := 1, cues := 0, tArr := 0, need := 1 }],
    atomic := 0, stretch := 1, inputs := [] }

/-- A slate of opcode op that targets channel 1. -/
def slate (op : BitVec 8) : BitVec 512 := putFld (op.setWidth 512) 96 ((1#18) ++ (1#14))

/-- It in execution. -/
def job (x : BitVec 512) (w : Bool) : Exec := { slate := x, since := 0, data := [], asked := 0, waiting := w }

/-- Channel 1 in the state st. -/
def one (st : ChState) : Chan :=
  { Chan.free with st := st, depth := 4, phase := true, tout := 1, recipe := if st = .opened then none else some recipe }

/-- Channel 0 executes slate x; channel 1 is k. -/
def admin (x : BitVec 512) (w : Bool) (k : Chan) : State :=
  up.upHost (fun h => { h with admCq := 0x100, chans := [(0, { Chan.zero with depth := 4, phase := true, exec := some (job x w) }), (1, k)] })

/-- Channel 1 executes slate x in the state st. -/
def user1 (x : BitVec 512) (w : Bool) (st : ChState) : State :=
  up.upHost (fun h => { h with admCq := 0x100, chans := [(0, { Chan.zero with depth := 4, phase := true }), (1, { one st with exec := some (job x w) })] })

/-- Nothing executes; channel 0 has a reel of 16, its tail at t. -/
def idle (t : BitVec 12) : State :=
  up.upHost (fun h => { h with admCq := 0x100, chans := [(0, { Chan.zero with depth := 4, phase := true, tail := t }), (1, one .running)] })

theorem witness_claps : (idle 0).clapBad 0 8 8 0x200000000 = true ∧ (idle 0).clapBad 0 8 8 0x0000000110001000 = false ∧
    (idle 0).clapBad 0 8 8 0x000000011000100F = false ∧ (idle 0).clapBad 0 8 8 0x0000000110001010 = true ∧ ((idle 0).chan 2).st = .free ∧
    (0x0000000110001000 : BitVec 64).getLsbD 12 = true := by decide +kernel

/-- An event record that waits. -/
def event : EvRec := { time := 0, code := 5, data := 0 }

theorem witness_eventRecord : ((idle 0).upHost (fun h => { h with evq := [event] })).host.evq = event :: [] ∧
    (idle 0).host.evLost = 0 ∧ (idle 0).host.admCq.getLsbD 8 = true ∧ (if (idle 0).holdsSlate 0 then 2 else 1) ≤ ((idle 0).chan 0).freeSlots ∧
    (idle 0).host.link = true ∧ Tab.get false up.rst.pllLost 0 = false ∧ (idle 0).host.msixOpen 0 ((idle 0).chan 0).vec = false ∧
    ((idle 0).upHost (fun h => { h with msixCtl := [(0, 2)], msix := [(0, { MsixVec.reset with mask := false })] })).host.msixOpen 0 0 = true := by
  decide +kernel

/-- A NOP of channel 0 with SEQ n. -/
def nop (n : BitVec 16) : BitVec 512 := putFld (putFld 0 16 n) 32 ((0#18) ++ (1#14))

theorem witness_slateJudgement : (idle 1).served = some 0 ∧ (idle 1).ready 14 = true ∧ ((idle 1).chan 0).ue = 0 ∧
    slHandle (nop 0) = (0 : BitVec 18) ++ ((idle 1).chan 0).gen ∧ firstOffence ((idle 1).chan 0).adm (nop 0) = none ∧
    slSeq (nop 0) = ((idle 1).chan 0).high + 1 ∧ ((idle 1).chan 0).st ≠ .draining ∧ (2 : BitVec 14) ≠ ((idle 1).chan 0).gen ∧
    firstOffence ((idle 1).chan 0).adm (setBit (nop 0) 511 true) = some 63 ∧ 2 ≤ (slSeq (nop 1) - ((idle 1).chan 0).high).toNat ∧
    (slSeq (nop 0xFFBF) - ((idle 1).chan 0).high).toNat ≤ 65472 ∧ ((idle 1).chan 0).judge 0 (nop 1) = .record 5 0xFFFF false := by
  decide +kernel

/-- PUT or GET of 8 bytes at the end of the window. -/
def xfer (op : BitVec 8) : BitVec 512 := putFld (putFld (op.setWidth 512) 192 (8 : BitVec 32)) 224 (4088 : BitVec 32)

theorem witness_hostSlates : (user1 0 false .bound).executes 1 (job 0 false) ∧ slOp 0 = 0 ∧ slOp (slate 6) = 6 ∧
    (user1 (xfer 4) false .running).executes 1 (job (xfer 4) false) ∧ xferBad (xfer 4) recipe.wlen = none ∧ slOp (xfer 5) = 5 ∧
    ((user1 (xfer 4) true .running).chan 1).recipe = some recipe ∧ ((user1 (xfer 4) true .running).chan 1).st = .running ∧
    (user1 (xfer 4) true .running).executes 1 (job (xfer 4) true) ∧ (List.replicate 8 (0 : Byte)).length = slNum (xfer 4) 24 4 ∧
    up.banks.phase = [] ∧ (one .running).tout ≠ 0 ∧ recipe.win + recipe.wlen ≤ 147456 ∧ (job (xfer 4) false).asked = 0 ∧
    (∀ q ∈ (user1 (xfer 4) true .running).host.oldestRead 1, q.live = true) ∧ (job (xfer 4) true).data = [] ∧
    Memory.wf (user1 (xfer 4) true .running) = true ∧
    (job (xfer 4) true).since + toutNs (one .running).tout ≤ ({ up with now := toutNs 1 } : State).now := by
  unfold State.executes; decide +kernel

/-- CREATE_CHANNEL of domain 63, priority 7, the least reels; and with a completion reel of 8 entries, which no reel has. -/
def create : BitVec 512 := putFld (putFld (putFld (0x40 : BitVec 512) 256 (4 : BitVec 8)) 264 (7 : BitVec 8)) 272 (63 : BitVec 8)
def badCreate : BitVec 512 := putFld create 256 (3 : BitVec 8)

/-- Channel 1 in state st with the slate job x, channel 0 waiting for its drain. -/
def draining : State := admin (slate 0x41) true { one .draining with destroyer := some 0 }

/-- Function 0 with the data domains of mask only; with the indices 0 and 1 only. -/
def noDomain : State := (admin create false (one .opened)).upHost (fun h => { h with dom := [(0, 1)] })
def noIndex : State := (admin create false (one .opened)).upHost (fun h => { h with base := [(0, 0), (1, 2)], count := [(0, 2), (1, 262142)] })

theorem witness_create : (admin create false (one .opened)).executes 0 (job create false) ∧ createBad create = none ∧ slOp create = 0x40 ∧
    (Tab.get 0 (admin create false (one .opened)).host.dom 0).getLsbD (slNum create 34 1) = true ∧
    (admin create false (one .opened)).takeIndex 0 = some 2 ∧ (admin badCreate false (one .opened)).executes 0 (job badCreate false) ∧
    createBad badCreate = some 32 ∧ slOp badCreate = 0x40 ∧ noDomain.executes 0 (job create false) ∧
    (Tab.get 0 noDomain.host.dom 0).getLsbD (slNum create 34 1) = false ∧ noIndex.executes 0 (job create false) ∧ noIndex.takeIndex 0 = none := by
  unfold State.executes; decide +kernel

/-- Slate op with a TARGET of another generation, or of channel k's own. -/
def staleSlate (op : BitVec 8) : BitVec 512 := putFld (op.setWidth 512) 96 ((1#18) ++ (2#14))

/-- Channel 1 of another function. -/
def foreign (x : BitVec 512) : State := (admin x false (one .opened)).upHost (fun h => { h with base := [(1, 1)], count := [(1, 1)] })

theorem witness_targetFails : (foreign (slate 0x41)).executes 0 (job (slate 0x41) false) ∧
    (foreign (slate 0x41)).ownerOf (slTindex (slate 0x41)).toNat ≠ (foreign (slate 0x41)).ownerOf 0 ∧
    (admin (staleSlate 0x41) false (one .opened)).executes 0 (job (staleSlate 0x41) false) ∧
    (admin (staleSlate 0x41) false (one .opened)).ownerOf (slTindex (staleSlate 0x41)).toNat = 0 ∧
    ((admin (staleSlate 0x41) false (one .opened)).chan (slTindex (staleSlate 0x41))).gen ≠ slTgen (staleSlate 0x41) ∧
    ((admin (staleSlate 0x41) false Chan.free).chan (slTindex (staleSlate 0x41))).st = .free := by
  unfold State.executes; decide +kernel

/-- DESTROY_CHANNEL of channel 0, and of a channel by itself. -/
def destroyZero : BitVec 512 := putFld (0x41 : BitVec 512) 96 ((0#18) ++ (1#14))

theorem witness_destroy : (admin (slate 0x41) false (one .opened)).executes 0 (job (slate 0x41) false) ∧ Tab.wf none up.cue.keys = true ∧
    (admin (slate 0x41) false (one .opened)).targets 0 (slate 0x41) 1 ∧ (admin (slate 0x41) false (one .running)).targets 0 (slate 0x41) 1 ∧
    (admin (slate 0x41) false (one .draining)).targets 0 (slate 0x41) 1 ∧ (admin destroyZero false (one .opened)).targets 0 destroyZero 0 ∧
    (admin destroyZero false (one .opened)).executes 0 (job destroyZero false) ∧ slOp destroyZero = 0x41 ∧
    (user1 (slate 0x41) false .opened).targets 1 (slate 0x41) 1 ∧ (user1 (slate 0x41) false .opened).executes 1 (job (slate 0x41) false) := by
  unfold State.executes State.targets; decide +kernel

theorem witness_destroyWaits :
    (admin (slate 0x41) false { one .bound with exec := some (job 4 false) }).targets 0 (slate 0x41) 1 ∧
    ((admin (slate 0x41) false { one .bound with exec := some (job 4 false) }).chan 1).exec.isSome = true := by
  unfold State.targets; decide +kernel

theorem witness_drain : draining.executes 0 (job (slate 0x41) true) ∧ (draining.chan 1).st = .draining ∧ (draining.chan 1).avail = 0 ∧
    (draining.chan 1).exec = none ∧ (draining.chan 1).destroyer = some 0 ∧ (draining.chan 1).silent = false ∧
    (draining.chan 1).overdue draining.tbNow = false ∧
    (((user1 (slate 0x41) true .draining).upChan 1 (fun c => { c with destroyer := some 1 })).chan 1).destroyer = some 1 ∧
    ((user1 (slate 0x41) true .draining).upChan 1 (fun c => { c with destroyer := some 1 })).executes 1 (job (slate 0x41) true) := by
  unfold State.executes; decide +kernel

theorem witness_unbindAndStop : (admin (slate 0x43) false (one .bound)).targets 0 (slate 0x43) 1 ∧ slOp (slate 0x43) = 0x43 ∧
    (admin (slate 0x43) false (one .bound)).executes 0 (job (slate 0x43) false) ∧ (admin (slate 0x43) false (one .opened)).targets 0 (slate 0x43) 1 := by
  unfold State.executes State.targets; decide +kernel

theorem witness_stop : (user1 (slate 2) true .running).executes 1 (job (slate 2) true) ∧ slOp (slate 2) = 2 ∧ slOp (slate 3) = 3 ∧
    (user1 (slate 2) false .bound).executes 1 (job (slate 2) false) ∧ (user1 (slate 2) true .draining).executes 1 (job (slate 2) true) ∧
    (user1 (slate 1) false .opened).executes 1 (job (slate 1) false) ∧ (user1 (slate 3) false .bound).executes 1 (job (slate 3) false) := by
  unfold State.executes; decide +kernel

/-- A result that is some value is that value. -/
theorem ok_of_toOption {ε α : Type} {x : Except ε α} {v : α} (h : x.toOption = some v) : x = .ok v := by
  cases x <;> simp_all [Except.toOption]

/-- A result that is no value is an error. -/
theorem error_of_toOption {ε α : Type} {x : Except ε α} (h : x.toOption = none) : ∃ d, x = .error d := by
  cases x <;> simp_all [Except.toOption]

/-- START of a recipe whose deadline is 1 ns. -/
def tight : State := (user1 (slate 1) false .bound).upChan 1 (fun c => { c with recipe := c.recipe.map (fun r => { r with deadline := 1 }) })

/-- The proof of channel 1's recipe succeeds: START may complete. -/
theorem witness_start : (user1 (slate 1) false .bound).executes 1 (job (slate 1) false) ∧ slOp (slate 1) = 1 ∧
    ∃ w, ((user1 (slate 1) false .bound).upChan 1 (fun c => { c with st := .running })).prove 1 (some (user1 (slate 1) false .bound)) = .ok w :=
  ⟨by unfold State.executes; decide +kernel, by decide +kernel, 2917, ok_of_toOption (by decide +kernel)⟩

/-- It fails. -/
theorem witness_startFails : tight.executes 1 (job (slate 1) false) ∧
    ∃ d, (tight.upChan 1 (fun c => { c with st := .running })).prove 1 (some tight) = .error d :=
  ⟨by unfold State.executes; decide +kernel, error_of_toOption (by decide +kernel)⟩

/-- A handler of channel 1 in its message trap, with G0 = g, and a Director in another trap. -/
def answering (g : Word) (cause : Word) : State :=
  { user1 (slate 3) true .running with
    sys := { up.sys with tcause := cause }, dir := { up.dir with cwp := 1, wsave := [(48, 1)], wreg := [(physReg 16 0, g)] } }

theorem witness_message : (answering 0 0x21).executes 1 (job (slate 3) true) ∧ (answering 0 0x21).dir.cwp.toNat = 1 ∧
    fld (answering 0 0x21).sys.tcause 0 8 = (0x21 : BitVec 8) ∧ fld ((answering 0 0x21).dir.saved 1 16) 0 18 = (1 : BitVec 18) ∧
    Tab.get 0 (answering 0 0x21).dir.wreg (physReg 16 0) = 0 ∧ (answering 5 0x21).executes 1 (job (slate 3) true) ∧
    Tab.get 0 (answering 5 0x21).dir.wreg (physReg 16 0) ≠ 0 ∧ (answering 0 0x22).executes 1 (job (slate 3) true) ∧
    fld (answering 0 0x22).sys.tcause 0 8 ≠ (0x21 : BitVec 8) := by
  unfold State.executes; decide +kernel

/-- Channel 1 executes MSG, its path last activated at a - 1 ns of a device at time t. -/
def messaging (a t : Nat) : State := { (user1 (slate 3) false .running).upChan 1 (fun c => { c with acts := [(0, a)] }) with now := t }

/-- A message within MINGAP of the path's previous activation, and one that is not. -/
theorem witness_messageEarly : (messaging 0 0).executes 1 (job (slate 3) false) ∧
    (∃ p, ((messaging 0 0).chan 1).msgPath = some (p, 0) ∧ p.mingap = 1000000) ∧ Memory.wf (messaging 0 0) = true ∧
    Tab.get 0 ((messaging 0 0).chan 1).acts 0 = 0 ∧ Tab.get 0 ((messaging 5 1000003).chan 1).acts 0 = 5 ∧ 1000003 + 1 < 5 + 1000000 ∧
    5 + 1000000 ≤ 1000004 + 1 ∧ (messaging 0 0).dir.run = .running ∧ (messaging 0 0).dir.cwp.toNat < 14 := by
  refine ⟨by unfold State.executes; decide +kernel, ⟨_, rfl, rfl⟩, ?_⟩
  decide +kernel

/-- No path of the recipe starts by a message. -/
def noPath : State := (user1 (slate 3) false .running).upChan 1 (fun c => { c with recipe := c.recipe.map (fun r => { r with paths := [] }) })

theorem witness_noMessagePath : noPath.executes 1 (job (slate 3) false) ∧ (noPath.chan 1).msgPath = none ∧ (noPath.chan 1).recipe.isSome = true := by
  unfold State.executes; decide +kernel


/-- BIND_INPUT of slot 63 to channel 1: CSI-2 port 0, RAW8 lines of 512 pixels, one line per ms; w is CT_PLACE. -/
def bindIn (w : BitVec 32) : BitVec 512 :=
  putFld (putFld (slate 0x44) 128 (0x030F : BitVec 16)) 160 ((10000#32) ++ (1#32) ++ w ++ (0#32) ++ (0x04400000#32) ++ (0x80000000#32))

/-- Channel 0 executes it; domain 0 may write the first block of data memory. -/
def binding (w : BitVec 32) : State := (admin (bindIn w) false (one .bound)).upSys (fun y => { y with rglo := [(0, 0x400000)] })

theorem witness_bindInput : (binding 0x200).executes 0 (job (bindIn 0x200) false) ∧ (binding 0x200).targets 0 (bindIn 0x200) 1 ∧
    ((binding 0x200).chan 1).st = .bound ∧ slOp (bindIn 0x200) = 0x44 ∧ 4 * slNum (bindIn 0x200) 16 1 + slNum (bindIn 0x200) 17 1 = 63 ∧
    Tab.wf Slot.reset up.ing.slots = true := by
  unfold State.executes State.targets; decide +kernel

theorem witness_bindCodes :
    (binding 0x200).sys.ringWritable 0 (((binding 0x200).slot 63).rebound (bindIn 0x200) 1 recipe).ev = true ∧
    (binding 0x200).bindCode 63 (((binding 0x200).slot 63).rebound (bindIn 0x200) 1 recipe) 1 recipe.wlen = none ∧
    (binding 0x1200).bindCode 63 (((binding 0x1200).slot 63).rebound (bindIn 0x1200) 1 recipe) 1 recipe.wlen = some 3 := by decide +kernel

/-- BIND_OUTPUT of kind k to channel 1: pin 63 of bank 5, or one crew destination. -/
def bindOut (k : BitVec 8) : BitVec 512 := putFld (putFld (putFld (slate 0x45) 128 k) 136 (5 : BitVec 8)) 192 (setBit (0 : BitVec 64) 63 true)

theorem witness_bindOutput : (admin (bindOut 0) false (one .bound)).executes 0 (job (bindOut 0) false) ∧
    (admin (bindOut 0) false (one .bound)).targets 0 (bindOut 0) 1 ∧ slNum (bindOut 2) 16 1 = 2 ∧ slNum (bindOut 1) 16 1 = 1 ∧ slNum (bindOut 0) 16 1 = 0 ∧
    (bindOut 0).getLsbD 255 = true ∧ Tab.get 0 (admin (bindOut 0) false (one .bound)).cue.owner 383 = 0 ∧ Tab.wf 0 up.cue.owner = true := by
  unfold State.executes State.targets; decide +kernel

/-- The targets of both bindings RUNNING with a deadline of d; the pin another channel's. -/
def bindingRun (d : Nat) : State := (binding 0x200).upChan 1 (fun c => { c with st := .running, recipe := c.recipe.map (fun r => { r with deadline := d }) })
def bindingOut (d : Nat) (owner : Nat) : State :=
  ((admin (bindOut 0) false (one .running)).upChan 1 (fun c => { c with recipe := c.recipe.map (fun r => { r with deadline := d }) })).upCue
    (fun c => { c with owner := [(383, owner)] })

theorem witness_bindRunning : (bindingRun 40000).executes 0 (job (bindIn 0x200) false) ∧ (bindingRun 40000).targets 0 (bindIn 0x200) 1 ∧
    ((bindingRun 40000).chan 1).st = .running ∧ (bindingOut 40000 2).executes 0 (job (bindOut 0) false) ∧
    (bindingOut 40000 2).targets 0 (bindOut 0) 1 ∧ Tab.get 0 (bindingOut 40000 2).cue.owner 383 = 1 + 1 ∧
    (bindingOut 40000 5).targets 0 (bindOut 0) 1 ∧ Tab.get 0 (bindingOut 40000 5).cue.owner 383 ≠ 1 + 1 := by
  unfold State.executes State.targets; decide +kernel

theorem witness_bindingProofs :
    (((bindingOut 40000 2).bindPins 1 5 (fld (bindOut 0) 192 64)).prove 1 (some (bindingOut 40000 2))).toOption.isSome = true ∧
    (((bindingOut 1 2).bindPins 1 5 (fld (bindOut 0) 192 64)).prove 1 (some (bindingOut 1 2))).toOption.isSome = false := by decide +kernel

theorem witness_bindRefused : (admin (bindIn 0x200) false (one .opened)).targets 0 (bindIn 0x200) 1 ∧
    ((admin (bindIn 0x200) false (one .opened)).chan 1).recipe = none ∧ (admin (bindOut 2) false (one .opened)).targets 0 (bindOut 2) 1 ∧
    (admin (bindIn 0x200) false (one .bound)).sys.ringWritable 0
      (((admin (bindIn 0x200) false (one .bound)).slot 63).rebound (bindIn 0x200) 1 recipe).ev = false ∧
    (admin (staleSlate 0x44) false (one .bound)).executes 0 (job (staleSlate 0x44) false) ∧
    ((admin (staleSlate 0x45) false (one .bound)).chan (slTindex (staleSlate 0x45))).gen ≠ slTgen (staleSlate 0x45) := by
  unfold State.executes State.targets; decide +kernel

/-- LOAD_RECIPE for channel 1 with one segment of window and a deadline of 40 us. -/
def load : BitVec 512 := putFld (putFld (putFld (slate 0x42) 192 (64 : BitVec 32)) 288 (1 : BitVec 32)) 320 (40000 : BitVec 32)

/-- A part in DEPLOYED that executes it. -/
def loading (k : Chan) : State :=
  (admin load false k).upKeep (fun y => { y with lc0 := (.deployed, true), lc1 := (.deployed, true), lc2 := (.deployed, true) })

theorem image_judged : (loading (one .opened)).keep.judge 2 image = none := by
  have h : image.wrappedFor.contains deviceIdent = true := by simp [image]
  unfold Keep.judge
  rw [h]
  decide +kernel

/-- Its place. -/
def placed : Placed := { img := image, base := 0x2000, pbase := 0, persist := false, ch := some 1 }

theorem image_placed : (loading (one .opened)).checkImage [2] 2 (some 1) false image = .ok (placed, []) := by
  unfold State.checkImage
  rw [image_judged]
  rfl

theorem witness_loadRecipe : (loading (one .opened)).executes 0 (job load false) ∧ (loading (one .opened)).targets 0 load 1 ∧ slOp load = 0x42 ∧
    ((loading (one .opened)).chan 1).st = .opened ∧ recipeBad load = none := by
  unfold State.executes State.targets; decide +kernel

theorem witness_recipeBound :
    (((loading (one .opened)).pathsOf placed []).isSome = true) ∧
    ((((loading (one .opened)).pathsOf placed []).bind (fun qs => ((loading (one .opened)).allocate load placed qs).toOption)).map (fun r => (r.win, r.deadline)) =
      some (0, 40000)) ∧
    ((((loading (one .opened)).pathsOf placed []).bind (fun qs => ((loading (one .opened)).allocate load placed qs).toOption)).map (fun r =>
      (((loading (one .opened)).upChan 1 (fun c => { c with st := .bound, recipe := some r })).prove 1 none).toOption) = some (some 2917)) := by
  decide +kernel

/-- LOAD_RECIPE with a deadline below 40 us; for channel 0. -/
def badLoad : BitVec 512 := putFld load 320 (39999 : BitVec 32)
def loadZero : BitVec 512 := putFld load 96 ((0#18) ++ (1#14))

theorem witness_loadRefused : (admin badLoad false (one .opened)).targets 0 badLoad 1 ∧ recipeBad badLoad = some 40 ∧
    (loading (one .bound)).targets 0 load 1 ∧ (admin loadZero false (one .opened)).targets 0 loadZero 0 ∧
    (admin badLoad false (one .opened)).executes 0 (job badLoad false) ∧ slOp badLoad = 0x42 := by
  unfold State.executes State.targets; decide +kernel

/-- The recipe with two paths that may be started every ns; with a path that branches back to itself. -/
def busyImage : Image := { image with paths := [putFld path 32 (1 : BitVec 32), putFld path 32 (1 : BitVec 32)] }
def lostPath : Image := { image with prog := [0x24FF] }

theorem path_images_judged : (loading (one .opened)).keep.judge 2 busyImage = none ∧ (loading (one .opened)).keep.judge 2 lostPath = none := by
  have h : busyImage.wrappedFor.contains deviceIdent = true := by simp [busyImage, image]
  have h2 : lostPath.wrappedFor.contains deviceIdent = true := by simp [lostPath, image]
  unfold Keep.judge
  rw [h, h2]
  decide +kernel

theorem path_images_placed :
    (loading (one .opened)).checkImage [2] 2 (some 1) false busyImage = .ok ({ placed with img := busyImage }, []) ∧
    (loading (one .opened)).checkImage [2] 2 (some 1) false lostPath = .ok ({ placed with img := lostPath }, []) := by
  unfold State.checkImage
  rw [path_images_judged.1, path_images_judged.2]
  exact ⟨rfl, rfl⟩

/-- Paths that the proof refuses; staging banks that another window takes whole; a path with no end. -/
theorem witness_recipeRefused :
    (((((loading (one .opened)).pathsOf { placed with img := busyImage } []).bind
      (fun qs => ((loading (one .opened)).allocate load { placed with img := busyImage } qs).toOption)).map
      (fun r => (((loading (one .opened)).upChan 1 (fun c => { c with st := .bound, recipe := some r })).prove 1 none).toOption)) = some none) ∧
    ((((loading (one .opened)).pathsOf placed []).map (fun qs => (((loading (one .opened)).upHost (fun h => { h with
      chans := h.chans ++ [(2, { one .running with recipe := some { recipe with wlen := 147456 } })] })).allocate load placed qs).toOption)) = some none) ∧
    (loading (one .opened)).pathsOf { placed with img := lostPath } [] = none := by
  decide +kernel

theorem witness_loadRejected : (loading (one .opened)).checkImage [2] 2 (some 1) false { image with domain := 0 } = .error 0x000601 := by
  unfold State.checkImage
  have h : (loading (one .opened)).keep.judge 2 { image with domain := 0 } = some 6 := by decide +kernel
  rw [h]; rfl

/-- A vendor patch: script 0 of one word, END. -/
def patch : Image :=
  { image with kind := 0, domain := 0, signer := Config.provisioned 384 5, dir := [0], words := [putFld 0 116 (5 : BitVec 3)], prog := [], paths := [] }

/-- LOAD_PATCH on channel 0; script 0 issues, or nothing does. -/
def patching (w busy : Bool) : State :=
  (admin 0x49 w (one .opened)).upSeq (fun q =>
    { q with table := [(0, script)], run := if busy then some { issuing .script 16 with e := { entry .script 16 with idx := 0 } } else none })

theorem patch_judged (b : Bool) : (patching false b).keep.judge 0 patch = none := by
  have h : patch.wrappedFor.contains deviceIdent = true := by simp [patch, image]
  have h2 : (patching false b).keep.wrongSigner patch = false := by unfold Keep.wrongSigner; simp [patch]
  unfold Keep.judge
  rw [h, h2]
  cases b <;> decide +kernel

theorem patch_checked : ((patching false false).checkImage [0, 1] 0 none false patch).toOption.isSome = true := by
  unfold State.checkImage
  rw [patch_judged]
  decide +kernel

theorem witness_loadPatch : (patching false false).executes 0 (job 0x49 false) ∧ slOp 0x49 = 0x49 ∧ (0x49 : BitVec 512).getLsbD 224 = false ∧
    (patching false false).ownerOf 0 = 0 ∧ (patching false false).seq.waiting = none ∧ (patching false false).seq.busyFor patch = false ∧
    (patching false true).seq.busyFor patch = true := by
  unfold State.executes; decide +kernel

/-- The patch waits. -/
def waiting (busy : Bool) (t : Nat) : State :=
  { (patching true busy).upSeq (fun q => { q with waiting := some { p := { placed with img := { patch with wrappedFor := [], signer := 0 } }, entries := [], slateCh := 0, since := 0 } }) with
    now := t }

theorem witness_commit : (waiting false 0).executes 0 (job 0x49 true) ∧ (waiting false 0).seq.waiting.isSome = true ∧
    ((waiting false 0).seq.waiting.map (fun c => (waiting false 0).seq.busyFor c.p.img)) = some false ∧
    ((waiting true 0).seq.waiting.map (fun c => (waiting true 0).seq.busyFor c.p.img)) = some true ∧
    ((waiting true 10000000).seq.waiting.map (fun c => decide (c.since + 10000000 ≤ (waiting true 10000000).now))) = some true := by
  unfold State.executes; decide +kernel

/-- An image in force with no program and no scripts. -/
def inForce : Placed := { placed with img := { image with kind := 1, domain := 0, signer := Config.provisioned 384 5, prog := [], paths := [] } }

/-- Channel 0 executes RELOAD_VERIFY. -/
def verifying : State := (admin 0x4A false (one .opened)).upSeq (fun q => { q with images := [inForce] })

theorem witness_reloadVerify : verifying.seq.images = [inForce] ∧ verifying.keep.rejudge inForce.img = none ∧ inForce.img.dir = [] ∧
    inForce.img.prog = [] ∧ slOp 0x4A = 0x4A := by
  refine ⟨rfl, ?_, rfl, rfl, by decide +kernel⟩
  have h : inForce.img.wrappedFor.contains deviceIdent = true := by simp [inForce, image]
  have h2 : ({ verifying.keep with floors := [] } : Keep).wrongSigner inForce.img = false := by unfold Keep.wrongSigner; simp [inForce]
  unfold Keep.rejudge Keep.judge
  rw [h, h2]
  decide +kernel

/-- Two words of program that an image in force holds. -/
def verifyingTwo : State :=
  (admin 0x4A false (one .opened)).upSeq (fun q => { q with images := [{ inForce with img := { inForce.img with prog := [1, 2] }, pbase := 7 }] })

/-- LOAD_PATCH and RELOAD_VERIFY are for function 0's channels. -/
def patchElsewhere (op : BitVec 512) : State := (user1 op false .opened).upHost (fun h => { h with base := [(1, 1)], count := [(1, 1)] })

/-- A LOAD_PATCH while another waits. -/
def secondPatch : State :=
  (admin 0x49 false (one .opened)).upSeq (fun q => { q with waiting := some { p := placed, entries := [], slateCh := 0, since := 0 } })

theorem witness_patchRefused : (patchElsewhere 0x49).executes 1 (job 0x49 false) ∧ (patchElsewhere 0x49).ownerOf 1 ≠ 0 ∧
    (patchElsewhere 0x4A).executes 1 (job 0x4A false) ∧ slOp 0x4A = 0x4A ∧ verifyingTwo.executes 0 (job 0x4A false) ∧
    countDiffer 0 verifyingTwo.sys.pmem 7 [1, 2] = 2 ∧ verifying.executes 0 (job 0x4A false) ∧
    (admin 0x4A false (one .opened)).seq.images = [] ∧ secondPatch.executes 0 (job 0x49 false) ∧
    secondPatch.seq.waiting.isSome = true := by
  unfold State.executes; decide +kernel

theorem witness_setMode : (admin 0x46 false (one .opened)).executes 0 (job 0x46 false) ∧ (admin 0x46 false (one .opened)).ownerOf 0 = 0 ∧
    slOp (slate 0x4C) = 0x4C ∧ (1 : BitVec 18) ≠ 0 ∧ slOp 0x46 = 0x46 ∧ (fld (0x46 : BitVec 512) 136 2 : BitVec 2) ≠ 3 ∧ up.gaf.own = up.gaf.mode ∧
    (admin (slate 0x4C) false (one .opened)).executes 0 (job (slate 0x4C) false) ∧ (admin (slate 0x4C) false (one .opened)).targets 0 (slate 0x4C) 1 := by
  unfold State.executes State.targets; decide +kernel

/-- SET_RANGE of VF 1: the last 4 indices. -/
def range : BitVec 512 := putFld (putFld (putFld (0x4D : BitVec 512) 128 (1 : BitVec 8)) 160 (262140 : BitVec 32)) 192 (4 : BitVec 32)

theorem witness_setRange : (admin range false (one .opened)).executes 0 (job range false) ∧ slOp range = 0x4D ∧ slNum range 16 1 = 1 ∧
    (admin range false (one .opened)).rangeBad range = none ∧ Tab.wf 0 up.host.base = true ∧ Tab.wf 0 up.host.count = true ∧ Tab.wf 0 up.host.dom = true := by
  unfold State.executes; decide +kernel

/-- ATTEST or LOG_READ with a buffer of 1 MiB. -/
def buffer (op : BitVec 512) : BitVec 512 := putFld op 192 (1048576 : BitVec 32)

theorem witness_logAndAttest : (admin (buffer 0x4B) false (one .opened)).executes 0 (job (buffer 0x4B) false) ∧ slOp (buffer 0x4B) = 0x4B ∧
    (buffer 0x4B).getLsbD 288 = false ∧ slOp (buffer 0x48) = 0x48 ∧ (inLc .deployed).keep.mute = false ∧ up.keep.mute = true := by
  unfold State.executes; decide +kernel

/-- A management slate for the port byte b: the last CoaXPress link, the last Ethernet port. -/
def mgmt (op b : BitVec 8) : BitVec 512 := putFld (putFld (op.setWidth 512) 128 b) 160 (12 : BitVec 32)

/-- Channel 1, admin-capable, executes it; the ports are up. -/
def managing (x : BitVec 512) (w : Bool) : State :=
  ((user1 x w .opened).upIng (fun i => { i with ports := [(63, { Port.reset with cfg := 0x20000000, up := true }), (79, { Port.reset with cfg := 0x20000000, up := true })] }))

theorem witness_management : (managing (mgmt 0x4E 0x5F) false).executes 1 (job (mgmt 0x4E 0x5F) false) ∧ mgmtPort (mgmt 0x4E 0x5F) = some 63 ∧
    mgmtPort (mgmt 0x4E 0x8F) = some 79 ∧ slNum (mgmt 0x4E 0x5F) 20 4 ≤ 9018 ∧ (managing (mgmt 0x4E 0x5F) false).receives 63 = true ∧
    (managing (mgmt 0x4E 0x5F) false).receives 79 = true ∧ slOp (mgmt 0x4F 0x5F) = 0x4F ∧ (1 : BitVec 18) ≠ 0 ∧
    Tab.wf Port.reset (managing (mgmt 0x4E 0x5F) false).ing.ports = true := by
  unfold State.executes; decide +kernel

theorem witness_managementRx : (fld (mgmt 0x50 0x5F) 160 32 : BitVec 32).toNat ≤ 12 ∧
    slNum (putFld (mgmt 0x50 0x5F) 136 (2 : BitVec 8)) 17 1 = 2 ∧ slNum (mgmt 0x50 0x8F) 17 1 = 0 ∧
    (fld (mgmt 0x50 0x8F) 160 32 : BitVec 32) ∉ ((managing (mgmt 0x50 0x8F) false).sport 79).groups ∧
    (managing (mgmt 0x4F 0x5F) true).receiverOf (slNum (mgmt 0x4F 0x5F) 16 1) = some (1, job (mgmt 0x4F 0x5F) true) ∧
    slNum (mgmt 0x4F 0x5F) 16 1 = 64 + (31 : BitVec 5).toNat ∧ (managing (mgmt 0x4F 0x5F) true).hostRole 31 = true ∧
    (managing (mgmt 0x4F 0x8F) true).receiverOf (slNum (mgmt 0x4F 0x8F) 16 1) = some (1, job (mgmt 0x4F 0x8F) true) ∧
    slNum (mgmt 0x4F 0x8F) 16 1 = 128 + (15 : BitVec 4).toNat ∧ isPause (List.replicate 60 0) = false ∧
    ((managing (mgmt 0x4F 0x8F) true).sport 79).ip ≠ 7 ∧ (List.replicate 9014 (0 : Byte)).length + 4 ≤ 9018 ∧
    ((managing (mgmt 0x50 0x8F) false).sport 79).groups.length < 16 := by decide +kernel

theorem natBytes_length (n v : Nat) : (natBytes n v).length = n := by
  induction n generalizing v with
  | zero => rfl
  | succ n ih => simp [natBytes, ih]

theorem chainBytes_length (cert : List Byte) (m1 m2 m6 : BitVec 384) : (chainBytes cert m1 m2 m6).length = chainLen := by
  simp [chainBytes, natBytes_length]

/-- A report is shorter than the buffer. -/
theorem witness_attest (sig : List Byte) (h : sig.length = 96) : ((inLc .deployed).attestBody 0 ++ sig).length ≤ slNum (buffer 0x48) 24 4 := by
  have l : (inLc .deployed).chain.length ≤ 3072 := by
    unfold State.chain; rw [chainBytes_length]; unfold chainLen; omega
  simp only [State.attestBody, List.length_append, natBytes_length, h, List.length_flatMap, List.length_cons, List.length_nil]
  have e : slNum (buffer 0x48) 24 4 = 1048576 := by decide +kernel
  have m : (List.map (fun _ : Nat => 16 + 48) (List.range 10)).sum = 640 := by decide
  omega

/-! ## Witnesses: registers and sensor ingest -/

theorem witness_registers_read : up.err.armed = none ∧ Tab.wf none up.host.halves = true ∧ Tab.wf 0 up.host.badAcc = true ∧ Tab.wf 0 up.host.lastStat = true ∧
    up.ready 0 = true ∧ (fld (150 : BitVec 64) 0 8 : BitVec 8).toNat ≤ 150 ∧ 150 < (fld (151 : BitVec 64) 0 8 : BitVec 8).toNat ∧
    State.reset.ready 0 = false ∧ (0x1FFFFFF : BitVec 25).toNat % 8 ≠ 0 ∧ (0x1FFFFFE : BitVec 25).toNat % 4 ≠ 0 ∧ (63 : BitVec 6) ≠ 0 ∧
    (up.upCrew (fun c => { c with remote := false })).crew.remote = false := by decide +kernel

theorem witness_registers_written : up.ready 9 = true ∧ (0x100 : BitVec 64).getLsbD 8 = true ∧ up.paired = false ∧
    Tab.wf Chan.free up.host.chans = true ∧ up.ready 1 = true ∧ (up.mesh.router 17).pend = false ∧ (up.mesh.router 17).oldlive = false ∧
    Tab.wf 0 up.mesh.rts = true ∧ up.ready 4 = true ∧ Tab.wf MsixVec.reset up.host.msix = true ∧ up.host.msixPend = [] ∧
    Tab.get none up.host.halves 0 = none ∧ up.dir.run ≠ .held := by decide +kernel

/-- A CFGW packet that writes entry d of the routing table of router r. -/
def routeWrite (r d v : Nat) : Packet :=
  { Packet.make 7 r 0 0 8 (8 * d % 64) 0 (0x100100 + 1024 * r + 8 * d) 0 with data := BitVec.ofNat 512 (v * 2 ^ (64 * (d % 8))) }

theorem witness_routeWrite : (routeWrite 17 23 2).type = 7 ∧ (routeWrite 17 23 2).dst = 17 ∧ (routeWrite 17 23 2).dst < 36 ∧ 23 < 36 ∧
    (endpointAt (routeWrite 17 23 2).dst (routeWrite 17 23 2).dport).isSome = true ∧
    up.mesh.niVc (routeWrite 17 23 2).dst (routeWrite 17 23 2).dport 0 = [] ∧ (routeWrite 17 23 2).addr = 0x100100 + 1024 * 17 + 8 * 23 ∧
    (routeWrite 17 23 2).lanes = (0xFF : BitVec 64) <<< (8 * 23 % 64) ∧
    routeOk (routeWrite 17 23 2).dst 23 (fld (routeWrite 17 23 2).onLanes (64 * (23 % 8)) 3) = true := by decide +kernel

/-- Ports p with EN 1, up, slot 0 taking RAW8 lines of 512 pixels from the source src, its planes within its channel's. -/
def sensing (p : Nat) (src : BitVec 32) (f : Slot → Slot) : State :=
  up.upIng (fun _ =>
    { ports := [(p, { Port.reset with cfg := 0x20000000, up := true, ip := 1 })],
      slots := [(0, f { Slot.reset with src := src, fmt := 0x04400000, place := 0x200, lim := 1, alloc := 0x4000, tokens := 2000000 })] })

theorem witness_sensorPorts : Tab.wf Port.reset (sensing 31 0 id).ing.ports = true ∧ (31 : BitVec 7).toNat < 80 ∧ ((sensing 31 0 id).sport 31).en = true ∧
    (sensing 31 0 id).sensorPll 31 = true ∧ ((sensing 31 0 id).sport 31).up = true ∧ (sensing 63 0 id).hostRole 31 = true ∧
    (sensing 63 0 id).receives 63 = true ∧ (sensing 79 0 id).receives 79 = true ∧ (1 : BitVec 32) ≠ 0 ∧
    (up.upCue (fun c => { c with ctl := 0x7F8000 })).cue.ctl.getLsbD 15 = true ∧ (sensing 31 0 id).slotsOf (csiHit 31 0 0x2A) = [] := by decide +kernel

/-- Port 31 above 1.5 Gbit/s, its lanes not yet aligned. -/
def fastPort : State := (sensing 31 0 id).upIng (fun i => { i with ports := [(31, { Port.reset with cfg := 0x20000000, up := true, fast := true })] })

theorem witness_sensorErrors : ((sensing 31 0 id).sport 31).aligned = true ∧ (sensing 31 0 id).receives 31 = true ∧
    (sensing 31 0 id).slotsOf (csiVc 31 15) = [] ∧ (fastPort.sport 31).fast = true ∧ (fastPort.sport 31).deskew = false ∧ fastPort.receives 31 = true ∧
    9014 + 4 ≤ 9018 ∧ 9018 < 9015 + 4 ∧ ((sensing 79 0 id).sport 79).ip = 1 ∧ (fld (0x7F8000 : BitVec 32) 16 8 : BitVec 8) = 0x7F ∧
    isPause [1, 2, 3, 4, 5, 6, 7, 8, 9, 10, 11, 12, 0x88, 8, 0, 1, 0, 0] = true ∧
    ((sensing 63 0 id).upIng (fun i => { i with ports := [(63, { Port.reset with cfg := 0x21000000, up := true })] })).hostRole 31 = false ∧
    ((sensing 63 0 id).upIng (fun i => { i with ports := [(63, { Port.reset with cfg := 0x21000000, up := true })] })).receives 63 = true := by
  decide +kernel

/-- A line of 512 pixels. -/
def line : List Pixel := List.replicate 512 [0x80]

theorem witness_csiLine : (sensing 31 0x9F00002A id).receives 31 = true ∧ (sensing 31 0x9F00002A id).slotsOf (csiHit 31 0 0x2A) = [0] ∧
    (sensing 31 0x9F00002A id).admits 0 ((sensing 31 0x9F00002A id).slot 0).index ∧
    ((((sensing 31 0x9F00002A id).slot 0).newJob 0).region [(0, line)]).isSome = true := by
  unfold State.admits; decide +kernel

/-- The line before it waits for its segments, or has not ended. -/
def before (time : Option (BitVec 64)) (queued : Bool) (x : Slot) : Slot :=
  { x with jobs := [{ x.newJob 0 with id := 7, time := time, queued := queued, segs := 3 }], ids := 9 }

theorem witness_csiLineAfter : (sensing 31 0x9F00002A (before (some 3) true)).admits 0 0 ∧ (sensing 31 0x9F00002A (before none false)).admits 0 0 ∧
    (∀ j ∈ ((sensing 31 0x9F00002A (before (some 3) true)).slot 0).jobs, j.time.isSome = true ∧ j.queued = true) ∧
    (∀ j ∈ ((sensing 31 0x9F00002A (before none false)).slot 0).jobs, j.time = none) ∧
    ((sensing 31 0x9F00002A (before none false)).sport 31).aligned = true := by
  unfold State.admits; decide +kernel

theorem witness_csiDrops : (sensing 31 0x9F00002A (fun x => { x with tokens := 999999 })).slotsOf (csiHit 31 0 0x2A) = [0] ∧
    ((sensing 31 0x9F00002A (fun x => { x with tokens := 999999 })).slot 0).ignores 0 = false ∧
    ((sensing 31 0x9F00002A (fun x => { x with tokens := 999999 })).slot 0).fill + 512 ≤ 16384 ∧
    ((sensing 31 0x9F00002A (fun x => { x with tokens := 999999 })).slot 0).tokens < 1000000 ∧
    lineBytes ((sensing 31 0x9F00002A id).slot 0).fmt = 512 ∧
    16384 < ((sensing 31 0x9F00002A (fun x => { x with fill := 15873 })).slot 0).fill + 512 := by decide +kernel

/-- Slot 0 within an accepted image or block of width 512. -/
def within (x : Slot) : Slot := { x with rx := { x.rx with accept := true, width := 512, height := 1, tag := some 5 } }

/-- It with link 28, which the host receives, sending on what link 31 receives. -/
def mirrored : State :=
  (sensing 63 0xBF000000 within).upIng (fun i => { i with ports := Tab.set Port.reset i.ports 60 { Port.reset with cfg := 0x21001F00, up := true } })

theorem witness_cxpLine : (sensing 63 0xBF000000 within).hostRole 31 = true ∧ (sensing 63 0xBF000000 within).receivers (cxpHit 31 0) = [(0, 0)] ∧
    (fld ((sensing 63 0xBF000000 within).slot 0).rx.src 22 2 : BitVec 2) = 0 ∧ ((sensing 63 0xBF000000 within).slot 0).rx.pos = 0 * 512 ∧ line.length = 512 ∧
    (sensing 63 0xBF000000 within).admits 0 0 ∧ ((sensing 63 0xBF000000 within).slot 0).rx.tag = some 5 ∧
    ((sensing 63 0xBF000000 within).slot 0).rx.held = [] ∧ ((sensing 63 0xBF000000 within).slot 0).rx.gap = false ∧
    0 ∉ ((sensing 63 0xBF000000 within).slot 0).rx.ended ∧ mirrored.admits 0 0 ∧ mirrored.mirrors 28 31 = true ∧
    (((sensing 63 0xBF000000 within).slot 0).newJob 0).fmt = 0x04400000 ∧ ((sensing 63 0xBF000000 id).slot 0).rx.accept = false := by
  unfold State.admits; decide +kernel

/-- The line that csiLine takes is one that an image and a block hold too. -/
theorem witness_sameLine : ((sensing 63 0xBF000000 within).slot 0).newJob 0 = ((sensing 31 0x9F00002A id).slot 0).newJob 0 ∧
    ((sensing 79 0xCF000000 within).slot 0).newJob 0 = ((sensing 31 0x9F00002A id).slot 0).newJob 0 := by decide +kernel

theorem witness_gvspLine : (sensing 79 0xCF000000 within).receives 79 = true ∧ ((sensing 79 0xCF000000 within).sport 79).accepts 1 = true ∧
    (sensing 79 0xCF000000 within).receivers (gvspHit 15 0) = [(0, 0)] ∧ (9018 : BitVec 16).toNat ≤ 9018 ∧ (sensing 79 0xCF000000 within).admits 0 0 ∧
    ((sensing 79 0xCF000000 within).slot 0).rx.accept = true := by
  unfold State.admits; decide +kernel

/-- A job of a line that is within its frame, timed, its planes written. -/
def lineJob : LineJob := { Slot.reset.newJob 0 with time := some 5, frame := 1 }

theorem witness_csiFrames : (sensing 31 0x9F00002A id).slotsOf (csiVc 31 0) = [0] ∧
    ((sensing 31 0x9F00002A (fun x => { x with frame := 1, jobs := [lineJob] })).slot 0).jobs = [lineJob] ∧ lineJob.frame = 1 ∧
    ((sensing 31 0x9F00002A (fun x => { x with frame := 1, jobs := [lineJob] })).slot 0).frame = 1 ∧ lineJob.fe = false ∧
    (sensing 31 0x9F00002A (fun x => { x with frame := 1, jobs := [lineJob] })).slotsOf (csiVc 31 0) = [0] := by decide +kernel

theorem witness_blocks : (sensing 63 0xBF000000 id).receivers (cxpHit 31 0) = [(0, 0)] ∧ ((sensing 63 0xBF000000 id).slot 0).rx.arriving = [] ∧
    ((sensing 63 0xBF000000 id).slot 0).rx.accept = false ∧ ((sensing 63 0xBF000000 id).slot 0).frame = 0 ∧
    ((sensing 63 0xBF000000 id).slot 0).rx.tag = none ∧ ((sensing 63 0xBF000000 id).slot 0).rx.held = [] ∧
    (sensing 79 0xCF000000 id).receivers (gvspHit 15 0) = [(0, 0)] ∧ (pfPfnc (ctPf ((sensing 79 0xCF000000 id).slot 0).fmt)) ≠ [] ∧
    (0 : BitVec 32) ∉ pfPfnc (ctPf ((sensing 79 0xCF000000 id).slot 0).fmt) ∧ ((sensing 79 0xCF000000 within).slot 0).rx.height = 1 ∧
    ((sensing 79 0xCF000000 within).slot 0).ignores 0 = false ∧ ((sensing 79 0xCF000000 within).slot 0).rx.ended = [] ∧
    ((sensing 79 0xCF000000 within).slot 0).jobs = [] ∧ ((sensing 79 0xCF000000 within).slot 0).lastRec = none := by decide +kernel

/-- Slot 63 with the job j, a copy in progress. -/
def recording : State :=
  up.upIng (fun i => { i with slots := [(63, { Slot.reset with jobs := [lineJob], copying := some (0x3FFFF, [1]) })] })

theorem witness_lineRecords : recording.paired = false ∧ Tab.wf Slot.reset recording.ing.slots = true ∧ (recording.slot (63 : BitVec 6).toNat).jobs = lineJob :: [] ∧
    lineJob.noticed = false ∧ lineJob.time.isSome = true ∧ lineJob.segs = 0 ∧ recording.dir.run ≠ .held ∧
    (recording.slot (63 : BitVec 6).toNat).copying = some (0x3FFFF, [1]) ∧ secureLine (0x3FFFF / 16384) (0x3FFFF % 16384) = false ∧
    recording.banks.wrote = [] ∧ 14 ≤ 0x3FFFF / 16384 ∧ secureLine 11 0 = false ∧ (180224 : Nat) / 16384 = 11 ∧ reelChan 11 0 < 262144 := by
  decide +kernel

/-! ## Witnesses: the crew -/

/-- Port 15 up with what f adds. -/
def crewed (f : CrewPort → CrewPort) (g : Crew → Crew) : State :=
  up.upCrew (fun c => g { c with ports := [(15, f { CrewPort.reset with up := true })] })

/-- A frame of type ty with header bits h, next in order on a port with nothing received. -/
def frame (ty : BitVec 4) (h : BitVec 124) (ws : List (BitVec 32)) : Frame :=
  { hdr := (ty ++ h) ||| (BitVec.ofNat 128 ws.length <<< 68), payload := ws, crcOk := true }

/-- Its cells, alone on the link; with the first byte of its CRC wrong. -/
def cells (ty : BitVec 4) (h : BitVec 124) (ws : List (BitVec 32)) : Wire := (frame ty h ws).wire false
def broken (ty : BitVec 4) (h : BitVec 124) : Wire :=
  { cells ty h [] with cells := (cells ty h []).cells.map (fun c => { c with bytes := c.bytes ^^^ (1#256 <<< 128) }) }

theorem test_wire_reads : (cells 2 (7#124 <<< 112) [0x01020304, 5, 6, 7, 8]).frame = frame 2 (7#124 <<< 112) [0x01020304, 5, 6, 7, 8] ∧
    (broken 2 0).frame.crcOk = false ∧ (cells 2 0 [0x01020304, 5, 6, 7, 8]).cells.length = 2 := by decide +kernel

/-- Edge 3 enabled on port 15, a send of its slot 7 queued after entry 5. -/
def halo (n : Nat) : State :=
  crewed id (fun c => { c with hxmap := 0x8F000000, sends := [{ edge := 3, slot := 7, plane := 3071, serial := n, snap := none }] })

theorem witness_crewOpcodes : up.issuesAlone ∧ up.dir.priv = true ∧ up.err.armed = none ∧ up.crew.hxmap.getLsbD 7 = false ∧
    ((up.upCrew (fun c => { c with grp := [(0, 0x80010000)] })).grpReg 0).msb = true ∧ (up.group 0).armed = none ∧ (3 : BitVec 2) ≠ 0 ∧
    (up.group 0).early = none ∧ ((up.upGroup 0 (fun x => { x with early := some (1, ⟨true, false, 1⟩) })).group 0).early = some ((up.group 0).round + 1, ⟨true, false, 1⟩) ∧
    Tab.wf Group.reset up.crew.groups = true ∧ (up.grpReg 15).msb = false ∧ ((up.upGroup 15 (fun x => { x with res := some (9, { or := true, fail := false, count := 1 }) })).group 15).res =
      some (9, { or := true, fail := false, count := 1 }) ∧ (up.group 15).res = none := by
  unfold State.issuesAlone State.issues; decide

theorem witness_haloStrips : (halo 5).crew.sends = { edge := 3, slot := 7, plane := 3071, serial := 5, snap := none } :: [] ∧
    (fld (halo 5).crew.hxmap (8 * 3) 4 : BitVec 4) = 15 ∧ Tab.wf 0 (halo 5).crew.hxNum = true ∧
    ((halo 5).upSeq (fun q => { q with queue := [{ entry .script 16 with order := 4 }] })).seq.pastPoint 5 = false ∧ (halo 5).seq.pastPoint 5 = true ∧
    (up.port 15).up = false ∧ (up.portCount 15 3).toNat + 4 < 4294967296 := by
  decide +kernel

theorem witness_haloLinked : (halo 5).linked 15 ∧ ((halo 5).port 15).replay = [] ∧ ((halo 5).port 15).used = [] ∧ (halo 5).arr.poison = [] := by
  unfold State.linked; decide +kernel

theorem witness_haloStrip : (halo 5).arr.badSegs ({ edge := 3, slot := 7, plane := 3071, serial := 5, snap := none } : HxSend).plane.toNat (stripPes 3) = [] := by
  have h : (halo 5).arr.poison = [] := witness_haloLinked.2.2.2
  simp [Arr.badSegs, h]

theorem witness_crewLinks : (up.port 15).up = false ∧ (up.port 15).txq = [] ∧ up.mayTrain 15 = true ∧ up.host.evq.length < 64 ∧
    Tab.wf CrewPort.reset up.crew.ports = true ∧ State.reset.mayTrain 15 = false ∧
    ((crewed id id).port 15).up = true ∧ Tab.wf 0 up.crew.cnt = true ∧ up.ready 6 = true ∧ (up.upCrew (fun c => { c with bypOpen := !c.bypState })).crew.bypState ≠
      (up.upCrew (fun c => { c with bypOpen := !c.bypState })).crew.bypOpen := by decide +kernel

/-- A frame of send slot 31 that waits for its acknowledgement, replayed n times. -/
def unacked (n : Nat) : Replay := { f := frame 6 0 [], first := 0, sent := 0, replays := n, withheld := false, bad := false, slot := some 0x1FF }

theorem witness_crewRetry : (crewed (fun q => { q with replay := [unacked 3] }) id).linked 15 ∧
    ((crewed (fun q => { q with replay := [unacked 3] }) id).port 15).replay = unacked 3 :: [] ∧ (unacked 3).bad = false ∧ (unacked 3).withheld = false ∧
    (unacked 3).slot = some ((15 : BitVec 4) ++ (31 : BitVec 5)) ∧ (unacked 3).replays < 4 ∧ 4 ≤ (unacked 4).replays ∧
    (unacked 3).sent + 2000 ≤ ({ up with now := 19999 } : State).now ∧ ({ up with now := 19999 } : State).now < (unacked 3).first + 20000 ∧
    up.now < (unacked 3).sent + 2000 ∧ Tab.wf 0 (up.port 15).used = true ∧ Tab.wf 0 (up.port 15).freed = true ∧ Tab.wf 0 (up.port 15).sendSt = true := by
  unfold State.linked; decide +kernel

/-- Send slot 31 of port 15 holds a frame of type ty to address 7; the port is up when u. -/
def slotted (ty : BitVec 4) (u : Bool) (g : Crew → Crew) : State :=
  crewed (fun q => { q with up := u, sendBuf := Tab.set 0 (Tab.set 0 [] (31 * 1024 + 15) (ty ++ (0#4))) (31 * 1024 + 14) 7 }) g

theorem witness_sendSlots : Tab.get 0 ((crewed (fun q => { q with sendSt := [(31, 1)] }) id).port 15).sendSt (31 : BitVec 5).toNat = 1 ∧
    Tab.get 0 ((slotted 2 true id).port 15).sendSt (31 : BitVec 5).toNat ≠ 1 ∧ Tab.wf 0 ((slotted 2 true id).port 15).sendSt = true ∧
    ((slotted 2 true id).slotFrame (Frame.read (((slotted 2 true id).port 15).slotBytes 31))).type = 2 ∧ ((slotted 2 false id).port 15).up = false ∧
    (slotted 2 true id).linked 15 ∧ (slotted 2 true id).room 15 ((slotted 2 true id).slotFrame (Frame.read (((slotted 2 true id).port 15).slotBytes 31))) := by
  unfold State.linked State.room; decide +kernel

/-- A message of the device with address 7 to itself; one by an entry that names port 0, up or not. -/
def toSelf : State := slotted 1 true (fun c => { c with addr := 0x80000007 })
def routed (e : BitVec 8) : State := slotted 1 true (fun c => { c with rtc := [(7, e)], ports := (0, { CrewPort.reset with up := true }) :: c.ports })

theorem witness_sendMessages : toSelf.crew.addr.msb = true ∧
    (toSelf.slotFrame (Frame.read ((toSelf.port 15).slotBytes 31))).dst = fld toSelf.crew.addr 0 8 ∧
    (toSelf.slotFrame (Frame.read ((toSelf.port 15).slotBytes 31))).type = 1 ∧ (routed 0x80).crew.addr.msb = false ∧
    (Tab.get 0 (routed 0).crew.rtc 7).msb = false ∧ (Tab.get 0 (routed 0x80).crew.rtc 7).msb = true ∧
    ((routed 0x80).slotFrame (Frame.read (((routed 0x80).port 15).slotBytes 31))).dst = 7 ∧ ((routed 0x80).port 0).up = true := by decide +kernel

/-- Port 15 is the parent in the crew's time tree, or the device the master. -/
def timed (master : Bool) (g : Crew → Crew) : State :=
  (crewed (fun q => { q with delaySent := 1 }) (fun c => g { c with tparent := 15, tmaster := master, sync := true })).upCue (fun c => { c with ctl := 0x80000000 })

theorem witness_crewTime : (timed false id).linked 15 ∧ (timed false id).followsCrew = true ∧ (timed false id).crew.tparent = 15 ∧
    (timed false id).crew.tmaster = false ∧ (timed false id).everyDue 64000 (timed false id).crew.delayAt = true ∧
    (timed false (fun c => { c with delayAt := 1 })).everyDue 64000 1 = false ∧ ((timed false id).port 15).delaySent ≠ 0 ∧
    (timed false id).crew.sync = true ∧ (timed true id).crew.tmaster = true ∧ (timed true id).everyDue 1000 (timed true id).crew.timeSent = true ∧
    (timed true (fun c => { c with timeSent := 1 })).everyDue 1000 1 = false ∧ (∀ q, q ≠ 15 → ((timed true id).port q).up = false) ∧
    Tab.get 0 ((timed true id).port 15).used 4 < 16 ∧ (timed false id).accepts 5 15 (cells 5 (0x3#124 <<< 78) [1, 2]) := by
  unfold State.accepts State.linked; decide +kernel

theorem witness_crewFrameChecks : (crewed id id).linked 15 ∧ (broken 10 0).frame.crcOk = false ∧ (cells 7 (1#124 <<< 84) []).frame.type = 7 ∧
    (cells 7 (1#124 <<< 84) []).frame.lseq ≠ ((crewed id id).port 15).rxSeq ∧ ((crewed id id).port 15).naked = false ∧
    (cells 10 (1#124 <<< 80) []).frame.lseq = ((crewed id id).port 15).rxSeq ∧ (cells 10 (1#124 <<< 80) []).frame.malformed false = true ∧
    (cells 15 0 []).frame.oddType false = true ∧ (cells 15 0 []).frame.malformed false = true ∧
    ((frame 3 (1#124 <<< 84) [0]).wire true).inside = true ∧ ((frame 3 (1#124 <<< 84) [0]).wire true).frame = frame 3 (1#124 <<< 84) [0] ∧
    (frame 3 (1#124 <<< 84) [0]).lseq = ((crewed id id).port 15).rxSeq + 1 ∧ (frame 3 (1#124 <<< 84) [0]).inserts = true := by
  unfold State.linked; decide +kernel

/-- Port 15 receives messages for address 7. -/
def addressed : State := crewed id (fun c => { c with addr := 0x80000007, rtc := [(0, 0x80)], ports := (0, { CrewPort.reset with up := true }) :: c.ports })

theorem witness_crewMessages : (crewed id id).accepts 1 15 (cells 1 0 []) ∧ (crewed id id).crew.addr.msb = false ∧ addressed.accepts 1 15 (cells 1 0 []) ∧
    addressed.crew.addr.msb = true ∧ (cells 1 0 []).frame.dst ≠ fld addressed.crew.addr 0 8 ∧ (cells 1 0 []).frame.ttl = 0 ∧
    addressed.accepts 1 15 (cells 1 (0x2000001#124 <<< 96) []) ∧ (cells 1 (0x2000001#124 <<< 96) []).frame.ttl ≠ 0 ∧
    addressed.crew.tableOf (cells 1 (0x2000001#124 <<< 96) []).frame.epoch = none := by
  unfold State.accepts State.linked; decide +kernel

theorem witness_crewForwards : addressed.accepts 1 15 (cells 1 (0x01#124 <<< 96) []) ∧
    addressed.crew.tableOf (cells 1 (0x01#124 <<< 96) []).frame.epoch = some [(0, 0x80)] ∧ (Tab.get 0 [(0, (0x80 : BitVec 8))] 0).msb = true ∧
    (Tab.get 0 [(0, (0x80 : BitVec 8))] 1).msb = false ∧ (addressed.port 0).up = true ∧ addressed.accepts 1 15 (cells 1 (7#124 <<< 112) []) ∧
    (cells 1 (7#124 <<< 112) []).frame.dst = fld addressed.crew.addr 0 8 ∧ Tab.get none addressed.crew.wins 0 = none ∧
    Tab.get none (addressed.port 15).recv 0 = none ∧ Tab.wf none (addressed.port 15).recv = true ∧ addressed.dir.run ≠ .held := by
  unfold State.accepts State.linked; decide +kernel

theorem witness_crewStrips : (crewed id id).accepts 2 15 (cells 2 0 []) ∧ (crewed id id).crew.edgeOf 15 = none ∧ (halo 5).accepts 2 15 (cells 2 0 []) ∧
    (halo 5).crew.edgeOf 15 = some 3 ∧ (halo 5).ready 11 = true ∧ (crewed id id).accepts 6 15 (cells 6 0 []) ∧
    setBit (0 : BitVec 4) 0 true ≠ 0xF ∧ ((halo 5).upCrew (fun c => { c with hxParts := [(24, (0, 0xE))] })).accepts 2 15 (cells 2 0 []) ∧
    setBit (0xE : BitVec 4) 0 true = 0xF := by
  unfold State.accepts State.linked; decide +kernel

/-- Group 15 of parent port 15 in round 3, in progress since ns 0. -/
def inRound (f : Group → Group) : State :=
  (crewed id (fun c => { c with grp := [(15, 0xBC010000)] })).upGroup 15 (fun x => f { x with round := 3, since := 1 })

/-- A reduction frame of group 15 in round r. -/
def red (ty : BitVec 4) (r : BitVec 16) : Wire := cells ty (((15 : BitVec 4) ++ r ++ (0#14)).setWidth 124) [0x80000005]

theorem witness_crewRounds_up : (inRound id).accepts 3 15 (red 3 5) ∧ (fld (red 3 5).frame.tsf 14 16 : BitVec 16) ≠ ((inRound id).group (fld (red 3 5).frame.tsf 30 4)).round ∧
    (fld (red 3 5).frame.tsf 14 16 : BitVec 16) ≠ ((inRound id).group (fld (red 3 5).frame.tsf 30 4)).round + 1 ∧ (inRound id).accepts 3 15 (red 3 3) ∧
    (fld (red 3 3).frame.tsf 14 16 : BitVec 16) = ((inRound id).group (fld (red 3 3).frame.tsf 30 4)).round ∧
    ((inRound id).group (fld (red 3 3).frame.tsf 30 4)).own = none ∧ Tab.wf Group.reset (inRound id).crew.groups = true := by
  unfold State.accepts State.linked; decide +kernel

theorem witness_crewRounds_down : (inRound id).accepts 4 15 (red 4 3) ∧ (inRound id).accepts 4 15 (red 4 4) ∧ (fld (red 4 3).frame.tsf 30 4 : BitVec 4) = 15 ∧
    (fld ((inRound id).grpReg 15) 26 4 : BitVec 4) = 15 ∧ ((inRound id).grpReg 15).getLsbD 30 = false ∧
    (fld (red 4 3).frame.tsf 14 16 : BitVec 16) = ((inRound id).group 15).round ∧ (fld (red 4 4).frame.tsf 14 16 : BitVec 16) = ((inRound id).group 15).round + 1 ∧
    ((inRound id).group 15).since ≠ 0 ∧ ((inRound (fun x => { x with res := none })).upGroup 15 (fun x => { x with since := 0 })).accepts 4 15 (red 4 3) ∧
    grpChildren ((inRound id).grpReg 15) = [] ∧ (redOf (red 4 3).frame).fail = false ∧ Tab.get none (inRound id).crew.grpNext 15 = none := by
  unfold State.accepts State.linked; decide +kernel

theorem witness_crewRounds_parent : (crewed id id).accepts 4 15 (red 4 3) ∧ 15 ≠ (fld ((crewed id id).grpReg (fld (red 4 3).frame.tsf 30 4)) 26 4 : BitVec 4) := by
  unfold State.accepts State.linked; decide +kernel

theorem witness_crewEpochs : up.ready 6 = true ∧ up.crew.oldlive = false ∧ (up.upCrew (fun c => { c with oldlive := true, released := true })).crew.oldlive = true ∧
    (up.upCrew (fun c => { c with stby := true })).crew.stby = true ∧ up.crew.stby = false ∧
    (up.upCrew (fun c => { c with oldlive := true, released := true })).crew.released = true ∧ (∀ p : BitVec 4, (up.port p).txq = []) ∧ up.crew.transit = [] ∧
    ({ src := 0, dst := 1, tag := 0, epoch := 0, words := 0, slot := none, segs := [] } : Transit).epoch =
      (crewed id (fun c => { c with cur := 1, oldlive := true })).crew.cur - 1 ∧
    (frame 1 0 [], none) ∈ ((crewed (fun q => { q with txq := [(frame 1 0 [], none)] }) (fun c => { c with cur := 1, oldlive := true })).port 15).txq ∧
    (frame 1 0 []).epoch = (crewed id (fun c => { c with cur := 1 })).crew.cur - 1 := by decide +kernel

theorem witness_crewRounds : (fld (0x10000 : BitVec 32) 16 6 : BitVec 6) ≠ 0 ∧ (up.group 15).since = 0 ∧ ((inRound id).grpReg 15).msb = true ∧
    ((inRound id).group 15).since ≠ 0 ∧ (fld (0x8000FFFF : BitVec 32) 16 6 : BitVec 6) = 0 ∧
    ((inRound (fun x => { x with armed := some (3, 1, 0), entry := some 7 })).group 15).armed = some (3, 1, 0) ∧
    ((inRound (fun x => { x with armed := some (3, 1, 0), entry := some 7 })).group 15).entry = some 7 ∧ (inRound id).seq.run = none ∧
    (inRound id).seq.queue = [] ∧ (inRound id).seq.park = [] ∧ ((inRound id).group 15).readyOr ≤ (inRound id).seq.cyc ∧
    ((inRound id).group 15).readyTally ≤ (inRound id).seq.cyc ∧ (inRound id).contributes ((inRound id).group 15) 3 7 = true ∧
    ((inRound id).upSeq (fun q => { q with queue := [{ entry .script 16 with serial := 7 }] })).contributes ((inRound id).group 15) 3 7 = false ∧
    grpChildren (((inRound id).upCrew (fun c => { c with grp := [(15, 0xBC018000)] })).grpReg 15) ≠ [] ∧ ((inRound id).group 15).kids = [] ∧
    ((inRound id).group 15).since + (inRound id).grpTmo 15 ≤ ({ inRound id with now := 10000 } : State).now + 1 ∧
    (inRound id).now + 1 < ((inRound id).group 15).since + (inRound id).grpTmo 15 ∧ Tab.wf 0 (inRound id).crew.grp = true ∧
    Tab.wf none (inRound id).crew.grpNext = true ∧ Tab.wf Group.reset (inRound id).crew.groups = true := by decide +kernel

/-- The scan with number 1, of this device or of one with identifier 0, and what this device's own collects. -/
def scan (mine : Bool) : Scan := { ident := 0, num := 1, mine := mine, parent := 0, hops := 1, from_ := 0, since := 0 }
def own : OwnScan := { num := 1, ch := some 0, lastIdent := 0, records := [], loading := false, due := [], swapped := 0 }

/-- A device that takes part in it, with a frame due on port 15; the scanner. -/
def scanning (up0 : Bool) : State :=
  crewed id (fun c => { c with scan := some (scan false), ports := if up0 then (0, { CrewPort.reset with up := true }) :: c.ports else c.ports })
def scanner : State := crewed id (fun c => { c with scan := some (scan true), own := some own })

theorem witness_crewScan : (admin 0x47 false (one .opened)).executes 0 (job 0x47 false) ∧ slOp 0x47 = 0x47 ∧ (admin 0x47 false (one .opened)).ownerOf 0 = 0 ∧
    (admin 0x47 false (one .opened)).scanning = none ∧ (∀ q, ((admin 0x47 false (one .opened)).port q).up = false) ∧
    ((admin 0x47 true (one .opened)).upCrew (fun c => { c with own := some own })).executes 0 (job 0x47 true) ∧ own.ch = some 0 ∧
    up.now < own.lastIdent + 1000000 ∧ own.lastIdent + 1000000 ≤ ({ up with now := 1000000 } : State).now ∧ slNum (0x47 : BitVec 512) 24 4 = 0 := by
  unfold State.executes; decide +kernel

theorem witness_crewScanDenied : ((admin 0x47 false (one .opened)).upCrew (fun c => { c with scan := some (scan false) })).scanning = some (scan false) ∧
    ((admin 0x47 false (one .opened)).upCrew (fun c => { c with scan := some (scan false) })).executes 0 (job 0x47 false) ∧ (scan false).mine = false := by
  unfold State.executes; decide +kernel

theorem witness_crewDiscovery : (scanning false).accepts 7 15 (cells 7 1 [0, 0, 0, 0]) ∧ (scan false).ident = BitVec.ofNat 128 (frameNat (cells 7 1 [0, 0, 0, 0]).frame 0 4) ∧
    (scan false).num = fld (cells 7 1 [0, 0, 0, 0]).frame.tsf 0 16 ∧ (crewed id id).accepts 7 15 (cells 7 1 [0, 0, 0, 0]) ∧ (crewed id id).crew.scan = none ∧
    scanner.accepts 8 15 (cells 8 1 []) ∧ own.num = fld (cells 8 1 []).frame.tsf 0 16 ∧ own.loading = false ∧ scanner.accepts 10 15 (cells 10 1 []) := by
  unfold State.accepts State.linked; decide +kernel

theorem witness_crewPassing : (scanning false).accepts 8 15 (cells 8 1 []) ∧ (scanning true).accepts 10 15 (cells 10 1 []) ∧ (scanning false).crew.own = none ∧
    (scan false).parent ≠ 15 ∧ ((scanning false).port 0).up = false ∧ ((scanning true).port 0).up = true ∧ (scan false).from_ = 0 ∧
    (scanning false).accepts 9 15 (cells 9 1 [0xFFFFFFFF, 0xFFFFFFFF, 0xFFFFFFFF, 0xFFFFFFFF, 5, 0x01200000]) ∧
    BitVec.ofNat 128 (frameNat (cells 9 1 [0xFFFFFFFF, 0xFFFFFFFF, 0xFFFFFFFF, 0xFFFFFFFF, 5, 0x01200000]).frame 0 4) = BitVec.allOnes 128 ∧
    (cells 9 1 [0xFFFFFFFF, 0xFFFFFFFF, 0xFFFFFFFF, 0xFFFFFFFF, 5, 0x01200000]).frame.word 5 = 0x01200000 ∧
    (up.upCrew (fun c => { c with remote := false })).crew.remote = false := by
  unfold State.accepts State.linked; decide +kernel

/-- A frame for any device but this one names some other identifier. -/
theorem witness_crewMgt : ∃ w : Wire, (scanning false).accepts 9 15 w ∧ BitVec.ofNat 128 (frameNat w.frame 0 4) ≠ (scanning false).crewIdent ∧
    BitVec.ofNat 128 (frameNat w.frame 0 4) ≠ BitVec.allOnes 128 ∧ (scan false).num = fld w.frame.tsf 0 16 := by
  by_cases h : (scanning false).crewIdent = 0
  · refine ⟨cells 9 1 [1, 0, 0, 0], ?_, ?_, by decide +kernel, by decide +kernel⟩
    · unfold State.accepts State.linked; decide +kernel
    · rw [h]; decide +kernel
  · refine ⟨cells 9 1 [0, 0, 0, 0], ?_, ?_, by decide +kernel, by decide +kernel⟩
    · unfold State.accepts State.linked; decide +kernel
    · intro e; apply h; rw [← e]; decide +kernel

/-! ## Witnesses: Double mode -/

/-- A member in state st, lead or mate, under FAILOVER or SAFE, with what f adds. -/
def member (st : PairSt) (mate failover : Bool) (f : Pair → Pair) : State :=
  (crewed id id).upPair (fun p => f { p with st := st, ctl := (if mate then 0xC0000000 else 0x80000000) + (if failover then 0x10000000 else 0) })

theorem witness_pairJoin : (0x9C000000 : BitVec 32).msb = true ∧ (0x9C000000 : BitVec 32).getLsbD 29 = false ∧ up.ready 6 = true ∧ up.pair.st = .solo ∧
    (idle 0).othersOpen = true ∧ (member .paired false false id).pair.st = .paired ∧
    (up.upPair (fun p => { p with st := .joining })).pair.st = .joining ∧ (up.port 15).up = false ∧
    (up.upPair (fun p => { p with st := .joining })).pair.since + 1000000 ≤ ({ up with now := 1000000 } : State).now ∧
    up.now < up.pair.since + 1000000 ∧ (member .joining false false (fun p => { p with ts := 1 })).pair.ts ≠ 0 ∧
    (1 : BitVec 64) ≤ ((up.upCue (fun c => { c with tb := 0x10000000000 })).tbNow) := by decide +kernel

/-- The partner's HELLO, as a member of this role would want it. -/
def hello (mate : Bool) (s : State) : Hello := { ident := 0, mate := mate, digest := s.pairDigest, refclk := 10000, lc := s.keep.lc.code, refused := false, ts := 5 }

/-- The link side of the next PAIR frame on a port with nothing received. -/
def nextPair : PairLink := { lseq := 0, num := 0, cells := 2, crcOk := true }

theorem witness_pairFrames : (member .joining true false id).pairAccepts nextPair ∧ (member .paired false true id).pairAccepts nextPair ∧
    nextPair.num = (member .joining true false id).pair.rxNum ∧ nextPair.num = (member .paired false true id).pair.rxNum ∧
    { nextPair with num := 1 }.num ≠ (member .paired true false id).pair.rxNum ∧ (member .paired true false id).pairAccepts { nextPair with num := 1 } ∧
    (member .paired false false id).pairIdle := by
  unfold State.pairAccepts State.pairIdle; decide +kernel

theorem witness_helloRefuses : ((member .joining true false id).upHost (fun h => { h with chans := [(5, one .opened)] })).othersOpen = true ∧
    false ≠ (member .joining true false id).pair.ctl.getLsbD 30 := by decide +kernel

theorem witness_helloFails : (member .joining true false id).pair.st = .joining ∧ ((member .joining true false id).port 15).up = true ∧
    (member .joining true false id).helloCode (hello true (member .joining true false id)) = some 2 := by
  refine ⟨by decide +kernel, by decide +kernel, ?_⟩
  simp only [State.helloCode]
  exact if_pos (by decide +kernel)

theorem hello_passes (mate : Bool) (s : State) (h : mate ≠ s.pair.ctl.getLsbD 30) (k : s.othersOpen = false) : s.helloCode (hello mate s) = none := by
  simp only [State.helloCode, hello, k]
  simp only [if_neg h]
  simp

theorem witness_helloPasses : (member .joining true false id).helloCode (hello false (member .joining true false id)) = none ∧
    (member .joining true false id).pair.ts = 0 ∧ (member .joining true false id).isLead = false ∧
    (member .joining false false id).helloCode (hello true (member .joining false false id)) = none ∧ (member .joining false false id).isLead = true :=
  ⟨hello_passes _ _ (by decide +kernel) (by decide +kernel), by decide +kernel, by decide +kernel, hello_passes _ _ (by decide +kernel) (by decide +kernel),
    by decide +kernel⟩

/-- An order of event line 63 for cycle n. -/
def ordered (n : BitVec 48) : Ordered := { cycle := n, input := .eventLine 63 }

theorem witness_pairOrders : (member .paired true false id).isMate = true ∧ (member .paired true false id).pairCycle ≤ (ordered 0).cycle.toNat ∧
    (ordered 0).cycle.toNat < ((member .paired true false id).upDir (fun d => { d with cyc := 1 })).pairCycle ∧
    (member .paired true false id).pair.verdict = 0 ∧ (member .paired false false (fun p => { p with orders := [ordered 0] })).pair.orders = ordered 0 :: [] ∧
    (ordered 0).cycle.toNat ≤ (member .paired false false id).pairCycle ∧ (ordered 0).input = .eventLine 63 ∧ (member .paired false false id).isLead = true ∧
    (member .paired false false id).pairCycle < (ordered 1).cycle.toNat ∧ (member .paired false false id).pair.assigned = 0 ∧
    (member .paired false false (fun p => { p with orders := [{ cycle := 0, input := .pairTime 9 }] })).pair.orders = [{ cycle := 0, input := .pairTime 9 }] := by
  decide +kernel

/-- Notice n of event line 62, or of a line of slot 63. -/
def notice (ev : Bool) (n : BitVec 24) : Notice := { source := if ev then 126 else 63, number := n, crc := 0 }

/-- A cue pulse held for comparison. -/
def heldOut : Held := { kind := 0, num := 4, digest := 6, since := 0, out := .sig }

theorem witness_pairNotices : (member .paired false false id).pair.st = .paired ∧ (member .paired false false id).pair.verdict = 0 ∧
    (member .paired false false id).isLead = true ∧ (notice true 0).source ≠ 127 ∧ (member .paired false false id).pair.mine = [] ∧ (notice true 0).source.msb = true ∧
    (member .paired false false (fun p => { p with mine := [(notice true 3, 0)] })).pair.mine = [(notice true 3, 0)] ∧
    (notice true 3).source = (notice true 0).source ∧ (notice false 3).source.msb = false ∧
    (member .paired false false (fun p => { p with mine := [(notice false 3, 0)] })).pair.mine = [(notice false 3, 0)] ∧
    (notice false 3).number ≠ (notice false 4).number ∧ (notice false 3).crc ≠ { notice false 3 with crc := 1 }.crc ∧
    (member .paired false false id).pair.notices = [] ∧ (member .paired false false id).now < 0 + (member .paired false false (fun p => { p with tim := 0x25801414 })).pair.linewait ∧
    0 + (member .paired false false (fun p => { p with tim := 0x25801414 })).pair.linewait ≤ ({ up with now := 2000 } : State).now ∧
    ((member .paired false false id).upPair (fun p => { p with ctl := 0x88000000 })).pair.ctl.getLsbD 27 = true ∧
    (member .paired false false id).pair.ctl.getLsbD 27 = false := by decide +kernel

/-- The last slot has line 3 in hand, and so has the lead reported. -/
def paired3 : State :=
  (member .paired false false (fun p => { p with mine := [(notice false 3, 0)] })).upIng (fun i =>
    { i with slots := [(63, { Slot.reset with jobs := [{ Slot.reset.newJob 0 with line := 3, noticed := true, time := some 9 }] })] })

theorem witness_pairLine : (paired3.slot (notice false 3).source.toNat).jobs = [{ Slot.reset.newJob 0 with line := 3, noticed := true, time := some 9 }] ∧
    (notice false 3).crc = (notice false 3).crc ∧ Tab.wf Slot.reset paired3.ing.slots = true ∧ paired3.pairAccepts nextPair := by
  unfold State.pairAccepts; decide +kernel

theorem witness_pairDigests : (member .paired false false id).pair.held = [] ∧
    (member .paired false false (fun p => { p with held := [heldOut] })).pair.held = [heldOut] ∧ heldOut.kind = 0 ∧ heldOut.num = 4 ∧ heldOut.digest = 6 ∧
    heldOut.digest ≠ 7 ∧ up.now < heldOut.since + up.pair.cmptmo ∧ heldOut.since + up.pair.cmptmo ≤ ({ up with now := 2000 } : State).now := by decide +kernel

theorem witness_pairOutcomes : (member .paired false true (fun p => { p with verdict := 1 })).pair.verdict ≠ 0 ∧ (member .paired false true id).pair.cause ≠ 8 ∧
    (1 : BitVec 4) ≠ 9 ∧ (fld (member .paired false true id).pair.ctl 28 2 : BitVec 2) = 1 ∧ (member .paired false true id).pair.self = false ∧
    ¬((fld (member .paired false false id).pair.ctl 28 2 : BitVec 2) = 1 ∧ (member .paired false false id).pair.self = false ∧ true = true) ∧
    1 + 5000 ≤ ({ up with now := 5000 } : State).now + 1 ∧ ({ up with now := 4999 } : State).now + 1 < 1 + 5000 ∧
    (member .paired false true (fun p => { p with verdict := 1, cause := 8 })).pair.cause = 8 ∧ (up.pair.hbIn + 20000 ≤ ({ up with now := 19999 } : State).now + 1) ∧
    up.now + 1 < up.pair.hbIn + 20000 ∧ (member .paired true false id).pair.ctl.msb = true ∧ (0 : BitVec 32).msb = false ∧
    (member .paired true false id).ready 6 = true ∧ (member .paired true false id).err.armed = none := by decide +kernel

/-! ## Witnesses: the mesh and the banks -/

/-- A packet of type ty to local port 0 of router d, LEN n, OFF o, ADDR a. -/
def packet (ty d n o a : Nat) : Packet := { hdr := BitVec.ofNat 128 (ty * 2 ^ 124 + d * 2 ^ 116 + n * 2 ^ 80 + o * 2 ^ 74 + a * 2 ^ 32), data := 0 }

/-- No function but the mesh is ready. -/
def meshOnly : State := { State.reset with rst := { State.reset.rst with rdy := 2 } }

theorem witness_bankRequests : up.ready 1 = true ∧ (packet 0 28 64 0 524288).dst < 36 ∧
    endpointAt (packet 0 28 64 0 524288).dst (packet 0 28 64 0 524288).dport = some (.bank 15) ∧ (packet 0 28 64 0 524288).type = 0 ∧
    (packet 2 28 8 56 1048512).type = 2 ∧ up.endOff (.bank 15) = false ∧ (packet 0 28 64 0 524288).badShape = false ∧
    (packet 1 28 1 63 524288).badShape = false ∧ (packet 2 28 8 56 1048512).badShape = false ∧ (packet 3 28 4 60 1048512).badShape = false ∧
    (packet 4 28 64 0 524288).badShape = false ∧ (packet 2 28 8 56 1048512).addr < 1048576 ∧ secureLine 15 (524288 / 64) = false ∧
    (∀ w, w < 8 → Tab.get false up.banks.poison (131072 * 15 + 8 * (524288 / 64) + w) = false) ∧ Tab.get 0 up.banks.phase 15 ≠ 2 ∧
    meshOnly.ready 1 = true ∧ meshOnly.endOff (.bank 15) = true ∧ (packet 0 28 63 0 0).badShape = true ∧
    secureLine 15 ((packet 0 28 64 0 524224).addr / 64) = true ∧ (packet 0 28 64 0 524224).src ≠ 34 := by decide +kernel

/-- A PWR of 8 bytes to bank 15, line 8,192. -/
def post : Packet := packet 4 28 8 8 524288

/-- Bank 15 whose port B has written the lanes of its line 8,192 in this bank cycle, with a word of it poisoned, and whose VC holds an
older packet. -/
def meeting : State := up.upBanks (fun k => { k with wrote := [(31, { time := 0, line := 8192, lanes := 0xFFFF })] })
def spoiled : State := up.upBanks (fun k => { k with poison := [(131072 * 15 + 8 * 8192 + 1, true)] })
def behind : State := up.upMesh (fun m => { m with recv := [(niKey 28 0 3, [Flit.of post])] })

theorem witness_bankCollisions : up.drainVc 28 0 (packetVn post.type) = up ∧ post.badShape = false ∧ post.type = 4 ∧ post.addr / 64 = 8192 ∧
    (Tab.get PortUse.none (meeting.drainVc 28 0 3).banks.wrote 31).time = (meeting.drainVc 28 0 3).now ∧
    (Tab.get PortUse.none (meeting.drainVc 28 0 3).banks.wrote 31).line = 8192 ∧
    (Tab.get PortUse.none (meeting.drainVc 28 0 3).banks.wrote 31).lanes &&& post.lanes ≠ 0 ∧
    (Tab.get PortUse.none up.banks.wrote 31).lanes = 0 ∧ (behind.drainVc 28 0 3).err.armed = none ∧
    (behind.drainVc 28 0 3).endOff (.bank 15) = false := by decide +kernel

theorem witness_bankPoison :
    (List.range 8).filter (fun w => Tab.get false (spoiled.drainVc 28 0 2).banks.poison (131072 * 15 + 8 * 8192 + w)) = [1] ∧
    (packet 0 28 64 0 524288).addr / 64 = 8192 ∧ Tab.get 0 (spoiled.drainVc 28 0 2).banks.phase 15 ≠ 2 ∧ up.now = 0 ∧
    (Tab.get PortUse.none up.banks.wrote 31).line ≠ 8192 ∧ (packet 1 28 1 63 524288).addr / 64 = 8192 := by decide +kernel

theorem witness_meshResponses : endpointAt 32 0 = some .host ∧ (packet 5 32 0 0 0).dst = 32 ∧ (packet 5 32 0 0 0).type = 5 ∧ (packet 5 32 0 0 0).badResponse = false ∧
    ({ hdr := (packet 5 32 0 0 0).hdr ||| 256, data := 0 } : Packet).badResponse = true ∧ (packet 6 32 0 0 0).type = 6 ∧ (packet 9 32 0 0 0).type = 9 ∧
    (packet 10 32 0 0 0).type = 10 ∧ (up.upMesh (fun m => { m with dlySize := 0x8000000F })).mesh.dlySize.msb = true ∧ up.host.link = true ∧
    up.mesh.dlySize.msb = false := by decide +kernel

/-- The oldest packet of VN 0 at the W input of router 0 goes to router 5 or 0, under hops h. -/
def flit (d h : Nat) : Flit := Flit.of { packet 10 d 0 0 0 with hdr := (packet 10 d 0 0 0).hdr ||| BitVec.ofNat 128 (h * 2 ^ 93) }

/-- It waits there; rtc is the route of the destination. -/
def moving (d h : Nat) (f : Mesh → Mesh) : State :=
  up.upMesh (fun m => f { m with vcs := [(12, [flit d h])], rtc := [(5, 1)] })

theorem witness_packetsMove : (moving 5 0 id).mesh.vc 0 3 0 = [flit 5 0] ∧ (moving 5 0 id).mesh.dlyCtl = [] ∧
    Tab.get false (moving 5 0 (fun m => { m with stopped := [(3, true)] })).mesh.stopped 3 = true ∧ Tab.get false (moving 5 0 id).mesh.stopped 3 = false ∧
    ((flit 5 0).k.withHops ((flit 5 0).k.hops + 1)).hops ≠ 16 ∧ (moving 5 0 id).mesh.hop 0 ((flit 5 0).k.withHops ((flit 5 0).k.hops + 1)) = .link 1 ∧
    neighbour 0 1 = some 1 ∧ (moving 5 0 id).mesh.outOf 0 (flit 5 0) = some 1 ∧ (moving 5 0 id).mesh.credit 0 1 0 = true ∧
    (moving 5 0 id).mesh.grants 0 1 3 0 = true ∧
    (moving 5 0 (fun m => { m with vcs := [(12, [flit 5 0]), (36, List.replicate 4 (flit 5 0))] })).mesh.credit 0 1 0 = false ∧
    (moving 5 0 (fun m => { m with vcs := [(8, [flit 5 0]), (12, [flit 5 0])] })).mesh.grants 0 1 3 0 = false ∧
    ((flit 5 15).k.withHops ((flit 5 15).k.hops + 1)).hops = 16 ∧ Tab.wf Router.reset (moving 5 0 id).mesh.routers = true := by decide +kernel

theorem witness_packetsArrive : (moving 36 0 id).mesh.hop 0 ((flit 36 0).k.withHops 1) = .absent ∧ endpointAt 0 0 = some (.crew 0) ∧
    (moving 0 0 id).mesh.hop 0 ((flit 0 0).k.withHops 1) = .eject ∧ 6 < ((flit 0 0).k.withHops 1).type ∧
    (moving 0 0 id).mesh.outOf 0 (flit 0 0) = some 4 ∧ (moving 0 0 id).mesh.credit 0 4 0 = true ∧ (moving 0 0 id).mesh.grants 0 4 3 0 = true ∧
    (moving 5 0 (fun m => { m with routers := [(0, { Router.reset with cur := true })] })).mesh.hop 0 ((flit 5 0).k.withHops 1) = .noTable := by
  decide +kernel

/-- The oldest packet of VN vn at the W input of router 0 is k, for its own crew endpoint. -/
def arriving (vn : Nat) (k : Packet) : State := up.upMesh (fun m => { m with vcs := [(12 + vn, [Flit.of k])] })

theorem witness_responsesArrive : (arriving 1 (packet 5 0 0 0 0)).mesh.vc 0 3 1 = [Flit.of (packet 5 0 0 0 0)] ∧
    (arriving 1 (packet 5 0 0 0 0)).mesh.hop 0 ((packet 5 0 0 0 0).withHops 1) = .eject ∧ ((packet 5 0 0 0 0).withHops 1).badResponse = false ∧
    (arriving 1 (packet 5 0 0 0 0)).mesh.outOf 0 (Flit.of (packet 5 0 0 0 0)) = some 4 ∧ (arriving 1 (packet 5 0 0 0 0)).mesh.credit 0 4 1 = true ∧
    (arriving 1 (packet 5 0 0 0 0)).mesh.grants 0 4 3 1 = true ∧ (Flit.of (packet 5 0 0 0 0)).bad = false := by decide +kernel

/-- A request of crew endpoint 0. -/
def ask : Packet := packet 0 5 64 0 0

theorem witness_packetsIssue : ask.type < 4 ∧ packetVn ask.type = 2 ∧ endpointAt 0 0 = some (.crew 0) ∧ up.endOff (.crew 0) = false ∧
    Tab.get false up.mesh.issued (issueKey 0 0 ask.tag) = false ∧ (up.mesh.vc 0 4 2).length < vcDepth 2 ∧ up.mesh.mayInject 0 2 = true ∧
    Tab.get [] up.mesh.ni (niKey 0 0 2) = [] ∧ Tab.get [] up.mesh.bridge (niKey 0 0 2) = [] ∧ Tab.wf [] up.mesh.ni = true ∧
    Tab.wf [] up.mesh.bridge = true ∧ Tab.wf [] up.mesh.vcs = true ∧ meshOnly.endOff (.crew 0) = true ∧
    Tab.get false (up.upMesh (fun m => { m with issued := [(issueKey 0 0 ask.tag, true)] })).mesh.issued (issueKey 0 0 ask.tag) = true ∧
    (packet 10 5 0 0 0).type < 11 ∧ 4 ≤ (packet 10 5 0 0 0).type := by decide +kernel

theorem witness_meshEpochs : (35 : BitVec 6).toNat < 36 ∧ (up.mesh.router 35).pend = false ∧ (up.mesh.router 35).oldlive = false ∧ routeOk 35 34 (fld (3 : BitVec 32) 0 3) = true ∧
    routeOk 35 34 (fld (1 : BitVec 32) 0 3) = false ∧ ((up.upRouter 35 (fun y => { y with stby := true })).mesh.router 35).stby = true ∧
    ((up.upRouter 35 (fun y => { y with pend := true })).mesh.router 35).pend = true ∧ (up.upRouter 35 (fun y => { y with pend := true })).mesh.noted = [] ∧
    ((up.upRouter 35 (fun y => { y with oldlive := true })).mesh.router 35).oldlive = true ∧ Tab.wf 0 up.mesh.rts = true ∧ Tab.wf 0 up.mesh.rtc = true ∧
    (∀ n, n < 36 → ((up.upMesh (fun m => { m with routers := (List.range 36).map (fun n => (n, { Router.reset with oldlive := true, released := true })) })).mesh.router n).oldlive = true ∧
      ((up.upMesh (fun m => { m with routers := (List.range 36).map (fun n => (n, { Router.reset with oldlive := true, released := true })) })).mesh.router n).released = true) ∧
    up.mesh.holdsOld = false ∧ niDepth 32 0 0 = 16 ∧
    (up.upMesh (fun m => { m with recv := [(niKey 32 0 0, [{ flit 5 0 with k := { (flit 5 0).k with hdr := (flit 5 0).k.hdr ||| 1 <<< 123 } }])] })).mesh.holdsOld = true ∧
    (flit 5 0).k.epoch ≠ ((moving 5 0 (fun m => { m with routers := [(0, { Router.reset with cur := true })] })).mesh.router (12 / 24)).cur ∧
    (endpointAt ((70 : BitVec 7).toNat / 2) ((70 : BitVec 7).toNat % 2)).isSome = true ∧ (0x81000010 : BitVec 32).msb = true ∧
    0 < (fld (0x81000010 : BitVec 32) 16 9 : BitVec 9).toNat ∧ (fld (0x81000010 : BitVec 32) 16 9 : BitVec 9).toNat ≤ 256 ∧
    (fld (0x81000010 : BitVec 32) 0 8 : BitVec 8) ≠ 0 ∧ Tab.wf 0 up.mesh.bucket = true := by decide +kernel

/-- Bank 15 in phase n of the patrol, which is on. -/
def patrolling (n : Nat) (f : Banks → Banks) : State := up.upBanks (fun k => f { k with ctl := 0x80000001, phase := if n = 0 then [] else [(15, n)] })

theorem witness_patrolBorrow : 9 ≤ (15 : BitVec 4).toNat ∧ up.dom 21 = 2 ∧ up.ready 7 = true ∧ (patrolling 0 id).banks.ctl.msb = true ∧
    (patrolling 0 id).banks.noSpare 15 = false ∧ (patrolling 0 id).nextSeg 15 0 = some 0 ∧ Tab.get 0 (patrolling 0 id).banks.phase 15 = 0 ∧
    Tab.get 0 (patrolling 0 id).banks.borrowed 15 = 0 ∧ (fld (0x80000001 : BitVec 32) 0 10 : BitVec 10).toNat = 1 ∧ 1001 - 1 + 1000 * 1 ≤ 2000 ∧
    up.banks.ctl.msb = false ∧ (patrolling 0 (fun k => { k with retired := [(512 * 15 + 256, true)] })).banks.noSpare 15 = true ∧
    (patrolling 0 (fun k => { k with pin := [(0, 0x80000F00)] })).nextSeg 15 0 = some 1 ∧
    (patrolling 0 (fun k => { k with pin := [(0, 0x80000F00)] })).banks.pinned 15 ((0 + 0) % 256) = true := by decide +kernel

theorem witness_patrol : Tab.get 0 (patrolling 1 id).banks.phase 15 = 1 ∧ Tab.get 0 (patrolling 2 id).banks.phase 15 = 2 ∧
    Tab.wf 0 (patrolling 1 id).banks.phase = true ∧ (0 : BitVec 32).msb = false ∧ (0x80000F00 : BitVec 32).msb = true ∧
    Tab.get 0 (patrolling 1 id).banks.seg (fld (0x80000F00 : BitVec 32) 8 4 : BitVec 4).toNat = fld (0x80000F00 : BitVec 32) 0 8 ∧
    Tab.get 0 (patrolling 1 id).banks.seg (fld (0x80000FFF : BitVec 32) 8 4 : BitVec 4).toNat ≠ fld (0x80000FFF : BitVec 32) 0 8 ∧
    Tab.get 0 (patrolling 1 id).banks.phase (fld (0x80000F00 : BitVec 32) 8 4 : BitVec 4).toNat = 1 := by decide +kernel


/-! ## Witnesses: the Splice fabric -/

/-- A configuration frame: type, FRAMENO, payload; session 0, TARGET 0. -/
def cfgFrame (ty n : Nat) (pay : List (BitVec 64)) : CfgFrame :=
  let h : BitVec 128 := BitVec.ofNat 128 (ty * 2 ^ 120 + n * 2 ^ 96 + pay.length * 2 ^ 70)
  { hdr := h, pay := pay, crc := ({ hdr := h, pay := pay, crc := 0 } : CfgFrame).crcOf.setWidth 64 }

/-- Its words. -/
def cfgWords (f : CfgFrame) : List (BitVec 64) := [fld f.hdr 0 64, fld f.hdr 64 64] ++ f.pay ++ [f.crc]

/-- The host's session over every block, after its BEGIN. -/
def session : Sess := { byHost := true, num := 0, next := 1, blocks := BitVec.allOnes 64, full := true, crcs := [], given := 0, safe := [] }

/-- The fabric in it. -/
def inSession : State := up.upSpl (fun x => { x with sess := some session })

/-- Frame f is fed whole and accepted. -/
def fed (s : State) (f : CfgFrame) : Bool :=
  s.ready 5 && cfgComplete (cfgWords f) == some f && s.spl.partHost == [] && (match s.spl.sess with | some e => e.byHost | none => true) && s.spl.judge f == none

theorem fed_feeds (s : State) (f : CfgFrame) (h : fed s f = true) : s.feeds f.type true (cfgWords f) f ∧ s.spl.judge f = none := by
  simp only [fed, Bool.and_eq_true, beq_iff_eq] at h
  obtain ⟨⟨⟨⟨h1, h2⟩, h3⟩, h4⟩, h5⟩ := h
  refine ⟨⟨h1, h2, rfl, h3, fun e he => ?_⟩, h5⟩
  rw [he] at h4; exact h4

theorem witness_configuration : inSession.ready 5 = true ∧ inSession.spl.sess = some session ∧ session.byHost ≠ false ∧ up.spl.sess = none ∧
    cfgComplete (up.spl.partHost ++ [0]) = none ∧ fed up (cfgFrame 1 0 [BitVec.allOnes 64, 1]) = true ∧
    (cfgFrame 1 0 [BitVec.allOnes 64, 1]).type = 1 ∧ fed inSession (cfgFrame 9 1 []) = true ∧
    up.spl.judge { cfgFrame 9 1 [] with crc := 1 <<< 63 } = some (1, none) ∧
    ({ cfgFrame 9 1 [] with crc := 1 <<< 63 } : CfgFrame).crc ≠ ({ cfgFrame 9 1 [] with crc := 1 <<< 63 } : CfgFrame).crcOf.setWidth 64 ∧
    cfgComplete (cfgWords { cfgFrame 9 1 [] with crc := 1 <<< 63 }) = some { cfgFrame 9 1 [] with crc := 1 <<< 63 } := by decide +kernel

theorem witness_configurationFrames : fed inSession (cfgFrame 3 1 [0]) = true ∧ fed inSession (cfgFrame 5 1 [0]) = true ∧
    fed inSession (cfgFrame 6 1 [0]) = true ∧ fed inSession (cfgFrame 7 1 [0, 0]) = true ∧
    fed inSession (cfgFrame 8 1 [(sessionCrc []).setWidth 64]) = true := by decide +kernel

/-- A frame of the session, whatever its CRC word comes to. -/
theorem judge_session (ty n : Nat) (pay : List (BitVec 64)) (f : CfgFrame) (hf : f = cfgFrame ty n pay) (h1 : f.type ≠ 1) (h8 : f.type ≠ 8)
    (hs : f.session = 0) (hn : f.num = 1) (hp : inSession.spl.formatOk f = true) (hc : inSession.spl.contention f = none) :
    inSession.spl.judge f = none := by
  have e : inSession.spl.sess = some session := rfl
  have k : ¬ f.crc ≠ f.crcOf.setWidth 64 := by subst hf; simp [cfgFrame, CfgFrame.crcOf]
  unfold Splice.judge
  rw [if_neg k, e]
  simp [h1, h8, hs, hn, hp, hc, session]

theorem complete_words (f : CfgFrame) (h : (fld (fld f.hdr 64 64 : BitVec 64) 6 10 : BitVec 10).toNat = f.pay.length) : cfgComplete (cfgWords f) = some f := by
  have e : (fld f.hdr 64 64 : BitVec 64) ++ (fld f.hdr 0 64 : BitVec 64) = f.hdr := by
    apply BitVec.eq_of_getLsbD_eq
    intro i hi
    simp only [fld, BitVec.getLsbD_append, BitVec.getLsbD_extractLsb']
    by_cases hlt : i < 64
    · simp [hlt]
    · have a : 64 + (i - 64) = i := by omega
      have b : i - 64 < 64 := by omega
      simp [hlt, a, b]
  have g : (fld f.hdr 64 64 :: (f.pay ++ [f.crc])).getLast (by simp) = f.crc := by
    rw [List.getLast_cons (by simp)]; simp
  simp [cfgComplete, cfgWords, cfgLength, h, e, List.getLastD, g]

theorem witness_configurationCells : inSession.feeds 4 true (cfgWords (cfgFrame 4 1 (List.replicate 64 0))) (cfgFrame 4 1 (List.replicate 64 0)) ∧
    inSession.spl.judge (cfgFrame 4 1 (List.replicate 64 0)) = none :=
  ⟨⟨by decide +kernel, complete_words _ (by decide +kernel), by decide +kernel, by decide +kernel, fun e he => by cases he; rfl⟩,
    judge_session 4 1 _ _ rfl (by decide +kernel) (by decide +kernel) (by decide +kernel) (by decide +kernel) (by decide +kernel) (by decide +kernel)⟩

theorem witness_configurationBlock : inSession.feeds 2 true (cfgWords (cfgFrame 2 1 (List.replicate 148 0))) (cfgFrame 2 1 (List.replicate 148 0)) ∧
    inSession.spl.judge (cfgFrame 2 1 (List.replicate 148 0)) = none :=
  ⟨⟨by decide +kernel, complete_words _ (by decide +kernel), by decide +kernel, by decide +kernel, fun e he => by cases he; rfl⟩,
    judge_session 2 1 _ _ rfl (by decide +kernel) (by decide +kernel) (by decide +kernel) (by decide +kernel) (by decide +kernel) (by decide +kernel)⟩

/-- Queue 15 in mode m, depth 2, n words in it from its second place. -/
def queued (m : BitVec 2) (n : Nat) : State :=
  up.upSpl (fun x => { x with qcfg := [(15, { mode := m, owner := 63, depthM1 := 1, en := true, named := true })], qhead := [(15, 1)], qfill := if n = 0 then [] else [(15, n)], qpush := [(15, 2)], heldBlk := 0 })

theorem witness_spliceMemories : (queued 0 1).qMode 15 0 = true ∧ Tab.get 0 (queued 0 1).spl.qfill 15 = 1 ∧ ((queued 0 1).spl.queue 15).depth = 2 ∧
    Tab.get 0 (queued 0 1).spl.qhead 15 = 1 ∧ Tab.get 0 (queued 0 2).spl.qfill 15 = 2 ∧ Tab.get 0 (queued 0 0).spl.qfill 15 = 0 ∧
    (queued 0 1).wordClean 15 1 ∧ (queued 1 0).qMode 15 1 = true ∧ (queued 1 0).wordClean 15 4095 ∧ (queued 2 0).qMode 15 2 = true ∧
    Tab.get 0 (queued 2 0).spl.qpush 15 = 2 ∧ (queued 2 0).wordClean 15 (2 % 2) ∧ (queued 1 0).qMode 15 0 = false ∧ up.spl.capDone = false ∧
    (up.upSpl (fun x => { x with capDone := true })).spl.capDone = true ∧ up.ready 5 = true ∧ up.err.armed = none ∧
    Tab.wf 0 (queued 0 2).spl.qfill = true ∧ Tab.wf 0 (queued 0 2).spl.qhead = true ∧ (queued 0 2).wordClean 15 1 ∧
    (queued 0 0).spl.heldBlk.getLsbD 63 = false ∧ (up.upSpl (fun x => { x with heldBlk := 1 <<< 63 })).spl.heldBlk.getLsbD 63 = true := by
  unfold State.wordClean; decide +kernel

/-! ## Witnesses: the Keeper -/

/-- A token of a KIND that meets every check of its layout, its signature good or not. -/
def token (k : BitVec 8) (ok : Bool) : Token :=
  { readOk := true, formatOk := true, kind := k, domain := if k = 7 then 63 else 0, length := 240, ident := deviceIdent, body := [], counter := 1,
    rights := if k = 6 then 3 else 0, validity := if k = 6 then 2592000 else 0, key := 0, sigOk := ok }

theorem token_fits (k : BitVec 8) (ok : Bool) (s : Keep) (h : k = 2 ∨ k = 5 ∨ k = 6 ∨ k = 7) (hc : s.counter = 0) : tokenFits (token k ok) s = true := by
  rcases h with rfl | rfl | rfl | rfl <;> simp [tokenFits, tokenMade, token, hc, fld]

theorem witness_keeperCommands : up.ready 3 = true ∧ up.pair.st = .solo ∧ up.keep.busy = false ∧ (up.upKeep (fun k => { k with tampered := true })).keep.tampered = true ∧
    up.keep.tampered = false ∧ (idle 0).channelsLeft = true ∧ up.channelsLeft = false ∧ inSession.channelsLeft = false ∧ inSession.spl.sess.isSome = true ∧
    up.spl.sess = none ∧ up.keep.sess = [] ∧ (5 : BitVec 8).toNat ≤ 5 ∧ nextLc 2 (inLc .provisioned).keep.lc = some .deployed ∧
    nextLc 5 (inLc .deployed).keep.lc = some .scrapped ∧ (inLc .deployed).keep.lc = .deployed ∧ (2 : BitVec 8) ≠ 5 ∧ up.keep.lc ≠ .deployed ∧ up.host.link = true ∧
    (Tab.get none (up.upKeep (fun k => { k with domOwner := [(63, some 1)] })).keep.domOwner 63).isSome = true ∧
    up.host.chans.any (fun e => e.2.dom.toNat == 63 && decide (e.2.st ≠ .free)) = false ∧ Tab.get none up.keep.domOwner 63 = none ∧
    (admin 0 false { one .opened with dom := 63 }).host.chans.any (fun e => e.2.dom.toNat == 63 && decide (e.2.st ≠ .free)) = true ∧
    (up.keep.counter = 0 ∧ (inLc .deployed).keep.counter = 0 ∧ (inLc .provisioned).keep.counter = 0) := by decide +kernel

theorem witness_tokens : tokenFits (token 2 true) (inLc .provisioned).keep = true ∧ tokenFits (token 5 false) (inLc .deployed).keep = true ∧
    tokenFits (token 6 true) (inLc .deployed).keep = true ∧ tokenFits (token 7 true) up.keep = true ∧ (token 7 true).domain.toNat = 63 :=
  ⟨token_fits _ _ _ (by simp) (by decide +kernel), token_fits _ _ _ (by simp) (by decide +kernel), token_fits _ _ _ (by simp) (by decide +kernel),
    token_fits _ _ _ (by simp) (by decide +kernel), rfl⟩

theorem witness_keeperEvents : (up.upKeep (fun k => { k with mtoken := some (3, 1, 0) })).keep.mtoken = some (3, 1, 0) ∧ 0 ≤ up.tbNow.toNat ∧ up.tbNow.toNat < 1 ∧
    up.pair.st = .solo ∧ up.dir.run ≠ .held ∧ up.ready 12 = true ∧ 6 ≤ (6 : BitVec 3).toNat ∧ (1 : BitVec 3) ≠ 0 ∧ (1 : BitVec 3) ≠ 4 ∧ (1 : BitVec 3) ≠ 5 ∧
    up.keep.mtoken = none ∧ (5 : BitVec 3).toNat < 6 ∧ up.ready 3 = true ∧ State.reset.ready 3 = false ∧ State.reset.err.armed = none := by decide +kernel

/-- A transition to a state that the present one does not lead to; a kind that is no transition; a token that is not made for this part. -/
theorem witness_keeperRefusals : nextLc 2 (inLc .deployed).keep.lc = none ∧ (inLc .scrapped).keep.lc = .scrapped ∧
    5 < (token 6 true).kind.toNat ∧ (token 7 true).kind ≠ 6 ∧ (token 6 true).kind ≠ 7 ∧ (token 5 true).kind = 5 ∧
    ((inLc .deployed).upKeep (fun k => { k with sess := [(1, some { reqId := 7, established := true, keyGen := 0 })] })).keep.sess.any (fun e => e.2.isSome) = true ∧
    up.keep.sess.any (fun e => e.2.isSome) = false ∧ up.keep.lc ≠ .scrapped ∧ nextLc 5 .provisioned = some .scrapped := by decide +kernel

theorem witness_badToken (s : Keep) : tokenFits { token 2 true with length := 1 } s = false := by simp [tokenFits, tokenMade, token]

/-- The Keeper of a deployed device after negotiation step n, session 3 open as x. -/
def secure (n : BitVec 2) (x : SpdmSess) (i : Tab IdeStream) : State :=
  (inLc .deployed).upKeep (fun k => { k with spdm := n, sess := [(3, some x)], ide := i })

/-- A session, established or not. -/
def spdm (e : Bool) : SpdmSess := { reqId := 7, established := e, keyGen := 0 }

theorem witness_secureSessions : (secure 3 (spdm true) []).ready 3 = true ∧ up.keep.mute = true ∧ (secure 3 (spdm true) []).keep.mute = false ∧
    (secure 0 (spdm true) []).keep.spdm = 0 ∧ (secure 1 (spdm true) []).keep.spdm = 1 ∧ (secure 2 (spdm true) []).keep.spdm = 2 ∧
    (secure 2 (spdm true) []).keep.spdm.toNat < 3 ∧ (secure 3 (spdm true) []).keep.spdm = 3 ∧ (10 : BitVec 8).toNat ≤ 10 ∧ (inLc .deployed).keep.sess = [] ∧
    (∀ i, i < 4 → (Tab.get none ((inLc .deployed).upKeep (fun k => { k with sess := [(0, some (spdm true)), (1, some (spdm true)), (2, some (spdm true)), (3, some (spdm true))] })).keep.sess i).isSome = true) ∧
    (secure 3 (spdm false) []).keep.session 3 = some (spdm false) ∧ (spdm false).established = false ∧ (secure 3 (spdm true) []).keep.session 3 = some (spdm true) ∧
    (spdm true).established = true ∧ Tab.wf IdeStream.off (secure 3 (spdm true) []).keep.ide = true ∧
    (Tab.get IdeStream.off (secure 3 (spdm true) [(7, { IdeStream.off with keyed := 0x0200 })]).keep.ide 7).keyed.getLsbD (1 + 8) = true ∧
    (Tab.get IdeStream.off (secure 3 (spdm true) []).keep.ide 7).keyed.getLsbD (1 + 8) = false ∧ (fld (6 : BitVec 3) 0 2 : BitVec 2) ≠ 3 ∧
    (fld (7 : BitVec 3) 0 2 : BitVec 2) = 3 ∧ (secure 3 (spdm true) []).keep.session 2 = none ∧
    (Tab.get IdeStream.off (secure 3 (spdm true) [(7, { IdeStream.off with active := 2, live := 0x77 })]).keep.ide 7).active.getLsbD 1 = true := by
  decide +kernel

theorem witness_certificate : (0 : BitVec 16).toNat < (secure 3 (spdm true) []).chain.length := by
  simp [State.chain, chainBytes, natBytes_length, chainLen]

/-! ## Commands that are not well formed -/

theorem test_illFormed_numbers : Instr.wellFormed (.readyBitSet 15) = false ∧ Instr.wellFormed (.readyBitSet 14) = true ∧
    Instr.wellFormed (.domainGated 30) = false ∧ Instr.wellFormed (.domainOpened 30) = false ∧ Instr.wellFormed (.sensorLink 80) = false ∧
    Instr.wellFormed (.sensorLinkUp 80 true) = false ∧ Instr.wellFormed (.tamper 6) = false ∧ Instr.wellFormed (.vbatTamper 1) = false ∧
    Instr.wellFormed (.packetForward 36 0 0 none) = false ∧ Instr.wellFormed (.packetForward 35 6 0 none) = false ∧
    Instr.wellFormed (.mrRtsWrite 0 36 0) = false ∧ Instr.wellFormed (.mrEpochSwap 36) = false ∧ Instr.wellFormed (.mrSwapComplete 36) = false ∧
    Instr.wellFormed (.mrEpochRelease 36) = false ∧ Instr.wellFormed (.mrRateEnable 72 0) = false := by decide

theorem test_illFormed_parts : Instr.wellFormed (.junctionSensorSample []) = false ∧
    Instr.wellFormed (.loadRecipe 0 { image with wrappedFor := [] }) = false ∧ Instr.wellFormed (.crewMsgFrame 0 { cells := [], inside := false }) = false ∧
    Instr.wellFormed (.crewMsgFrame 0 (cells 1 0 [0])) = true ∧ Instr.wellFormed (.cfgAbort true [0, 0]) = false ∧
    Instr.wellFormed (.cfgAbort true [0, 0, 0]) = true := by decide +kernel

/-! ## Worked examples of the spec -/

/-- A microword: SEQ, TGT, ISEL, CSEL, then TT, CF, and REL, ARG, offset of the ports (sub-bank 1). -/
def mw (seq tgt isel csel tt cf : Nat) (ra rb : Option (Nat × Nat × Nat)) (wa : Nat × Nat × Nat) : BitVec 128 :=
  let port (p : Nat × Nat × Nat) : Nat := p.1 * 2 ^ 15 + p.2.1 * 2 ^ 12 + 1024 + p.2.2
  let rd (o : Option (Nat × Nat × Nat)) : Nat := match o with | some p => port p | none => 0
  BitVec.ofNat 128 (seq * 2 ^ 116 + isel * 2 ^ 110 + tgt * 2 ^ 96 + rd ra * 2 ^ 75 + rd rb * 2 ^ 57 + port wa * 2 ^ 39 + 2 ^ 38 +
    tt * 2 ^ 30 + cf * 2 ^ 27 + csel * 2 ^ 23)

/-- The n + 1 cycle addition of chapter 3's example, FMAX 512. -/
def adder : Except Nat (BitVec 320) :=
  judgeScript [0x0000000020000000] [mw 4 0x3003 0 9 0x96 1 (some (4, 0, 0)) (some (4, 1, 0)) (4, 2, 0),
    mw 3 1 0 0 0x96 1 (some (5, 0, 1)) (some (5, 1, 1)) (5, 2, 1), mw 5 0 0 0 0xAA 0 none none (5, 2, 1)] 0x0000000020000000

/-- Chapter 3, example: FC = 2, FS = 1, CNTM1 = 1; AA0 and AA1 grow by 1 from EXT 1, AA2 from EXT 2; AA3 is COUNT. -/
theorem test_loader_example : (adder.toOption.map (fun e => (tFc e, tFs e, tCntm1 e))) = some (2, 1, 1) ∧
    (adder.toOption.map (fun e => (List.range 4).map (fun n => (tRole e n, tSub e n, tExt e n, tXl e n)))) =
      some [(1, 1, 1, 1), (1, 1, 1, 1), (2, 1, 2, 1), (4, 0, 0, 0)] := by decide +kernel

/-- A slot: port kind, PF, KEEP, W, XDST, ROW0, ROWS, LRATE. -/
def stream (kind pf keep w xdst row0 rows rate : Nat) : Slot :=
  { Slot.reset with src := BitVec.ofNat 32 (2 ^ 31 + kind * 2 ^ 29), fmt := BitVec.ofNat 32 (pf * 2 ^ 28 + keep * 2 ^ 23 + w * 2 ^ 13),
                    place := BitVec.ofNat 32 (xdst * 2 ^ 21 + row0 * 2 ^ 12 + rows), lim := BitVec.ofNat 32 rate }

/-- Chapter 7, example: the delay bounds of the streams A, B and C, in sixths of a nanosecond. -/
theorem test_delay_example :
    let a := stream 0 1 10 512 0 64 32 3200
    let b := stream 2 0 8 256 256 80 32 5000
    let c := stream 1 6 12 128 384 70 16 5000
    let d := stream 1 6 12 128 384 160 16 5000
    a.delay [a] = 2900 ∧ a.delay [a, b] = 4660 ∧ b.delay [a, b] = 4516 ∧ a.delay [a, b, c] = 21860 ∧ d.delay [a, b, d] = 3344 ∧
      a.fifoFits [a, b] = true := by decide +kernel

/-- Chapter 18, example: ADM_SQ written in two halves takes its whole value with the second. -/
theorem test_halves_example : (match execRegisterWrite (.host 0) 0x200 false 0x34567008 up with
    | .next t => (match execRegisterWrite (.host 0) 0x204 false 0x12 t with | .next u => u.host.admSq | _ => 0)
    | _ => 0) = 0x0000001234567008 := by decide +kernel

/-- Chapter 18, example: CT_DROPINC of unit 11, slot 0 stands at 0x92C60. -/
theorem test_offset_example : (up.upIng (fun i => { i with slots := [(44, { Slot.reset with dropInc := 9 })] })).regValue 0 0x92C60 = some 9 := by
  decide +kernel

/-- Chapter 12, example: 40 bytes from lane 24 to lane 8 by an RD with ROT 24 and a WR with ROT 8, OFF 8, LEN 40. -/
theorem test_rotation_example :
    let rd : Packet := { hdr := BitVec.ofNat 128 (24 * 2 ^ 87 + 64 * 2 ^ 80), data := 0 }
    let wr : Packet := { hdr := BitVec.ofNat 128 (2 ^ 124 + 8 * 2 ^ 87 + 40 * 2 ^ 80 + 8 * 2 ^ 74), data := rd.payload (5#512 <<< (8 * 24)) }
    rd.payload (5#512 <<< (8 * 24)) = 5 ∧ wr.onLanes = 5#512 <<< 64 ∧ wr.lanes.getLsbD 7 = false ∧ wr.lanes.getLsbD 8 = true ∧
      wr.lanes.getLsbD 47 = true ∧ wr.lanes.getLsbD 48 = false := by decide +kernel

end Checks
end

namespace Sys2Proof.Machine

/-! ## Index modification (R130) -/

/-- The exponent of the least power of two not below l, as R130 characterises it, is the model's. -/
theorem log2Up_eq {l k : Nat} (hl : l ≤ 2 ^ k) (hk : ∀ j, j < k → 2 ^ j < l) : log2Up l = k := by
  cases k with
  | zero => exact if_pos hl
  | succ j =>
    have hj : 2 ^ j < l := hk j (Nat.lt_succ_self j)
    have h1 : ¬ l ≤ 1 := Nat.not_le.mpr (Nat.lt_of_le_of_lt Nat.one_le_two_pow hj)
    have hlog : (l - 1).log2 = j := (Nat.log2_eq_iff (by omega)).mpr ⟨by omega, by omega⟩
    rw [log2Up, if_neg h1, hlog]

/-- A length of at most 262,144 has a block of at most 2^18 words. -/
theorem blockExponent_le {l k : Nat} (hl : l ≤ 262144) (hk : ∀ j, j < k → 2 ^ j < l) : k ≤ 18 := by
  refine Nat.not_lt.mp (fun h => ?_)
  have : 2 ^ 18 < l := hk 18 h
  omega

/-- A block that begins at a multiple of its size below 2^24 ends there too. -/
theorem block_fits {base k : Nat} (hk : k ≤ 24) (hb : base % 2 ^ k = 0) (hlt : base < 2 ^ 24) : base + 2 ^ k ≤ 2 ^ 24 := by
  obtain ⟨m, rfl⟩ := Nat.dvd_of_mod_eq_zero hb
  obtain ⟨n, hn⟩ := Nat.pow_dvd_pow 2 hk
  have hmn : m < n := Nat.lt_of_mul_lt_mul_left (hn ▸ hlt)
  calc 2 ^ k * m + 2 ^ k = 2 ^ k * (m + 1) := (Nat.mul_succ _ _).symm
    _ ≤ 2 ^ k * n := Nat.mul_le_mul_left _ hmn
    _ = 2 ^ 24 := hn.symm

theorem revBits_lt (k n : Nat) : revBits k n < 2 ^ k := by
  induction k generalizing n with
  | zero => exact Nat.one_pos
  | succ k ih =>
    have hrest := ih (n / 2)
    have htop : n % 2 * 2 ^ k ≤ 2 ^ k := by
      simpa using Nat.mul_le_mul_right (2 ^ k) (show n % 2 ≤ 1 by omega)
    rw [revBits, Nat.pow_succ]
    omega

/-- Bit j of the reversal of k bits is bit k - 1 - j. -/
theorem revBits_testBit {k j : Nat} (n : Nat) (hj : j < k) : (revBits k n).testBit j = n.testBit (k - 1 - j) := by
  induction k generalizing n with
  | zero => omega
  | succ k ih =>
    rw [revBits, Nat.mul_comm, Nat.testBit_two_pow_mul_add _ (revBits_lt k _)]
    by_cases h : j < k
    · rw [if_pos h, ih _ h, Nat.testBit_div_two, show k - 1 - j + 1 = k + 1 - 1 - j by omega]
    · obtain rfl : j = k := by omega
      rw [if_neg h, Nat.sub_self, Nat.add_sub_cancel, Nat.sub_self, Nat.testBit_zero, Nat.testBit_zero, Nat.mod_mod]

/-- An index in the block of a length of at most 262,144, as R130 gives it. -/
structure InBlock (i : Word) (l base off k : Nat) : Prop where
  len : l ≤ 262144
  pos : 0 < l
  covers : l ≤ 2 ^ k
  least : ∀ j, j < k → 2 ^ j < l
  inside : off < 2 ^ k
  aligned : base % 2 ^ k = 0
  index : i.toNat = base + off

namespace InBlock

variable {i : Word} {l base off k : Nat}

theorem offset_eq (h : InBlock i l base off k) : i.toNat % 2 ^ k = off := by
  rw [h.index, Nat.add_mod, h.aligned, Nat.zero_add, Nat.mod_mod, Nat.mod_eq_of_lt h.inside]

theorem len_ne_zero (h : InBlock i l base off k) : l ≠ 0 := Nat.ne_of_gt h.pos

theorem exponent_eq (h : InBlock i l base off k) : log2Up l = k := log2Up_eq h.covers h.least

/-- A modification that stays in the block wraps no address. -/
theorem toNat_moved (h : InBlock i l base off k) {v : Nat} (hv : v < 2 ^ k) :
    (BitVec.ofNat 24 (i.toNat - off + v)).toNat = base + v := by
  have hbase : base < 2 ^ 24 := by have := i.isLt; have := h.index; omega
  have hfit := block_fits (Nat.le_trans (blockExponent_le h.len h.least) (by decide)) h.aligned hbase
  rw [h.index, Nat.add_sub_cancel, BitVec.toNat_ofNat, Nat.mod_eq_of_lt (by omega)]

theorem incM_toNat (h : InBlock i l base off k) (y : Word) :
    (modIndex .incM i l y).toNat = base + (if off + 1 < l then off + 1 else 0) := by
  have hin : (if off + 1 < l then off + 1 else 0) < 2 ^ k := by have := h.covers; have := h.pos; split <;> omega
  simp only [modIndex, h.len_ne_zero, if_false, h.exponent_eq, h.offset_eq, h.toNat_moved hin]

theorem decM_toNat (h : InBlock i l base off k) (y : Word) :
    (modIndex .decM i l y).toNat = base + (if 0 < off ∧ off < l then off - 1 else l - 1) := by
  have hin : (if 0 < off ∧ off < l then off - 1 else l - 1) < 2 ^ k := by have := h.covers; have := h.pos; split <;> omega
  simp only [modIndex, h.len_ne_zero, if_false, h.exponent_eq, h.offset_eq, h.toNat_moved hin]

theorem revM_toNat (h : InBlock i l base off k) (y : Word) :
    (modIndex .revM i l y).toNat = base + revBits k ((revBits k off + 1) % 2 ^ k) := by
  simp only [modIndex, h.len_ne_zero, if_false, h.exponent_eq, h.offset_eq, h.toNat_moved (revBits_lt k _)]

end InBlock

end Sys2Proof.Machine

namespace Sys2Proof
open Machine

/-- Settles O7: the block's exponent is unique and at most 18, so no modification leaves the 24 bits, and the reversed count is one
between two reversals of the offset. -/
theorem indexModification : Obligations.IndexModification := by
  refine ⟨fun i y l base off hlen => ⟨rfl, rfl, rfl, rfl, fun hl => ?_, fun k hpos hcov hleast hin hal hi => ?_⟩, fun m d => ⟨rfl, rfl⟩⟩
  · subst hl
    exact ⟨rfl, rfl, rfl⟩
  · have h : InBlock i l base off k := ⟨hlen, hpos, hcov, hleast, hin, hal, hi⟩
    exact ⟨h.incM_toNat y, h.decM_toNat y, revBits k off, _, revBits_lt k off, revBits_lt k _,
      fun j hj => revBits_testBit off hj, fun j hj => revBits_testBit _ hj, h.revM_toNat y⟩

end Sys2Proof

namespace Sys2Proof.Machine

/-! ## Errors of class C, U and N leave the Director -/

section Occurrence

variable (d : Dir) (y : Dsys) (s : State)

/-- The state with other Director registers and system registers. -/
def State.withDirector (d : Dir) (y : Dsys) (s : State) : State := { s with dir := d, sys := y }

@[simp] theorem State.withDirector_err : (s.withDirector d y).err = s.err := rfl
@[simp] theorem State.withDirector_tbNow : (s.withDirector d y).tbNow = s.tbNow := rfl
@[simp] theorem State.withDirector_mramReady : (s.withDirector d y).mramReady = s.mramReady := rfl
@[simp] theorem State.withDirector_records (det : Nat) : (s.withDirector d y).records det = s.records det := rfl

@[simp] theorem State.upErr_withDirector (f : Err → Err) :
    (s.withDirector d y).upErr f = (s.upErr f).withDirector d y := rfl

@[simp] theorem State.throttled_withDirector (det : Nat) :
    (s.withDirector d y).throttled det = (s.throttled det).withDirector d y := rfl

@[simp] theorem State.postEvent_withDirector (code : BitVec 16) (data : BitVec 32) (ahead : Bool) :
    (s.withDirector d y).postEvent code data ahead = (s.postEvent code data ahead).withDirector d y := by
  simp only [State.postEvent, apply_ite (State.withDirector d y)]
  rfl

@[simp] theorem State.placeRec_withDirector (r : ErrRec) :
    (s.withDirector d y).placeRec r = (s.placeRec r).withDirector d y := by
  simp only [State.placeRec, apply_ite (State.withDirector d y), ← State.postEvent_withDirector]
  rfl

@[simp] theorem State.queueRec_withDirector (r : ErrRec) :
    ((s.withDirector d y).queueRec false r).1 = (s.queueRec false r).1.withDirector d y := by
  simp only [State.queueRec, Bool.not_false, if_true, apply_ite Prod.fst, apply_ite (State.withDirector d y)]
  rfl

@[simp] theorem State.noteUe_withDirector (det : Nat) :
    (s.withDirector d y).noteUe det = (s.noteUe det).withDirector d y := by
  simp only [State.noteUe, apply_ite (State.withDirector d y)]
  rfl

/-- An occurrence of a detector that is not fatal takes nothing from the Director's registers and changes none. -/
theorem State.occurN_withDirector {det : Nat} (hc : detClass det ≠ 2#2) (n : Nat) (chan : BitVec 32) (info : BitVec 64) (inj : Bool) :
    (s.withDirector d y).occurN n det chan info inj = (s.occurN n det chan info inj).withDirector d y := by
  simp [State.occurN, hc, apply_ite (State.withDirector d y)]

theorem State.occurN_dir {det : Nat} (hc : detClass det ≠ 2#2) (n : Nat) (chan : BitVec 32) (info : BitVec 64) (inj : Bool) :
    (s.occurN n det chan info inj).dir = s.dir :=
  (congrArg State.dir (State.occurN_withDirector s.dir s.sys s hc n chan info inj) :)

theorem State.occurN_sys {det : Nat} (hc : detClass det ≠ 2#2) (n : Nat) (chan : BitVec 32) (info : BitVec 64) (inj : Bool) :
    (s.occurN n det chan info inj).sys = s.sys :=
  (congrArg State.sys (State.occurN_withDirector s.dir s.sys s hc n chan info inj) :)

theorem State.postEvent_pair (code : BitVec 16) (data : BitVec 32) (ahead : Bool) : (s.postEvent code data ahead).pair = s.pair := by
  simp [State.postEvent, apply_ite State.pair]

theorem State.placeRec_pair (r : ErrRec) : (s.placeRec r).pair = s.pair := by
  simp [State.placeRec, apply_ite State.pair, State.postEvent_pair]

theorem State.queueRec_pair (r : ErrRec) : (s.queueRec false r).1.pair = s.pair := by
  simp [State.queueRec, apply_ite Prod.fst, apply_ite State.pair, State.throttled]

/-- Whether this member keeps a signature of retired instructions (Table 11-1). -/
def Pair.signs (p : Pair) : Bool := decide (p.st = .paired) && p.ctl.getLsbD 26

theorem State.issues_unsigned {s : State} (h : s.issues) : s.pair.signs = false := by
  obtain ⟨-, -, -, -, -, hsig⟩ := h
  exact hsig

theorem State.noteUe_signs (det : Nat) : (s.noteUe det).pair.signs = s.pair.signs := by
  unfold State.noteUe
  split <;> rfl

theorem State.occurN_signs {det : Nat} (hc : detClass det ≠ 2#2) (n : Nat) (chan : BitVec 32) (info : BitVec 64) (inj : Bool) :
    (s.occurN n det chan info inj).pair.signs = s.pair.signs := by
  simp [State.occurN, hc, apply_ite State.pair, apply_ite Pair.signs, State.placeRec_pair, State.queueRec_pair, State.throttled,
    State.noteUe_signs]

end Occurrence

/-! ## An MFS or MTS issues -/

/-- Special register sr exists and the code in force may name it (R118, R192). -/
structure State.mayName (sr : BitVec 6) (s : State) : Prop where
  assigned : srIllegal sr.toNat = false
  privileged : srPriv sr.toNat = true → s.dir.priv = true
  float : sr = 6 → s.dir.priv = true ∨ ownedBy s.sys.fown s.sys.chid = true

theorem State.mayName_of_priv {s : State} {sr : BitVec 6} (hp : s.dir.priv = true) (hs : srIllegal sr.toNat = false) : s.mayName sr :=
  ⟨hs, fun _ => hp, fun _ => .inl hp⟩

/-- Any code may name a register that is not marked P and is not FPCR. -/
theorem State.mayName_of_unmarked {s : State} {sr : BitVec 6} (hs : srIllegal sr.toNat = false) (hp : srPriv sr.toNat = false)
    (hf : sr ≠ 6) : s.mayName sr :=
  ⟨hs, fun h => absurd (hp.symm.trans h) Bool.false_ne_true, fun h => absurd h hf⟩

/-- The state in which an instruction's own effect begins: the load before it has left its slot (R132). -/
def State.slotTaken (s : State) : State := { s with sys := { s.sys with ld := none } }

theorem State.issue_sr {s : State} {sr : BitVec 6} (h : s.issuesAlone) (hs : s.mayName sr) (n : Nat) (body : State → Res) :
    s.issue (Info.sr sr.toNat n) body = s.perform n body := by
  obtain ⟨h1, h2, h3⟩ := h
  have hpriv : srPriv sr.toNat = false ∨ s.dir.priv = true := (Bool.eq_false_or_eq_true _).symm.imp_right hs.privileged
  have hfloat : (sr.toNat == 6) = false ∨ s.dir.priv = true ∨ ownedBy s.sys.fown s.sys.chid = true := by
    by_cases h6 : sr.toNat = 6
    · exact .inr (hs.float (BitVec.eq_of_toNat_eq h6))
    · exact .inl (beq_false_of_ne h6)
  exact State.issue_performs ⟨h1, h2⟩ (.inl h3) hs.assigned hpriv hfloat (.inl rfl)

/-- What an instruction performs is its effect on the state with the load slot taken. -/
theorem State.perform_congr {s : State} {body body' : State → Res} (n : Nat) (h : body s.slotTaken = body' s.slotTaken) :
    s.perform n body = s.perform n body' := by
  unfold State.perform
  rw [show s.upSys (fun y => { y with ld := none }) = s.slotTaken from rfl, h]

theorem Dsys.withExt_none {y : Dsys} (h : y.ext = none) : { y with ext := none } = y := by
  cases y
  cases h
  rfl

/-- An instruction outside a repetition whose effect ends with the state t, in which the registers are d and the system registers have
had the update f. -/
theorem State.perform_leaves {n : Nat} {body : State → Res} {s t : State} {d : Dir} {f : Dsys → Dsys} (h : s.issuesAlone)
    (hb : body s.slotTaken = .done t) (hdir : t.dir = d) (hsys : t.sys = f s.slotTaken.sys) (hsig : t.pair.signs = s.pair.signs)
    (hpc : d.pc = s.dir.pc) (hcyc : d.cyc = s.dir.cyc) (hf : ∀ y, (f y).rep = y.rep ∧ (f y).ext = y.ext) :
    s.perform n body = t.withDirector (s.completed d n).dir (f (s.completed d n).sys) := by
  obtain ⟨h1, h2, h3⟩ := h
  obtain ⟨hrep, hext⟩ := hf s.slotTaken.sys
  have hslot : (s.completed d n).sys = s.slotTaken.sys := by simp [State.completed, State.slotTaken, h3]
  have hoff : (t.paired && t.pair.ctl.getLsbD 26) = false := hsig.trans (State.issues_unsigned h1)
  rw [State.perform_once ⟨h1, h2⟩ hb (hsys ▸ hrep.trans h2) hoff, hslot, hdir, hsys, Dsys.withExt_none (hext.trans h3), hpc, hcyc]
  cases hld : s.sys.ld <;> simp [State.withDirector, State.completed, State.endDir, h3, hld]

/-- An instruction that leaves the registers d and updates the system registers alone. -/
theorem State.perform_registers {n : Nat} {body : State → Res} {s : State} {d : Dir} {f : Dsys → Dsys} (h : s.issuesAlone)
    (hb : body s.slotTaken = .done (s.slotTaken.withDirector d (f s.slotTaken.sys)))
    (hpc : d.pc = s.dir.pc) (hcyc : d.cyc = s.dir.cyc) (hf : ∀ y, (f y).rep = y.rep ∧ (f y).ext = y.ext) :
    s.perform n body = (s.completed d n).upSys f :=
  State.perform_leaves (t := s.slotTaken.withDirector d (f s.slotTaken.sys)) h hb rfl rfl rfl hpc hcyc hf

/-! ## MFS -/

theorem exec_mfs {s : State} {sr : BitVec 6} (h : s.issuesAlone) (hs : s.mayName sr) :
    exec (.mfs sr) s = .next (s.perform 1 (fun t => t.readSr sr.toNat)) :=
  congrArg Host.Outcome.next (State.issue_sr h hs 1 _)

theorem State.readSr_value {n : Nat} (s : State) (h20 : n ≠ 0x20) (h9 : n ≠ 9) (h10 : n ≠ 10) :
    s.readSr n = .done (s.upDir (fun d => { d with a := s.srValue n })) := by
  simp only [State.readSr, h20, h9, h10, or_self, if_false]

theorem State.readSr_product {n : Nat} (s : State) (hn : n = 9 ∨ n = 10) :
    s.readSr n = .done ((s.upSys (Dsys.drain s.dir.cyc)).upDir (fun d =>
      { d with a := (s.upSys (Dsys.drain s.dir.cyc)).srValue n })) := by
  rcases hn with rfl | rfl <;> rfl

/-- The registers other than TBL, MRL and MRH. -/
theorem exec_mfs_value {s : State} {sr : BitVec 6} (h : s.issuesAlone) (hs : s.mayName sr) (h20 : sr ≠ 0x20) (h9 : sr ≠ 9)
    (h10 : sr ≠ 10) : exec (.mfs sr) s = .next (s.completed { s.dir with a := s.srValue sr.toNat } 1) := by
  have ne (k : BitVec 6) (hk : sr ≠ k) : sr.toNat ≠ k.toNat := fun e => hk (BitVec.eq_of_toNat_eq e)
  exact (exec_mfs h hs).trans (congrArg Host.Outcome.next (State.perform_done ⟨h.1, h.2.1⟩
    (s.slotTaken.readSr_value (ne 0x20 h20) (ne 9 h9) (ne 10 h10)) rfl rfl))

/-- MRL and MRH: the products that have left the maintenance pipeline drain into MRH : MRL first (R166). -/
theorem exec_mfs_product {s : State} {sr : BitVec 6} (h : s.issuesAlone) (hs : s.mayName sr) (hsr : sr.toNat = 9 ∨ sr.toNat = 10) :
    exec (.mfs sr) s = .next ((s.completed { s.dir with a := (s.upSys (Dsys.drain s.dir.cyc)).srValue sr.toNat } 1).upSys
      (Dsys.drain s.dir.cyc)) :=
  (exec_mfs h hs).trans (congrArg Host.Outcome.next (State.perform_registers h
    (s.slotTaken.readSr_product hsr) rfl rfl (fun _ => ⟨rfl, rfl⟩)))

/-- The pair after a read of the time T: in Double mode no later read is lower (R316). -/
def Pair.noted (T : BitVec 64) (p : Pair) : Pair := if p.st = .paired then { p with plast := T } else p

theorem Pair.noted_signs (T : BitVec 64) (p : Pair) : (p.noted T).signs = p.signs := by
  unfold Pair.noted
  split <;> rfl

/-- The registers after an MFS of TBL at the time T (R160). -/
def Dir.readTbl (T : BitVec 64) (d : Dir) : Dir := { d with a := T.setWidth 24, tbl := (T >>> 24).setWidth 40 }

theorem State.readTime_eq (s : State) : s.readTime = (s.dirTime, { s with pair := s.pair.noted s.dirTime }) := by
  unfold Pair.noted
  by_cases hp : s.pair.st = .paired
  · rw [if_pos hp]
    exact congrArg (Prod.mk s.dirTime) (if_pos hp)
  · rw [if_neg hp]
    exact congrArg (Prod.mk s.dirTime) (if_neg hp)

theorem State.readSr_tbl (s : State) :
    s.readSr 0x20 = .done { s with dir := s.dir.readTbl s.dirTime, pair := s.pair.noted s.dirTime } := by
  have hlow : s.dirTime.setWidth 24 = fld s.dirTime 0 24 := BitVec.eq_of_toNat_eq rfl
  have hhigh : (s.dirTime >>> 24).setWidth 40 = fld s.dirTime 24 40 := BitVec.setWidth_ushiftRight_eq_extractLsb
  rw [State.readSr, if_pos rfl, State.readTime_eq, Dir.readTbl, hlow, hhigh]
  rfl

theorem perform_readTbl {s : State} (h : s.issuesAlone) :
    s.perform 1 (fun t => t.readSr 0x20) =
      { s.completed (s.dir.readTbl s.dirTime) 1 with pair := s.pair.noted s.dirTime } :=
  State.perform_leaves (f := id) h s.slotTaken.readSr_tbl rfl rfl (Pair.noted_signs _ _) rfl rfl (fun _ => ⟨rfl, rfl⟩)

theorem exec_mfsTbl {s : State} (h : s.issuesAlone) :
    exec .mfsTbl s = .next { s.completed (s.dir.readTbl s.dirTime) 1 with pair := s.pair.noted s.dirTime } := by
  have hs : s.mayName 0x20 := State.mayName_of_unmarked rfl rfl (by decide)
  exact congrArg Host.Outcome.next ((State.issue_sr h hs 1 _).trans (perform_readTbl h))

theorem State.srValue_aa {n : Nat} (s : State) (hn : n < 8) : s.srValue (0x10 + n) = s.dir.aaN n :=
  match n, hn with
  | 0, _ | 1, _ | 2, _ | 3, _ | 4, _ | 5, _ | 6, _ | 7, _ => rfl
  | m + 8, hn => absurd hn (by omega)

theorem State.srValue_wtuWord {n : Nat} (s : State) (hn : n < 12) : s.srValue (0x24 + n) = Tab.get 0 s.dir.wtuw n :=
  match n, hn with
  | 0, _ | 1, _ | 2, _ | 3, _ | 4, _ | 5, _ | 6, _ | 7, _ | 8, _ | 9, _ | 10, _ | 11, _ => rfl
  | m + 12, hn => absurd hn (by omega)

theorem fld_high_setWidth (x : BitVec 40) : (fld x 24 16 : BitVec 16).setWidth 24 = (x >>> 24).setWidth 24 := by
  apply BitVec.eq_of_toNat_eq
  simp only [fld, BitVec.toNat_setWidth, BitVec.extractLsb'_toNat, BitVec.toNat_ushiftRight]
  omega

/-! ## MTS -/

theorem exec_mts {s : State} {sr : BitVec 6} (h : s.issuesAlone) (hs : s.mayName sr) (hn : sr ≠ 0x0C) :
    exec (.mts sr) s = .next (s.perform 1 (fun t => t.mts sr.toNat t.dir.a)) :=
  (congrArg Host.Outcome.next (State.issue_sr h hs _ _)).trans (by rw [if_neg hn])

theorem State.mts_legal {n : Nat} {v : Word} (s : State) (hr : srReserved n v = false) : s.mts n v = .done (s.writeSr n v) := by
  simp only [State.mts, hr, Bool.false_eq_true, if_false]

theorem State.mts_reserved {n : Nat} {v : Word} (s : State) (hr : srReserved n v = true) :
    s.mts n v = .done ((s.writeSr n v).regRsvd 0 n 2) := by
  simp only [State.mts, hr, if_true]

section Mts

variable {s : State} {sr : BitVec 6} {d : Dir} {g : Dir → Dir} {f : Dsys → Dsys}

/-- An MTS of a legal encoding that leaves the registers d. -/
theorem exec_mts_dir (h : s.issuesAlone) (hs : s.mayName sr) (hn : sr ≠ 0x0C) (hr : srReserved sr.toNat s.dir.a = false)
    (hw : s.slotTaken.writeSr sr.toNat s.dir.a = s.slotTaken.withDirector d s.slotTaken.sys)
    (hpc : d.pc = s.dir.pc) (hcyc : d.cyc = s.dir.cyc) : exec (.mts sr) s = .next (s.completed d 1) :=
  (exec_mts h hs hn).trans (congrArg Host.Outcome.next
    (State.perform_done ⟨h.1, h.2.1⟩ ((s.slotTaken.mts_legal hr).trans (congrArg Res.done hw)) hpc hcyc))

/-- An MTS of a legal encoding whose effect is an update g of the registers, which leaves d. -/
theorem exec_mts_upDir (h : s.issuesAlone) (hs : s.mayName sr) (hn : sr ≠ 0x0C) (hr : srReserved sr.toNat s.dir.a = false)
    (hw : s.slotTaken.writeSr sr.toNat s.dir.a = s.slotTaken.upDir g) (hg : g s.dir = d)
    (hpc : d.pc = s.dir.pc) (hcyc : d.cyc = s.dir.cyc) : exec (.mts sr) s = .next (s.completed d 1) :=
  exec_mts_dir h hs hn hr (hw.trans (congrArg (fun d => s.slotTaken.withDirector d s.slotTaken.sys) hg)) hpc hcyc

/-- An MTS of a legal encoding that leaves the registers d and updates the system registers. -/
theorem exec_mts_registers (h : s.issuesAlone) (hs : s.mayName sr) (hn : sr ≠ 0x0C) (hr : srReserved sr.toNat s.dir.a = false)
    (hw : s.slotTaken.writeSr sr.toNat s.dir.a = s.slotTaken.withDirector d (f s.slotTaken.sys))
    (hpc : d.pc = s.dir.pc) (hcyc : d.cyc = s.dir.cyc) (hf : ∀ y, (f y).rep = y.rep ∧ (f y).ext = y.ext) :
    exec (.mts sr) s = .next ((s.completed d 1).upSys f) :=
  (exec_mts h hs hn).trans (congrArg Host.Outcome.next
    (State.perform_registers h ((s.slotTaken.mts_legal hr).trans (congrArg Res.done hw)) hpc hcyc hf))

/-- An MTS by privileged code that updates the system registers alone. -/
theorem exec_mts_sys (h : s.issuesAlone) (hp : s.dir.priv = true) (hs : srIllegal sr.toNat = false) (hn : sr ≠ 0x0C)
    (hr : srReserved sr.toNat s.dir.a = false) (hw : s.slotTaken.writeSr sr.toNat s.dir.a = s.slotTaken.upSys f)
    (hf : ∀ y, (f y).rep = y.rep ∧ (f y).ext = y.ext) : exec (.mts sr) s = .next ((s.completed s.dir 1).upSys f) :=
  exec_mts_registers h (State.mayName_of_priv hp hs) hn hr hw rfl rfl hf

/-- INFO of a REG_RSVD record of an MTS: function 0, the number of the register, source 2 (R11). -/
theorem rsvdInfo_mts : ∀ sr : BitVec 6,
    BitVec.ofNat 64 (0 + 64 * sr.toNat + 2147483648 * 2) = (2#2 ++ sr.setWidth 25 ++ 0#6 : BitVec 33).setWidth 64 := by
  decide

/-- An MTS of a reserved encoding: what it still leaves, with the record of REG_RSVD (R11). -/
theorem exec_mts_reserved (h : s.issuesAlone) (hs : s.mayName sr) (hn : sr ≠ 0x0C) (hr : srReserved sr.toNat s.dir.a = true)
    (hw : s.slotTaken.writeSr sr.toNat s.dir.a = s.slotTaken.withDirector d (f s.slotTaken.sys))
    (hpc : d.pc = s.dir.pc) (hcyc : d.cyc = s.dir.cyc) (hf : ∀ y, (f y).rep = y.rep ∧ (f y).ext = y.ext) :
    exec (.mts sr) s = .next (((s.completed d 1).upSys f).occur 11 0 ((2#2 ++ sr.setWidth 25 ++ 0#6 : BitVec 33).setWidth 64) false) := by
  have hc : detClass 11 ≠ 2#2 := by decide
  have hb := (s.slotTaken.mts_reserved hr).trans (congrArg (fun t => Res.done (State.regRsvd 0 sr.toNat 2 t)) hw)
  have hleft := State.perform_leaves (body := fun t => t.mts sr.toNat t.dir.a) (n := 1) (f := f) h hb
    (State.occurN_dir _ hc 1 0 _ false) (State.occurN_sys _ hc 1 0 _ false) (State.occurN_signs _ hc 1 0 _ false) hpc hcyc hf
  rw [exec_mts h hs hn, hleft, State.regRsvd, rsvdInfo_mts]
  exact congrArg Host.Outcome.next (State.occurN_withDirector _ _ _ hc 1 0 _ false).symm

end Mts

/-! ## The special registers one by one -/

theorem fld_all {n : Nat} (x : BitVec n) : fld x 0 n = x := BitVec.extractLsb'_eq_self

/-- Adjacent fields side by side are one field. -/
theorem fld_append_fld (x : Word) : (fld x 5 4 : BitVec 4) ++ (fld x 0 5 : BitVec 5) = fld x 0 9 :=
  BitVec.extractLsb'_append_extractLsb'_eq_extractLsb' rfl

theorem writeFlags_unprivileged {d : Dir} (v : Word) (h : d.priv = false) :
    writeFlags v d = { d with c := v.getLsbD 0, v := v.getLsbD 1, dv := v.getLsbD 2, dvz := v.getLsbD 3 } := by
  simp [writeFlags, h]

theorem writeFlags_privileged {d : Dir} (v : Word) (h : d.priv = true) :
    writeFlags v d = { d with
      c := v.getLsbD 0, v := v.getLsbD 1, dv := v.getLsbD 2, dvz := v.getLsbD 3, ie := v.getLsbD 15, ipl := fld v 16 3 } := by
  simp [writeFlags, h]

theorem setWdat_pc (v : Word) (d : Dir) : (d.setWdat v).pc = d.pc := by
  simp only [Dir.setWdat, Dir.setSaved, apply_ite Dir.pc, ite_self]

theorem setWdat_cyc (v : Word) (d : Dir) : (d.setWdat v).cyc = d.cyc := by
  simp only [Dir.setWdat, Dir.setSaved, apply_ite Dir.cyc, ite_self]

theorem setEvm_word (lo : Nat) (v : Word) (d : Dir) : d.setEvm lo 24 v = { d with evm := putFld d.evm lo v } := by
  rw [Dir.setEvm, fld_all]

theorem clearEvp_middle (v : Word) (d : Dir) :
    d.clearEvp 24 24 v = { d with evp := d.evp &&& ~~~ (v.setWidth 64 <<< 24) } := by
  rw [Dir.clearEvp, fld_all]

theorem clearEvp_low (v : Word) (d : Dir) : d.clearEvp 0 24 v = { d with evp := d.evp &&& ~~~ v.setWidth 64 } := by
  rw [Dir.clearEvp, fld_all, BitVec.shiftLeft_zero]

/-- Only 16 bits of A reach the top of 64. -/
theorem fld_shiftLeft_top (v : Word) : (fld v 0 16 : BitVec 16).setWidth 64 <<< 48 = v.setWidth 64 <<< 48 := by
  apply BitVec.eq_of_getLsbD_eq
  intro i hi
  simp only [fld, BitVec.getLsbD_shiftLeft, BitVec.getLsbD_setWidth, BitVec.getLsbD_extractLsb', Nat.zero_add]
  by_cases h : i < 48
  · simp [h]
  · simp [h, show i - 48 < 16 by omega]

theorem clearEvp_high (v : Word) (d : Dir) :
    d.clearEvp 48 16 v = { d with evp := d.evp &&& ~~~ (v.setWidth 64 <<< 48) } := by
  rw [Dir.clearEvp, fld_shiftLeft_top]

theorem State.writeSr_aa {n : Nat} (s : State) (v : Word) (hn : n < 8) :
    s.writeSr (0x10 + n) v = s.upDir (fun d => { d with aa := Tab.set 0 d.aa n v }) :=
  match n, hn with
  | 0, _ | 1, _ | 2, _ | 3, _ | 4, _ | 5, _ | 6, _ | 7, _ => rfl
  | m + 8, hn => absurd hn (by omega)

theorem State.writeSr_wtuWord {n : Nat} (s : State) (v : Word) (hn : n < 12) :
    s.writeSr (0x24 + n) v = s.upDir (Dir.setWtu n v) :=
  match n, hn with
  | 0, _ | 1, _ | 2, _ | 3, _ | 4, _ | 5, _ | 6, _ | 7, _ | 8, _ | 9, _ | 10, _ | 11, _ => rfl
  | m + 12, hn => absurd hn (by omega)

/-- A low or middle word of compare unit u is only kept. -/
theorem setWtu_part {u k : Nat} (v : Word) (d : Dir) (hk : k < 2) :
    d.setWtu (3 * u + k) v = { d with wtuw := Tab.set 0 d.wtuw (3 * u + k) v } := by
  have hne : (3 * u + k) % 3 ≠ 2 := by omega
  simp only [Dir.setWtu, hne, if_false]

/-- The registers after a write of the high word of compare unit u: the unit takes its whole value and is armed (R161). -/
def Dir.armWtu (u : Nat) (v : Word) (d : Dir) : Dir :=
  let words := Tab.set 0 d.wtuw (3 * u + 2) (v &&& 0xFFFF)
  { d with
    wtuw := words,
    wtuv := Tab.set 0 d.wtuv u (fld v 0 16 ++ Tab.get 0 words (3 * u + 1) ++ Tab.get 0 words (3 * u)),
    wtuArmed := setBit d.wtuArmed u true }

theorem fld_and_low16 (v : Word) : (fld (v &&& 0xFFFF) 0 16 : BitVec 16) = fld v 0 16 := by
  rw [fld, BitVec.extractLsb'_and, show (0xFFFF : Word).extractLsb' 0 16 = BitVec.allOnes 16 from rfl, BitVec.and_allOnes]
  rfl

theorem setWtu_high (u : Nat) (v : Word) (d : Dir) : d.setWtu (3 * u + 2) v = d.armWtu u v := by
  have hmod : (3 * u + 2) % 3 = 2 := by omega
  have hdiv : (3 * u + 2) / 3 = u := by omega
  simp only [Dir.setWtu, hmod, if_true, hdiv, fld_and_low16, Nat.add_sub_cancel, show 3 * u + 2 - 1 = 3 * u + 1 from rfl]
  rfl

theorem wtuPart_toNat (u : BitVec 2) {k : Nat} (hk : k < 2) :
    (0x24 + 3 * u.setWidth 6 + BitVec.ofNat 6 k : BitVec 6).toNat = 0x24 + (3 * u.toNat + k) := by
  have := u.isLt
  simp
  omega

theorem wtuHigh_toNat (u : BitVec 2) : (0x26 + 3 * u.setWidth 6 : BitVec 6).toNat = 0x24 + (3 * u.toNat + 2) := by
  have := u.isLt
  simp
  omega

theorem aaReg_toNat (n : BitVec 3) : (0x10 + n.setWidth 6 : BitVec 6).toNat = 0x10 + n.toNat := by
  have := n.isLt
  simp
  omega

theorem srIllegal_wtu : ∀ {n : Nat}, n < 12 → srIllegal (0x24 + n) = false := by
  decide

theorem srChecks_aa : ∀ {n : Nat}, n < 8 → srIllegal (0x10 + n) = false ∧ srPriv (0x10 + n) = false := by
  decide

theorem sr_ne_of_toNat {sr k : BitVec 6} {m n : Nat} (h : sr.toNat = m + n) (hk : k.toNat < m) : sr ≠ k := by
  rintro rfl
  omega

theorem srReserved_high {n : Nat} (v : Word) (hn : 7 < n) : srReserved n v = false := by
  obtain ⟨m, rfl⟩ := Nat.exists_eq_add_of_lt hn
  rw [Nat.add_right_comm, Nat.add_comm]
  rfl

/-! ## SFOP (R189) -/

theorem loadFloats_pc (v : Nat → BitVec 32) (ns : List Nat) (d : Dir) :
    (ns.foldl (fun d n => d.setFr (BitVec.ofNat 3 n) (v n)) d).pc = d.pc := by
  induction ns generalizing d with
  | nil => rfl
  | cons n ns ih => exact ih (d.setFr (BitVec.ofNat 3 n) (v n))

theorem loadFloats_cyc (v : Nat → BitVec 32) (ns : List Nat) (d : Dir) :
    (ns.foldl (fun d n => d.setFr (BitVec.ofNat 3 n) (v n)) d).cyc = d.cyc := by
  induction ns generalizing d with
  | nil => rfl
  | cons n ns ih => exact ih (d.setFr (BitVec.ofNat 3 n) (v n))

/-- The end of an instruction finds in t what it would have found in s: the PC, the cycles, the repetition, and whether a signature is
kept. -/
structure State.RetiresAs (s t : State) : Prop where
  pc : t.dir.pc = s.dir.pc
  cyc : t.dir.cyc = s.dir.cyc
  rep : t.sys.rep = s.sys.rep
  signs : t.pair.signs = s.pair.signs

namespace State.RetiresAs

variable {s t u : State}

theorem refl (s : State) : s.RetiresAs s := ⟨rfl, rfl, rfl, rfl⟩

theorem trans (h : s.RetiresAs t) (h' : t.RetiresAs u) : s.RetiresAs u :=
  ⟨h'.pc.trans h.pc, h'.cyc.trans h.cyc, h'.rep.trans h.rep, h'.signs.trans h.signs⟩

theorem ite {c : Prop} [Decidable c] (ht : s.RetiresAs t) (hu : s.RetiresAs u) : s.RetiresAs (if c then t else u) := by
  split
  · exact ht
  · exact hu

theorem fired (s : State) : s.RetiresAs s.fired := ⟨rfl, rfl, rfl, rfl⟩

theorem upChan (s : State) (ch : BitVec 18) (f : Chan → Chan) : s.RetiresAs (s.upChan ch f) := ⟨rfl, rfl, rfl, rfl⟩

theorem occurN (s : State) {det : Nat} (hc : detClass det ≠ 2#2) (n : Nat) (chan : BitVec 32) (info : BitVec 64) (inj : Bool) :
    s.RetiresAs (s.occurN n det chan info inj) :=
  ⟨congrArg Dir.pc (occurN_dir s hc n chan info inj), congrArg Dir.cyc (occurN_dir s hc n chan info inj),
    congrArg Dsys.rep (occurN_sys s hc n chan info inj), occurN_signs s hc n chan info inj⟩

theorem ctxRead (s : State) (ch : BitVec 18) (lo n : Nat) : s.RetiresAs (s.ctxRead ch lo n).2 := by
  have corrected : s.RetiresAs (if s.armedFor 12 (fun _ a => a == ch.toNat) then
      s.fired.occur 12 (s.chanId ch) (BitVec.ofNat 64 (8 * lo)) true else s) :=
    ite ((fired s).trans (occurN _ (by decide) 1 _ _ _)) (refl s)
  have marked (t : State) (f : Chan → Chan) : t.RetiresAs (if t.armedFor 13 (fun _ a => a == ch.toNat) then
      (t.upChan ch f).fired else t) :=
    ite ((upChan t ch f).trans (fired _)) (refl t)
  unfold State.ctxRead
  dsimp only
  split
  · exact corrected.trans (marked _ _)
  · exact (corrected.trans (marked _ _)).trans (occurN _ (by decide) _ _ _ _)

theorem opFsave (s : State) : s.RetiresAs s.opFsave := upChan s _ _

theorem opAsave (s : State) : s.RetiresAs s.opAsave := upChan s _ _

theorem upDir_upSys (s : State) {g : Dir → Dir} {f : Dsys → Dsys} (hpc : (g s.dir).pc = s.dir.pc) (hcyc : (g s.dir).cyc = s.dir.cyc)
    (hrep : (f s.sys).rep = s.sys.rep) : s.RetiresAs ((s.upDir g).upSys f) :=
  ⟨hpc, hcyc, hrep, rfl⟩

theorem opFload (s : State) : s.RetiresAs s.opFload := by
  unfold State.opFload
  refine (ctxRead s s.sys.sfch 3 5).trans (upDir_upSys _ ?_ ?_ rfl)
  · simp only [loadFloats_pc]
  · simp only [loadFloats_cyc]

theorem opAload (s : State) : s.RetiresAs s.opAload := (ctxRead s s.sys.sfch 7 1).trans ⟨rfl, rfl, rfl, rfl⟩

theorem sfop (s : State) (bits : BitVec 4) : s.RetiresAs (s.sfop bits) := by
  have fsave := ite (c := bits.getLsbD 0 = true) (opFsave s) (refl s)
  have asave (t : State) := ite (c := bits.getLsbD 2 = true) (opAsave t) (refl t)
  have fload (t : State) := ite (c := bits.getLsbD 1 = true) (opFload t) (refl t)
  have aload (t : State) := ite (c := bits.getLsbD 3 = true) (opAload t) (refl t)
  exact ((fsave.trans (asave _)).trans (fload _)).trans (aload _)

end State.RetiresAs

/-- A write of SFOP is the operation of its four bits, whichever they are. -/
theorem exec_mts_sfop {s : State} (h : s.issuesAlone) (hp : s.dir.priv = true) :
    exec (.mts 0x0C) s = s.sfopOne (fld s.dir.a 0 4) := by
  have hs : s.mayName 0x0C := State.mayName_of_priv hp rfl
  calc exec (.mts 0x0C) s
      = .next (s.perform (sfopCycles (fld s.dir.a 0 4)) (fun t => t.mts 0x0C t.dir.a)) :=
        congrArg Host.Outcome.next (State.issue_sr h hs _ _)
    _ = .next (s.perform (sfopCycles (fld s.dir.a 0 4)) (fun t => .done (t.sfop (fld s.dir.a 0 4)))) :=
        congrArg Host.Outcome.next (State.perform_congr _ rfl)
    _ = s.sfopOne (fld s.dir.a 0 4) := congrArg Host.Outcome.next (State.issue_sr h hs _ _).symm

theorem sfopOne_eq {s : State} (h : s.issuesAlone) (hp : s.dir.priv = true) (bits : BitVec 4) :
    s.sfopOne bits = .next (s.perform (sfopCycles bits) (fun t => .done (t.sfop bits))) :=
  congrArg Host.Outcome.next (State.issue_sr h (State.mayName_of_priv (sr := 0x0C) hp rfl) _ _)

/-- No operation leaves the registers. -/
theorem sfopOne_none {s : State} (h : s.issuesAlone) (hp : s.dir.priv = true) : s.sfopOne 0 = .next (s.completed s.dir 1) :=
  (sfopOne_eq h hp 0).trans (congrArg Host.Outcome.next (State.perform_done ⟨h.1, h.2.1⟩ rfl rfl rfl))

theorem sfopOne_retires {s : State} (h : s.issuesAlone) (hp : s.dir.priv = true) (bits : BitVec 4) :
    ∃ t, s.sfopOne bits = .next t ∧ t.dir.pc = s.dir.pc + 1 ∧ t.dir.cyc = s.dir.cyc + sfopCycles bits := by
  obtain ⟨h1, h2, h3⟩ := h
  have hr := State.RetiresAs.sfop s.slotTaken bits
  have hoff : ((s.slotTaken.sfop bits).paired && (s.slotTaken.sfop bits).pair.ctl.getLsbD 26) = false :=
    hr.signs.trans (State.issues_unsigned h1)
  have hend := State.perform_once (n := sfopCycles bits) (body := fun t => .done (t.sfop bits)) ⟨h1, h2⟩ rfl (hr.rep.trans h2) hoff
  refine ⟨_, sfopOne_eq ⟨h1, h2, h3⟩ hp bits, ?_, ?_⟩
  · rw [hend]
    exact congrArg (· + 1) hr.pc
  · rw [hend, h3]
    exact congrArg (· + sfopCycles bits) hr.cyc

/-! ## The writes of each register -/

section Writes

variable {s : State}

/-- MX and MY take a length of at most 262,144 (R11). -/
theorem exec_mts_length (h : s.issuesAlone) (hL : (fld s.dir.a 0 19 : BitVec 19).toNat ≤ 262144) :
    exec (.mts 0) s = .next (s.completed { s.dir with mx := fld s.dir.a 0 19 } 1) ∧
      exec (.mts 1) s = .next (s.completed { s.dir with my := fld s.dir.a 0 19 } 1) := by
  have hr : lengthReserved s.dir.a = false := decide_eq_false (Nat.not_lt.mpr hL)
  have hlegal {t u : State} : (if lengthReserved s.dir.a then t else u) = u := if_neg (hr ▸ Bool.false_ne_true)
  exact ⟨exec_mts_dir h (State.mayName_of_unmarked rfl rfl (by decide)) (by decide) hr hlegal rfl rfl,
    exec_mts_dir h (State.mayName_of_unmarked rfl rfl (by decide)) (by decide) hr hlegal rfl rfl⟩

/-- A longer one leaves MX or MY and is logged (R11). -/
theorem exec_mts_length_reserved (h : s.issuesAlone) (hL : 262144 < (fld s.dir.a 0 19 : BitVec 19).toNat) {sr : BitVec 6}
    (hsr : sr = 0 ∨ sr = 1) :
    exec (.mts sr) s = .next ((s.completed s.dir 1).occur 11 0 ((2#2 ++ sr.setWidth 25 ++ 0#6 : BitVec 33).setWidth 64) false) := by
  have hr : lengthReserved s.dir.a = true := decide_eq_true hL
  have hkept {t u : State} : (if lengthReserved s.dir.a then t else u) = t := if_pos hr
  rcases hsr with rfl | rfl
  · exact exec_mts_reserved (f := id) h (State.mayName_of_unmarked rfl rfl (by decide)) (by decide) hr hkept rfl rfl
      (fun _ => ⟨rfl, rfl⟩)
  · exact exec_mts_reserved (f := id) h (State.mayName_of_unmarked rfl rfl (by decide)) (by decide) hr hkept rfl rfl
      (fun _ => ⟨rfl, rfl⟩)

theorem mayName_fpcr (hf : s.dir.priv = true ∨ ownedBy s.sys.fown s.sys.chid = true) : s.mayName 6 :=
  ⟨rfl, fun hp => absurd hp (by decide), fun _ => hf⟩

/-- FPCR takes its fields and sets FDIRTY. -/
theorem exec_mts_fpcr (h : s.issuesAlone) (hf : s.dir.priv = true ∨ ownedBy s.sys.fown s.sys.chid = true)
    (hm : (fld s.dir.a 16 3 : BitVec 3).toNat ≤ 4) :
    exec (.mts 6) s = .next ((s.completed { s.dir with fpcr := s.dir.a &&& 0x071F1F } 1).upSys (fun y => { y with fdirty := true })) := by
  have hr : srReserved 6 s.dir.a = false := decide_eq_false (Nat.not_lt.mpr hm)
  have hmask : (s.dir.a &&& 0x070000) ||| (s.dir.a &&& 0x001F1F) = s.dir.a &&& 0x071F1F := BitVec.and_or_distrib_left.symm
  refine exec_mts_registers h (mayName_fpcr hf) (by decide) hr ?_ rfl rfl (fun _ => ⟨rfl, rfl⟩)
  simp only [State.writeSr, hr, Bool.false_eq_true, if_false, ← hmask]
  rfl

/-- A reserved rounding mode stays as it was (R11). -/
theorem exec_mts_fpcr_reserved (h : s.issuesAlone) (hf : s.dir.priv = true ∨ ownedBy s.sys.fown s.sys.chid = true)
    (hm : 4 < (fld s.dir.a 16 3 : BitVec 3).toNat) :
    exec (.mts 6) s = .next (((s.completed { s.dir with fpcr := (s.dir.fpcr &&& 0x070000) ||| (s.dir.a &&& 0x001F1F) } 1).upSys
      (fun y => { y with fdirty := true })).occur 11 0 ((2#2 ++ 6#25 ++ 0#6 : BitVec 33).setWidth 64) false) := by
  have hr : srReserved 6 s.dir.a = true := decide_eq_true hm
  refine exec_mts_reserved h (mayName_fpcr hf) (by decide) hr ?_ rfl rfl (fun _ => ⟨rfl, rfl⟩)
  simp only [State.writeSr, hr, if_true]
  rfl

theorem exec_mts_aa (h : s.issuesAlone) (n : BitVec 3) :
    exec (.mts (0x10 + n.setWidth 6)) s = .next (s.completed { s.dir with aa := Tab.set 0 s.dir.aa n.toNat s.dir.a } 1) := by
  have hsr := aaReg_toNat n
  have hnum := srChecks_aa n.isLt
  have hs : s.mayName (0x10 + n.setWidth 6) :=
    State.mayName_of_unmarked (hsr ▸ hnum.1) (hsr ▸ hnum.2) (sr_ne_of_toNat hsr (by decide))
  refine exec_mts_dir h hs (sr_ne_of_toNat hsr (by decide)) (hsr ▸ srReserved_high _ (by omega)) ?_ rfl rfl
  rw [hsr, State.writeSr_aa _ _ n.isLt]
  rfl

/-- A register that nothing can write takes nothing. -/
theorem exec_mts_readOnly (h : s.issuesAlone) {sr : BitVec 6} (hs : s.mayName sr) (hsr : sr ∈ [0x20, 0x21, 0x22, 9, 10, 0x31, 0x32]) :
    exec (.mts sr) s = .next (s.completed s.dir 1) := by
  have hne : sr ≠ 0x0C := by
    rintro rfl
    exact absurd hsr (by decide)
  simp only [List.mem_cons, List.not_mem_nil, or_false] at hsr
  rcases hsr with rfl | rfl | rfl | rfl | rfl | rfl | rfl <;> exact exec_mts_dir h hs hne rfl rfl rfl rfl

/-- FLAGS written by unprivileged code (R120). -/
theorem exec_mts_flags_unprivileged (h : s.issuesAlone) (hp : s.dir.priv = false) :
    exec (.mts 5) s = .next (s.completed { s.dir with
      c := s.dir.a.getLsbD 0, v := s.dir.a.getLsbD 1, dv := s.dir.a.getLsbD 2, dvz := s.dir.a.getLsbD 3 } 1) :=
  exec_mts_upDir h (State.mayName_of_unmarked rfl rfl (by decide)) (by decide) rfl rfl (writeFlags_unprivileged s.dir.a hp) rfl rfl

/-- FLAGS written by privileged code (R119): PRIV, CWP and MAINT stay. -/
theorem exec_mts_flags_privileged (h : s.issuesAlone) (hp : s.dir.priv = true) :
    exec (.mts 5) s = .next (s.completed { s.dir with
      c := s.dir.a.getLsbD 0, v := s.dir.a.getLsbD 1, dv := s.dir.a.getLsbD 2, dvz := s.dir.a.getLsbD 3, ie := s.dir.a.getLsbD 15,
      ipl := fld s.dir.a 16 3 } 1) :=
  exec_mts_upDir h (State.mayName_of_unmarked rfl rfl (by decide)) (by decide) rfl rfl (writeFlags_privileged s.dir.a hp) rfl rfl

/-- WSEL takes a REG of at most 20. -/
theorem exec_mts_wsel (h : s.issuesAlone) (hp : s.dir.priv = true) (hr : (fld s.dir.a 0 5 : BitVec 5).toNat ≤ 20) :
    exec (.mts 7) s = .next (s.completed { s.dir with wsel := fld s.dir.a 0 9 } 1) := by
  have hlegal : srReserved 7 s.dir.a = false := decide_eq_false (Nat.not_lt.mpr hr)
  refine exec_mts_dir h (State.mayName_of_priv hp rfl) (by decide) hlegal ?_ rfl rfl
  simp only [State.writeSr, hlegal, Bool.false_eq_true, if_false, fld_append_fld]
  rfl

/-- A reserved REG stays as it was (R11). -/
theorem exec_mts_wsel_reserved (h : s.issuesAlone) (hp : s.dir.priv = true) (hr : 20 < (fld s.dir.a 0 5 : BitVec 5).toNat) :
    exec (.mts 7) s = .next ((s.completed { s.dir with wsel := (fld s.dir.a 5 4 : BitVec 4) ++ (fld s.dir.wsel 0 5 : BitVec 5) } 1).occur
      11 0 ((2#2 ++ 7#25 ++ 0#6 : BitVec 33).setWidth 64) false) := by
  have hres : srReserved 7 s.dir.a = true := decide_eq_true hr
  refine exec_mts_reserved (f := id) h (State.mayName_of_priv hp rfl) (by decide) hres ?_ rfl rfl (fun _ => ⟨rfl, rfl⟩)
  simp only [State.writeSr, hres, if_true]
  rfl

/-- A low or middle word of a compare unit. -/
theorem exec_mts_wtuPart (h : s.issuesAlone) (hp : s.dir.priv = true) (u : BitVec 2) {k : Nat} (hk : k < 2) :
    exec (.mts (0x24 + 3 * u.setWidth 6 + BitVec.ofNat 6 k)) s =
      .next (s.completed { s.dir with wtuw := Tab.set 0 s.dir.wtuw (3 * u.toNat + k) s.dir.a } 1) := by
  have hsr := wtuPart_toNat u hk
  have hlt : 3 * u.toNat + k < 12 := by have := u.isLt; omega
  refine exec_mts_upDir h (State.mayName_of_priv hp (hsr ▸ srIllegal_wtu hlt)) (sr_ne_of_toNat hsr (by decide))
    (hsr ▸ srReserved_high _ (by omega)) ?_ (setWtu_part s.dir.a s.dir hk) rfl rfl
  rw [hsr, State.writeSr_wtuWord _ _ hlt]

/-- The high word of a compare unit arms it (R161). -/
theorem exec_mts_wtuHigh (h : s.issuesAlone) (hp : s.dir.priv = true) (u : BitVec 2) :
    exec (.mts (0x26 + 3 * u.setWidth 6)) s = .next (s.completed (s.dir.armWtu u.toNat s.dir.a) 1) := by
  have hsr := wtuHigh_toNat u
  have hlt : 3 * u.toNat + 2 < 12 := by have := u.isLt; omega
  refine exec_mts_upDir h (State.mayName_of_priv hp (hsr ▸ srIllegal_wtu hlt)) (sr_ne_of_toNat hsr (by decide))
    (hsr ▸ srReserved_high _ (by omega)) ?_ (setWtu_high u.toNat s.dir.a s.dir) rfl rfl
  rw [hsr, State.writeSr_wtuWord _ _ hlt]

/-- The three parts of EVM. -/
theorem exec_mts_evm (h : s.issuesAlone) (hp : s.dir.priv = true) :
    exec (.mts 0x18) s = .next (s.completed { s.dir with evm := putFld s.dir.evm 0 s.dir.a } 1) ∧
      exec (.mts 0x19) s = .next (s.completed { s.dir with evm := putFld s.dir.evm 24 s.dir.a } 1) ∧
      exec (.mts 0x1A) s = .next (s.completed { s.dir with evm := putFld s.dir.evm 48 (fld s.dir.a 0 16 : BitVec 16) } 1) := by
  exact ⟨exec_mts_upDir h (State.mayName_of_priv hp rfl) (by decide) rfl rfl (setEvm_word 0 s.dir.a s.dir) rfl rfl,
    exec_mts_upDir h (State.mayName_of_priv hp rfl) (by decide) rfl rfl (setEvm_word 24 s.dir.a s.dir) rfl rfl,
    exec_mts_dir h (State.mayName_of_priv hp rfl) (by decide) rfl rfl rfl rfl⟩

/-- A write of 1 to a part of EVP clears. -/
theorem exec_mts_evp (h : s.issuesAlone) (hp : s.dir.priv = true) :
    exec (.mts 0x1B) s = .next (s.completed { s.dir with evp := s.dir.evp &&& ~~~ s.dir.a.setWidth 64 } 1) ∧
      exec (.mts 0x1C) s = .next (s.completed { s.dir with evp := s.dir.evp &&& ~~~ (s.dir.a.setWidth 64 <<< 24) } 1) ∧
      exec (.mts 0x1D) s = .next (s.completed { s.dir with evp := s.dir.evp &&& ~~~ (s.dir.a.setWidth 64 <<< 48) } 1) := by
  exact ⟨exec_mts_upDir h (State.mayName_of_priv hp rfl) (by decide) rfl rfl (clearEvp_low s.dir.a s.dir) rfl rfl,
    exec_mts_upDir h (State.mayName_of_priv hp rfl) (by decide) rfl rfl (clearEvp_middle s.dir.a s.dir) rfl rfl,
    exec_mts_upDir h (State.mayName_of_priv hp rfl) (by decide) rfl rfl (clearEvp_high s.dir.a s.dir) rfl rfl⟩

theorem exec_mtsWtuvh (u : BitVec 2) (s : State) : exec (.mtsWtuvh u) s = exec (.mts (0x26 + 3 * u.setWidth 6)) s := by
  have hsr : 0x26 + 3 * u.toNat = (0x26 + 3 * u.setWidth 6 : BitVec 6).toNat := by rw [wtuHigh_toNat]; omega
  have hne : (0x26 + 3 * u.setWidth 6 : BitVec 6) ≠ 0x0C := sr_ne_of_toNat (wtuHigh_toNat u) (by decide)
  change execMtsWtuvh u s = execMts _ s
  rw [execMtsWtuvh, execMts, if_neg hne, hsr]

end Writes

end Sys2Proof.Machine

namespace Sys2Proof
open Machine

theorem readSpecialRegister : Claim.ReadSpecialRegister := by
  refine ⟨fun s sr h hs hp hf => ⟨?value, ?product, ?tbl⟩, fun s => ?values⟩
  case value => exact exec_mfs_value h ⟨hs, hp, hf⟩
  case product =>
    rintro m rfl v (⟨rfl, rfl⟩ | ⟨rfl, rfl⟩)
    · exact exec_mfs_product h ⟨hs, hp, hf⟩ (.inl rfl)
    · exact exec_mfs_product h ⟨hs, hp, hf⟩ (.inr rfl)
  case tbl =>
    rintro T rfl t rfl
    refine ⟨exec_mfsTbl h, ?_⟩
    rintro rfl
    exact exec_mfsTbl h
  case values =>
    exact ⟨rfl, rfl, rfl, rfl, rfl, rfl, rfl, rfl, rfl, rfl, rfl, fun n => s.srValue_aa, rfl, rfl, rfl, rfl, rfl, rfl, rfl,
      fld_high_setWidth s.dir.tbl, fun n => s.srValue_wtuWord, rfl, rfl, rfl, rfl, rfl, rfl, rfl, rfl, rfl, rfl, rfl, rfl, rfl, rfl⟩

theorem writeSpecialRegister : Claim.WriteSpecialRegister := by
  rintro s _ _ h rfl rfl
  refine ⟨?length, ?dp, ?rc, ?ph, exec_mts_fpcr h, fun hf hm _ => exec_mts_fpcr_reserved h hf hm, exec_mts_aa h, ?time,
    exec_mts_flags_unprivileged h, fun hp => ?privileged⟩
  case length =>
    rintro L rfl
    exact ⟨exec_mts_length h, fun hL _ _ hsr => exec_mts_length_reserved h hL hsr⟩
  case dp => exact exec_mts_dir h (State.mayName_of_unmarked rfl rfl (by decide)) (by decide) rfl rfl rfl rfl
  case rc => exact exec_mts_dir h (State.mayName_of_unmarked rfl rfl (by decide)) (by decide) rfl rfl rfl rfl
  case ph => exact exec_mts_dir h (State.mayName_of_unmarked rfl rfl (by decide)) (by decide) rfl rfl rfl rfl
  case time =>
    intro sr hsr
    have hs : ∀ r ∈ [0x20, 0x21, 0x22], srIllegal (BitVec.toNat (w := 6) r) = false ∧ srPriv r.toNat = false ∧ r ≠ 6 := by decide
    obtain ⟨h1, h2, h3⟩ := hs sr hsr
    exact exec_mts_readOnly h (State.mayName_of_unmarked h1 h2 h3) (List.mem_append_left [9, 10, 0x31, 0x32] hsr)
  case privileged =>
    obtain ⟨evm0, evm1, evm2⟩ := exec_mts_evm h hp
    obtain ⟨evp0, evp1, evp2⟩ := exec_mts_evp h hp
    refine ⟨exec_mts_flags_privileged h hp, exec_mts_wsel h hp, fun hr _ => exec_mts_wsel_reserved h hp hr, ?wdat, ?readOnly,
      exec_mts_sys h hp rfl (by decide) rfl rfl (fun _ => ⟨rfl, rfl⟩), ?sfop, evm0, evm1, evm2, evp0, evp1, evp2, ?wtu,
      exec_mts_sys h hp rfl (by decide) rfl rfl (fun _ => ⟨rfl, rfl⟩),
      exec_mts_sys h hp rfl (by decide) rfl rfl (fun _ => ⟨rfl, rfl⟩),
      exec_mts_sys h hp rfl (by decide) rfl rfl (fun _ => ⟨rfl, rfl⟩),
      exec_mts_sys h hp rfl (by decide) rfl rfl (fun _ => ⟨rfl, rfl⟩),
      exec_mts_sys h hp rfl (by decide) rfl rfl (fun _ => ⟨rfl, rfl⟩),
      exec_mts_sys h hp rfl (by decide) rfl rfl (fun _ => ⟨rfl, rfl⟩),
      exec_mts_sys h hp rfl (by decide) rfl rfl (fun _ => ⟨rfl, rfl⟩),
      exec_mts_sys h hp rfl (by decide) rfl rfl (fun _ => ⟨rfl, rfl⟩),
      exec_mts_sys h hp rfl (by decide) rfl rfl (fun _ => ⟨rfl, rfl⟩),
      exec_mts_sys h hp rfl (by decide) rfl rfl (fun _ => ⟨rfl, rfl⟩),
      exec_mts_sys h hp rfl (by decide) rfl rfl (fun _ => ⟨rfl, rfl⟩),
      ?afload, ?dstate⟩
    case wdat => exact exec_mts_dir h (State.mayName_of_priv hp rfl) (by decide) rfl rfl (setWdat_pc _ _) (setWdat_cyc _ _)
    case readOnly =>
      intro sr hsr
      have hs : ∀ r ∈ [9, 10, 0x31, 0x32], srIllegal (BitVec.toNat (w := 6) r) = false := by decide
      exact exec_mts_readOnly h (State.mayName_of_priv hp (hs sr hsr)) (List.mem_append_right [0x20, 0x21, 0x22] hsr)
    case sfop =>
      rintro b hb
      rw [exec_mts_sfop h hp, ← hb]
      refine ⟨?_, ?_, ?_, ?_, ?_, sfopOne_retires h hp b⟩
      · rintro rfl
        exact sfopOne_none h hp
      all_goals
        rintro rfl
        rfl
    case wtu =>
      rintro u _
      refine ⟨fun k hk => exec_mts_wtuPart h hp u hk, ?_⟩
      rintro rfl d rfl
      exact ⟨(exec_mtsWtuvh u s).trans (exec_mts_wtuHigh h hp u), exec_mts_wtuHigh h hp u⟩
    case afload =>
      rintro f rfl
      have hw := exec_mts_sys (sr := 0x3D) (f := Dsys.afload s.dir.a) h hp rfl (by decide) rfl rfl (fun _ => ⟨rfl, rfl⟩)
      exact ⟨hw, hw⟩
    case dstate =>
      rintro f rfl
      have hw := exec_mts_sys (sr := 0x3E) (f := fun y => { y with normal := y.normal || s.dir.a.getLsbD 0 }) h hp
        rfl (by decide) rfl rfl (fun _ => ⟨rfl, rfl⟩)
      exact ⟨hw, hw⟩

/-- Settles O14: an MFS or MTS whose checks pass performs readSr or writeSr and retires, which commutes with the record of REG_RSVD, since
no detector below class F takes part in the Director's state. -/
theorem specialRegisters : Obligations.SpecialRegisters :=
  ⟨readSpecialRegister, writeSpecialRegister⟩

end Sys2Proof

namespace Sys2Proof.Machine

/-! ## The values of Table 5-2, R165, R167 and R168 -/

/-- A sum without carry in is the sum of bit vectors with the library's carry and overflow. -/
theorem addC_false (a b : Word) :
    addC a b false = ⟨a + b, decide (16777216 ≤ a.toNat + b.toNat), BitVec.saddOverflow a b⟩ := by
  have hval : BitVec.ofNat 24 (a.toNat + b.toNat) = a + b := rfl
  have hv : BitVec.saddOverflow a b = (decide (a.toInt + b.toInt < -8388608) || decide (8388607 < a.toInt + b.toInt)) :=
    Bool.or_comm _ _
  rw [hv, ← hval]
  simp [addC]

/-- A difference without borrow in. -/
theorem subC_false (a b : Word) : subC a b false = ⟨a - b, a.ult b, BitVec.ssubOverflow a b⟩ := by
  have hv : BitVec.ssubOverflow a b = (decide (a.toInt - b.toInt < -8388608) || decide (8388607 < a.toInt - b.toInt)) :=
    Bool.or_comm _ _
  rw [hv]
  simp [subC, BitVec.ult]

/-- 48 bits hold every signed product. -/
theorem mul48_toInt (a b : Word) : (mul48 true a b).toInt = a.toInt * b.toInt := by
  have hlow : -(2 ^ 46 : Int) ≤ a.toInt * b.toInt := BitVec.le_toInt_mul_toInt
  have hhigh : a.toInt * b.toInt ≤ (2 ^ 46 : Int) := BitVec.toInt_mul_toInt_le
  calc (mul48 true a b).toInt = (a.toInt * b.toInt).bmod (2 ^ 48) := by
        simp only [mul48, if_true, BitVec.toInt_mul, BitVec.toInt_signExtend_of_le (by decide : 24 ≤ 48)]
    _ = a.toInt * b.toInt := Int.bmod_eq_of_le_mul_two (by omega) (by omega)

/-- 48 bits hold every unsigned product. -/
theorem mul48_toNat (a b : Word) : (mul48 false a b).toNat = a.toNat * b.toNat := by
  have hfits : a.toNat * b.toNat < 2 ^ 24 * 2 ^ 24 := Nat.mul_lt_mul'' a.isLt b.isLt
  have hmul := BitVec.toNat_mul_of_lt (x := a.setWidth 48) (y := b.setWidth 48)
  simp only [BitVec.toNat_setWidth_of_le (by decide : 24 ≤ 48)] at hmul
  exact hmul hfits

/-- A decimal digit below position k is not changed by a reduction modulo 10^k. -/
theorem digit_mod_pow {i k : Nat} (n : Nat) (h : i < k) : n % 10 ^ k / 10 ^ i % 10 = n / 10 ^ i % 10 := by
  obtain ⟨j, rfl⟩ := Nat.exists_eq_add_of_lt h
  rw [Nat.add_assoc, Nat.pow_add, Nat.mod_mul_right_div_self, Nat.mod_mod_of_dvd _ ⟨10 ^ j, Nat.pow_succ'⟩]

/-- The packed form holds six digits. -/
theorem bcdPack_mod (n : Nat) : bcdPack (n % 1000000) = bcdPack n := by
  refine congrArg (BitVec.ofNat 24) (List.foldl_rel (r := Eq) rfl fun i hi t _ ht => ?_)
  rw [ht, show 1000000 = 10 ^ 6 from rfl, digit_mod_pow n (List.mem_range.mp hi)]

section Divide

variable {a g : Word}

theorem div24_unsigned_zero (h : g = 0) : div24 false a g = (0xFFFFFF, a, true) := if_pos h

theorem div24_signed_zero (h : g = 0) : div24 true a g = (if a.msb then 0x800000 else 0x7FFFFF, a, true) := if_pos h

theorem div24_signed_overflow (h : a = 0x800000 ∧ g = 0xFFFFFF) : div24 true a g = (0x800000, 0, false) := by
  obtain ⟨rfl, rfl⟩ := h
  rfl

theorem div24_unsigned (h : g ≠ 0) : div24 false a g = (a / g, a % g, false) := if_neg h

theorem div24_signed (h : g ≠ 0) (hc : ¬(a = 0x800000 ∧ g = 0xFFFFFF)) :
    div24 true a g = (BitVec.ofInt 24 (a.toInt.tdiv g.toInt), BitVec.ofInt 24 (a.toInt.tmod g.toInt), false) :=
  (if_neg h).trans (if_neg hc)

end Divide

/-! ## What the operations leave in the registers -/

section Registers

variable (d : Dir) (b : Word) (g : BitVec 3)

theorem Dir.addA_false : d.addA b false =
    { d with a := d.a + b, c := decide (16777216 ≤ d.a.toNat + b.toNat), v := BitVec.saddOverflow d.a b } := by
  simp only [Dir.addA, addC_false]

theorem Dir.subA_false : d.subA b false = { d with a := d.a - b, c := d.a.ult b, v := BitVec.ssubOverflow d.a b } := by
  simp only [Dir.subA, subC_false]

/-- PH : A takes the product p (R165). -/
def Dir.takeProduct (p : BitVec 48) (d : Dir) : Dir := { d with a := fld p 0 24, ph := fld p 24 24 }

/-- The product p enters the maintenance pipeline at Director cycle n and leaves it three cycles later (R166). -/
def Dsys.enterProduct (p : BitVec 48) (n : Nat) (y : Dsys) : Dsys := { y with mpipe := y.mpipe ++ [(p, n + 3)] }

theorem State.multiply_normal {s : State} (h : s.sys.normal = true) (signed : Bool) :
    s.multiply signed b = s.withDirector (s.dir.takeProduct (mul48 signed s.dir.a b)) s.sys := by
  unfold State.multiply
  exact if_pos h

theorem State.multiply_maintenance {s : State} (h : s.sys.normal = false) (signed : Bool) :
    s.multiply signed b = s.upSys (Dsys.enterProduct (mul48 signed s.dir.a b) s.dir.cyc) := by
  unfold State.multiply
  exact if_neg (by simp [h])

/-- A division that finds no zero divisor leaves DVZ. -/
theorem Dir.divide_of_div24 {d : Dir} {g : BitVec 3} {signed : Bool} {q r : Word} (h : div24 signed d.a (d.g g) = (q, r, false)) :
    d.divide signed g = { d with a := q, ph := r } := by
  simp only [Dir.divide, h, Bool.or_false]

/-- One that finds a zero divisor sets it (Table 6-3). -/
theorem Dir.divide_of_div24_zero {d : Dir} {g : BitVec 3} {signed : Bool} {q r : Word} (h : div24 signed d.a (d.g g) = (q, r, true)) :
    d.divide signed g = { d with a := q, ph := r, dvz := true } := by
  simp only [Dir.divide, h, Bool.or_true]

theorem Dir.decimal_add : d.decimal false g = { d with
    a := bcdPack ((bcdVal d.a + bcdVal (d.g g)) % 1000000), ph := if 1000000 ≤ bcdVal d.a + bcdVal (d.g g) then 1 else 0,
    dv := d.dv || bcdBad d.a || bcdBad (d.g g) } := by
  simp only [Dir.decimal, dadd24, bcdPack_mod, Bool.or_assoc, Bool.false_eq_true, if_false]

theorem Dir.decimal_sub : d.decimal true g = { d with
    a := bcdPack ((bcdVal d.a + 1000000 - bcdVal (d.g g)) % 1000000), ph := if bcdVal d.a < bcdVal (d.g g) then 1 else 0,
    dv := d.dv || bcdBad d.a || bcdBad (d.g g) } := by
  simp only [Dir.decimal, dsub24, bcdPack_mod, Bool.or_assoc, if_true]

@[simp] theorem modify_pc (y : Bool) (m : Mod) : (modify y m d).pc = d.pc := by
  cases y <;> rfl

@[simp] theorem modify_cyc (y : Bool) (m : Mod) : (modify y m d).cyc = d.cyc := by
  cases y <;> rfl

end Registers

/-! ## Multiply, group 0xB and group 0x4 -/

section Execution

variable {s : State}

/-- A legal instruction that belongs to any code, of n cycles. -/
theorem State.issue_plain (h : s.issuesAlone) (n : Nat) {illegal : Bool} (hi : illegal = false) (body : State → Res) :
    s.issue { Info.plain n with illegal := illegal } body = s.perform n body :=
  State.issue_performs ⟨h.1, h.2.1⟩ (.inl h.2.2) hi (.inl rfl) (.inl rfl) (.inl rfl)

/-- One that leaves the registers d. -/
theorem State.issue_plain_done {d : Dir} {body : State → Res} (h : s.issuesAlone) (n : Nat) {illegal : Bool} (hi : illegal = false)
    (hb : body s.slotTaken = .done (s.slotTaken.withDirector d s.slotTaken.sys)) (hpc : d.pc = s.dir.pc) (hcyc : d.cyc = s.dir.cyc) :
    s.issue { Info.plain n with illegal := illegal } body = s.completed d n :=
  (State.issue_plain h n hi body).trans (State.perform_done ⟨h.1, h.2.1⟩ hb hpc hcyc)

theorem State.issue_multiply_normal (h : s.issuesAlone) (hn : s.sys.normal = true) (signed : Bool) (g : BitVec 3) :
    s.issue (Info.plain 1) (fun t => .done (t.multiply signed (t.dir.g g))) =
      s.completed (s.dir.takeProduct (mul48 signed s.dir.a (s.dir.g g))) 1 :=
  State.issue_plain_done h 1 rfl (congrArg Res.done (State.multiply_normal (s.dir.g g) (s := s.slotTaken) hn signed)) rfl rfl

theorem State.issue_multiply_maintenance (h : s.issuesAlone) (hn : s.sys.normal = false) (signed : Bool) (g : BitVec 3) :
    s.issue (Info.plain 1) (fun t => .done (t.multiply signed (t.dir.g g))) =
      (s.completed s.dir 1).upSys (Dsys.enterProduct (mul48 signed s.dir.a (s.dir.g g)) s.dir.cyc) :=
  (State.issue_plain h 1 rfl _).trans (State.perform_registers h
    (congrArg Res.done (State.multiply_maintenance (s.dir.g g) (s := s.slotTaken) hn signed)) rfl rfl (fun _ => ⟨rfl, rfl⟩))

/-- An instruction of group 0xB whose must-be-0 field is 0 and whose effect leaves the registers d. -/
theorem State.issue_groupB {f : Dir → Dir} {d : Dir} (h : s.issuesAlone) (n : Nat) (hf : f s.dir = d) (hpc : d.pc = s.dir.pc)
    (hcyc : d.cyc = s.dir.cyc) : s.issue { Info.plain n with illegal := (0 : BitVec 3) != 0 } (regs f) = s.completed d n :=
  State.issue_plain_done h n rfl (congrArg (fun d => Res.done (s.slotTaken.withDirector d s.slotTaken.sys)) hf) hpc hcyc

theorem exec_divu {d : Dir} {g : BitVec 3} (h : s.issuesAlone) (hd : s.dir.divide false g = d) (hpc : d.pc = s.dir.pc)
    (hcyc : d.cyc = s.dir.cyc) : exec (.divu 0 g) s = .next (s.completed d 14) :=
  congrArg Host.Outcome.next (State.issue_groupB h 14 hd hpc hcyc)

theorem exec_divs {d : Dir} {g : BitVec 3} (h : s.issuesAlone) (hd : s.dir.divide true g = d) (hpc : d.pc = s.dir.pc)
    (hcyc : d.cyc = s.dir.cyc) : exec (.divs 0 g) s = .next (s.completed d 14) :=
  congrArg Host.Outcome.next (State.issue_groupB h 14 hd hpc hcyc)

/-- A memory operation of group 0x4 whose word is readable and whose effect on the word at the index leaves the registers d: the index
register is modified last (R129). -/
theorem State.indexedOp_completes {am : BitVec 4} {y : Bool} {m : Mod} {f : Word → State → State} {d : Dir} (h : s.issuesAlone)
    (ham : amode am = some (y, m)) (hr : s.readable (indexAddr s.dir y))
    (hf : f (s.word (indexAddr s.dir y)) s.slotTaken = s.slotTaken.withDirector d s.slotTaken.sys) (hpc : d.pc = s.dir.pc)
    (hcyc : d.cyc = s.dir.cyc) : s.indexedOp am f = .next (s.completed (modify y m d) 1) := by
  have hload : s.slotTaken.load (indexAddr s.dir y) = .ok (s.word (indexAddr s.dir y)) s.slotTaken :=
    State.load_readable (s := s.slotTaken) hr
  have hbody : ((s.slotTaken.load (indexAddr s.dir y)).andThen fun v u => (f v u).upDir (modify y m)) =
      .done (s.slotTaken.withDirector (modify y m d) s.slotTaken.sys) := by
    rw [hload, Acc.andThen, hf]
    rfl
  rw [State.indexedOp, State.indexed, ham]
  exact congrArg Host.Outcome.next
    (State.issue_plain_done h 1 rfl hbody ((modify_pc d y m).trans hpc) ((modify_cyc d y m).trans hcyc))

end Execution

end Sys2Proof.Machine

namespace Sys2Proof
open Machine

theorem multiply : Claim.Multiply := by
  refine fun s g h => ⟨⟨_, mul48_toInt _ _, fun hn => ?_, fun hn => ?_⟩, _, mul48_toNat _ _, fun hn => ?_, fun hn => ?_⟩
  · exact congrArg Host.Outcome.next (State.issue_multiply_normal h hn true g)
  · exact congrArg Host.Outcome.next (State.issue_multiply_maintenance h hn true g)
  · exact congrArg Host.Outcome.next (State.issue_multiply_normal h hn false g)
  · exact congrArg Host.Outcome.next (State.issue_multiply_maintenance h hn false g)

theorem memoryOperations : Claim.MemoryOperations := by
  rintro s am y m _ _ h ham rfl hr rfl
  refine ⟨?add, ?sub, ?and, ?or, ?xor, fun hn => ⟨_, _, mul48_toInt _ _, mul48_toNat _ _, ?mul, ?mulu⟩⟩
  case add => exact State.indexedOp_completes h ham hr (congrArg (s.slotTaken.withDirector · _) (s.dir.addA_false _)) rfl rfl
  case sub => exact State.indexedOp_completes h ham hr (congrArg (s.slotTaken.withDirector · _) (s.dir.subA_false _)) rfl rfl
  case and => exact State.indexedOp_completes h ham hr rfl rfl rfl
  case or => exact State.indexedOp_completes h ham hr rfl rfl rfl
  case xor => exact State.indexedOp_completes h ham hr rfl rfl rfl
  case mul => exact State.indexedOp_completes h ham hr (State.multiply_normal _ (s := s.slotTaken) hn true) rfl rfl
  case mulu => exact State.indexedOp_completes h ham hr (State.multiply_normal _ (s := s.slotTaken) hn false) rfl rfl

theorem divideAndDecimal : Claim.DivideAndDecimal := by
  refine fun s g h => ⟨fun hz => ⟨?divuZero, ?divsZero⟩, fun hz => ⟨?divu, ?divsOverflow, ?divs⟩, ?dadd, ?dsub⟩
  case divuZero => exact exec_divu h (Dir.divide_of_div24_zero (div24_unsigned_zero hz)) rfl rfl
  case divsZero => exact exec_divs h (Dir.divide_of_div24_zero (div24_signed_zero hz)) rfl rfl
  case divu => exact exec_divu h (Dir.divide_of_div24 (div24_unsigned hz)) rfl rfl
  case divsOverflow => exact fun hc => exec_divs h (Dir.divide_of_div24 (div24_signed_overflow hc)) rfl rfl
  case divs => exact fun hc => exec_divs h (Dir.divide_of_div24 (div24_signed hz hc)) rfl rfl
  case dadd => exact congrArg Host.Outcome.next (State.issue_groupB h 1 (s.dir.decimal_add g) rfl rfl)
  case dsub => exact congrArg Host.Outcome.next (State.issue_groupB h 1 (s.dir.decimal_sub g) rfl rfl)

/-- Settles O4: 48 bits hold every product of two words, and the word of an indexed operation is read before its index is modified; a
reduction modulo 10^6 keeps the six digits of the packed form. -/
theorem multiplyDivideDecimal : Obligations.MultiplyDivideDecimal :=
  ⟨multiply, memoryOperations, divideAndDecimal⟩

end Sys2Proof

namespace Sys2Proof.Machine

/-! ## Splice memories and queue controllers (R371 to R374) -/

theorem State.only_refl (bs : List Block) (s : State) : State.only bs s s := by
  intro b _
  cases b <;> rfl

/-- The frame of an update of the Splice fabric. -/
theorem State.only.upSpl {s t : State} (h : State.only [.spl] s t) (f : Splice → Splice) : State.only [.spl] s (t.upSpl f) := by
  intro b hb
  cases b with
  | spl => exact absurd (List.mem_singleton_self _) hb
  | _ => exact h _ hb

theorem State.only.qWrite {s t : State} (h : State.only [.spl] s t) (q w : Nat) (v : BitVec 36) : State.only [.spl] s (t.qWrite q w v) :=
  h.upSpl _

theorem State.only.qOut {s t : State} (h : State.only [.spl] s t) (q : Nat) (rd : Option (BitVec 36)) :
    State.only [.spl] s (t.qOut q rd) :=
  h.upSpl _

theorem State.armedFor_unarmed {s : State} (h : s.err.armed = none) (det : Nat) (fits : Nat → Nat → Bool) :
    s.armedFor det fits = false := by
  simp [State.armedFor, h]

/-- A correctable word is read as stored, with no occurrence. -/
theorem State.qRead_clean {s : State} {q w : Nat} (h : s.wordClean q w) :
    s.qRead q w = (Tab.get 0 s.spl.qmem (4096 * q + w), false, s) := by
  obtain ⟨harmed, hclean⟩ := h
  simp [State.qRead, State.armedFor_unarmed harmed, hclean]

section Ports

variable (s : State) (q w : Nat) (v : BitVec 36) (rd : Option (BitVec 36))

@[simp] theorem State.qOut_qmem : (s.qOut q rd).spl.qmem = s.spl.qmem := by cases rd <;> rfl
@[simp] theorem State.qOut_qfill : (s.qOut q rd).spl.qfill = s.spl.qfill := by cases rd <;> rfl
@[simp] theorem State.qOut_qhead : (s.qOut q rd).spl.qhead = s.spl.qhead := by cases rd <;> rfl
@[simp] theorem State.qOut_qpush : (s.qOut q rd).spl.qpush = s.spl.qpush := by cases rd <;> rfl
@[simp] theorem State.qOut_qovf : (s.qOut q rd).spl.qovf = s.spl.qovf := by cases rd <;> rfl
@[simp] theorem State.qOut_queue (k : Nat) : (s.qOut q rd).spl.queue k = s.spl.queue k := by cases rd <;> rfl
@[simp] theorem State.qOut_some_qrd : (s.qOut q (some v)).spl.qrd = Tab.set 0 s.spl.qrd q v := rfl

@[simp] theorem State.qWrite_qmem : (s.qWrite q w v).spl.qmem = Tab.set 0 s.spl.qmem (4096 * q + w) v := rfl
@[simp] theorem State.qWrite_qfill : (s.qWrite q w v).spl.qfill = s.spl.qfill := rfl
@[simp] theorem State.qWrite_qhead : (s.qWrite q w v).spl.qhead = s.spl.qhead := rfl
@[simp] theorem State.qWrite_qpush : (s.qWrite q w v).spl.qpush = s.spl.qpush := rfl
@[simp] theorem State.qWrite_qovf : (s.qWrite q w v).spl.qovf = s.spl.qovf := rfl
@[simp] theorem State.qWrite_qrd : (s.qWrite q w v).spl.qrd = s.spl.qrd := rfl

end Ports

section Controllers

variable {s : State} {q : Nat} {v : BitVec 36}

theorem State.fifoPop_empty (h : Tab.get 0 s.spl.qfill q = 0) :
    s.fifoPop q = s.upSpl (fun x => { x with
      qunf := Tab.upd 0 x.qunf q satInc, qvalid := Tab.set false x.qvalid q false }) :=
  if_pos h

/-- A pop of a FIFO that is not empty answers the word at its head. -/
theorem State.fifoPop_word (h : 0 < Tab.get 0 s.spl.qfill q) (hc : s.wordClean q (Tab.get 0 s.spl.qhead q)) :
    s.fifoPop q = s.upSpl (fun x => { x with
      qrd := Tab.set 0 x.qrd q (Tab.get 0 x.qmem (4096 * q + Tab.get 0 s.spl.qhead q)), qvalid := Tab.set false x.qvalid q true,
      qhead := Tab.set 0 x.qhead q ((Tab.get 0 s.spl.qhead q + 1) % (s.spl.queue q).depth),
      qfill := Tab.set 0 x.qfill q (Tab.get 0 s.spl.qfill q - 1) }) := by
  simp only [State.fifoPop, Nat.ne_of_gt h, if_false, State.qRead_clean hc]
  rfl

theorem State.fifoPush_full (h : (s.spl.queue q).depth ≤ Tab.get 0 s.spl.qfill q) :
    s.fifoPush q v = s.upSpl (fun x => { x with qovf := Tab.upd 0 x.qovf q satInc }) :=
  if_pos h

/-- A push to a FIFO that is not full writes the place after its youngest word. -/
theorem State.fifoPush_room (h : Tab.get 0 s.spl.qfill q < (s.spl.queue q).depth) :
    s.fifoPush q v = (s.qWrite q ((Tab.get 0 s.spl.qhead q + Tab.get 0 s.spl.qfill q) % (s.spl.queue q).depth) v).upSpl
      (fun x => { x with qfill := Tab.set 0 x.qfill q (Tab.get 0 s.spl.qfill q + 1) }) :=
  if_neg (Nat.not_le.mpr h)

/-- A push of a DELAY line whose place holds a correctable word. -/
theorem State.delayPush_clean (h : s.wordClean q (Tab.get 0 s.spl.qpush q % (s.spl.queue q).depth)) :
    s.delayPush q v =
      ((s.qWrite q (Tab.get 0 s.spl.qpush q % (s.spl.queue q).depth) v).upSpl
        (fun x => { x with qpush := Tab.set 0 x.qpush q (Tab.get 0 s.spl.qpush q + 1) })).qOut q
        (some (if Tab.get 0 s.spl.qpush q < (s.spl.queue q).depth then 0
          else Tab.get 0 s.spl.qmem (4096 * q + Tab.get 0 s.spl.qpush q % (s.spl.queue q).depth))) := by
  simp only [State.delayPush, State.qRead_clean h]
  split <;> rfl

/-- The place for a push after a pop in a ring of d places is the one for the push alone. -/
theorem ring_place_after_pop {n : Nat} (d h : Nat) (hn : 0 < n) : ((h + 1) % d + (n - 1)) % d = (h + n) % d := by
  rw [Nat.mod_add_mod, show h + 1 + (n - 1) = h + n by omega]

theorem State.fifo_push : s.fifo q (some v) false = (s.qOut q none).fifoPush q v := rfl

/-- A FIFO of between one and DEPTH words that is popped and pushed in one cycle takes the new word, even when it was full: the pop
comes first (R372). -/
theorem State.fifo_pop_push (h : 0 < Tab.get 0 s.spl.qfill q) (hd : Tab.get 0 s.spl.qfill q ≤ (s.spl.queue q).depth)
    (hc : s.wordClean q (Tab.get 0 s.spl.qhead q)) (hfill : Tab.wf 0 s.spl.qfill = true) (hhead : Tab.wf 0 s.spl.qhead = true) :
    s.fifo q (some v) true = ((s.fifoPop q).qWrite q
      ((Tab.get 0 s.spl.qhead q + Tab.get 0 s.spl.qfill q) % (s.spl.queue q).depth) v).upSpl
        (fun x => { x with qfill := Tab.set 0 x.qfill q (Tab.get 0 s.spl.qfill q) }) := by
  have hf : Tab.get 0 (s.fifoPop q).spl.qfill q = Tab.get 0 s.spl.qfill q - 1 := by
    rw [State.fifoPop_word h hc]; exact Tab.get_set_same hfill _ _
  have hh : Tab.get 0 (s.fifoPop q).spl.qhead q = (Tab.get 0 s.spl.qhead q + 1) % (s.spl.queue q).depth := by
    rw [State.fifoPop_word h hc]; exact Tab.get_set_same hhead _ _
  have hq : (s.fifoPop q).spl.queue q = s.spl.queue q := by rw [State.fifoPop_word h hc]; rfl
  calc (s.fifoPop q).fifoPush q v = _ := State.fifoPush_room (by rw [hf, hq]; omega)
    _ = _ := by rw [hf, hh, hq, ring_place_after_pop _ _ h, Nat.sub_add_cancel h]

end Controllers

/-! ## The commands of the queue controllers -/

section Commands

variable {s : State} {q : BitVec 4} (v : BitVec 36) (a : BitVec 12) (pop : Bool)

theorem exec_queuePush (h : s.qMode q 0 = true) : exec (.queuePush q v pop) s = .next (s.fifo q.toNat (some v) pop) :=
  congrArg Host.Outcome.next (if_pos h)

theorem exec_queuePop (h : s.qMode q 0 = true) : exec (.queuePop q) s = .next (s.fifoPop q.toNat) :=
  congrArg Host.Outcome.next (if_pos h)

theorem exec_queueDelayPush (h : s.qMode q 2 = true) : exec (.queueDelayPush q v) s = .next (s.delayPush q.toNat v) :=
  congrArg Host.Outcome.next (if_pos h)

theorem exec_queueRamWrite (h : s.qMode q 1 = true) : exec (.queueRamWrite q a v) s = .next (s.qWrite q.toNat a.toNat v) :=
  congrArg Host.Outcome.next (if_pos h)

theorem exec_queueRamRead (h : s.qMode q 1 = true) (hc : s.wordClean q.toNat a.toNat) :
    exec (.queueRamRead q a) s = .next (s.qOut q.toNat (some (Tab.get 0 s.spl.qmem (4096 * q.toNat + a.toNat)))) := by
  refine congrArg Host.Outcome.next ((if_pos h).trans ?_)
  simp only [State.qRead_clean hc]

theorem exec_queue_outside_fifo (h : s.qMode q 0 = false) :
    exec (.queuePush q v pop) s = .next s ∧ exec (.queuePop q) s = .next s :=
  ⟨congrArg Host.Outcome.next (if_neg (ne_true_of_eq_false h)), congrArg Host.Outcome.next (if_neg (ne_true_of_eq_false h))⟩

theorem exec_queue_outside_ram (h : s.qMode q 1 = false) :
    exec (.queueRamRead q a) s = .next s ∧ exec (.queueRamWrite q a v) s = .next s :=
  ⟨congrArg Host.Outcome.next (if_neg (ne_true_of_eq_false h)), congrArg Host.Outcome.next (if_neg (ne_true_of_eq_false h))⟩

theorem exec_queue_outside_delay (h : s.qMode q 2 = false) : exec (.queueDelayPush q v) s = .next s :=
  congrArg Host.Outcome.next (if_neg (ne_true_of_eq_false h))

end Commands

/-! ## Captures and the configuration check (R382, R383) -/

section Captures

variable {s : State}

theorem State.capture1_held (h : s.spl.capDone = true) : s.capture1 = s := if_pos h

theorem State.capture1_free (h : s.spl.capDone = false) :
    s.capture1 = s.took.upSpl (fun x => { x with capFf := x.ff, capPin := s.freeVal 384, capDone := true }) :=
  if_neg (ne_true_of_eq_false h)

/-- While a capture is held a write of SPL_CAPCTL only clears DONE. -/
theorem State.writeCapCtl_held (h5 : s.ready 5 = true) (h : s.spl.capDone = true) (value : BitVec 32) :
    s.writeCapCtl value = if value.msb then s.upSpl (fun x => { x with capDone := false }) else s := by
  simp [State.writeCapCtl, h5, h]

theorem State.writeCapCtl_free (h5 : s.ready 5 = true) (h : s.spl.capDone = false) (value : BitVec 32) :
    s.writeCapCtl value = if value.getLsbD 0 then s.capture1 else s := by
  simp [State.writeCapCtl, h5, h]

theorem exec_spliceCapture : exec .spliceCapture s = .next s.capture1 := rfl

theorem exec_splCapctlGo (value : BitVec 32) : exec (.splCapctlGo value) s = .next (s.writeCapCtl value) := rfl

theorem State.noteUe_spl (det : Nat) (s : State) : (s.noteUe det).spl = s.spl := by
  simp [State.noteUe, apply_ite State.spl]

theorem State.postEvent_spl (code : BitVec 16) (data : BitVec 32) (ahead : Bool) (s : State) :
    (s.postEvent code data ahead).spl = s.spl := by
  simp [State.postEvent, apply_ite State.spl]

/-- An occurrence of a detector that is not fatal drives no halt line and leaves the Splice fabric. -/
theorem State.occurN_spl {det : Nat} (hc : detClass det ≠ 2#2) (n : Nat) (chan : BitVec 32) (info : BitVec 64) (inj : Bool) (s : State) :
    (s.occurN n det chan info inj).spl = s.spl := by
  simp [State.occurN, hc, apply_ite State.spl, apply_ite Prod.fst, State.placeRec, State.queueRec, State.throttled, State.noteUe_spl,
    State.postEvent_spl]

theorem State.noteUe_err (det : Nat) (s : State) : (s.noteUe det).err = s.err := by
  simp [State.noteUe, apply_ite State.err]

theorem State.postEvent_err (code : BitVec 16) (data : BitVec 32) (ahead : Bool) (s : State) :
    (s.postEvent code data ahead).err = s.err := by
  simp [State.postEvent, apply_ite State.err]

/-- An occurrence of a detector that is not fatal sets its bit of ERR_SUM and no other, whether or not its record is written. -/
theorem State.occurN_sum {det : Nat} (hc : detClass det ≠ 2#2) (n : Nat) (chan : BitVec 32) (info : BitVec 64) (inj : Bool) (s : State) :
    (s.occurN n det chan info inj).err.sum = setBit s.err.sum det true := by
  simp [State.occurN, hc, apply_ite State.err, apply_ite Err.sum, apply_ite Prod.fst, State.placeRec, State.queueRec, State.throttled,
    State.noteUe_err, State.postEvent_err, Err.lose, Err.suppress]

theorem exec_cramCheck_held {b : BitVec 6} (h : s.spl.heldBlk.getLsbD b.toNat = true) (mismatch : Bool) :
    exec (.cramCheck b mismatch) s = .next s :=
  if_pos h

theorem exec_cramCheck_unarmed {b : BitVec 6} (ha : s.err.armed = none) (h : s.spl.heldBlk.getLsbD b.toNat = false) (mismatch : Bool) :
    exec (.cramCheck b mismatch) s = .next (if mismatch then s.occur 29 0 (b.setWidth 64) false else s) := by
  refine (if_neg (ne_true_of_eq_false h)).trans ?_
  simp [State.armedFor_unarmed ha]

end Captures

end Sys2Proof.Machine

namespace Sys2Proof
open Machine

/-- Settles O54: each command of a live controller is one update of the Splice fabric; in a cycle with both, the push finds the room the
pop has made; and SPLICE_CRAM (detector 29) is of class U, so its occurrence drives no halt line. -/
theorem spliceMemories : Obligations.SpliceMemories := by
  rintro s q v a b n d h rfl rfl rfl
  refine ⟨fun hq => ⟨?push, ?pushFull, ?popEmpty, ?pop⟩, ?popPush, fun hq => ⟨?ramRead, ?ramWrite⟩, ?delay,
    exec_queue_outside_fifo v false, exec_queue_outside_ram v a, exec_queue_outside_delay v, ?captured, ?captureHeld, ?goHeld, ?clear, ?go,
    ?check, ?checkHeld⟩
  case push =>
    intro hroom
    refine ⟨_, exec_queuePush v false hq, ?_⟩
    rw [State.fifo_push, State.fifoPush_room (by simpa using hroom)]
    exact ⟨(((State.only_refl _ s).qOut _ _).qWrite _ _ _).upSpl _, by simp⟩
  case pushFull =>
    intro hfull
    refine ⟨_, exec_queuePush v false hq, ?_⟩
    rw [State.fifo_push, State.fifoPush_full (by simpa using hfull)]
    exact ⟨((State.only_refl _ s).qOut _ _).upSpl _, by simp⟩
  case popEmpty => intro hn; rw [exec_queuePop hq, State.fifoPop_empty hn]
  case pop => intro hn hc; rw [exec_queuePop hq, State.fifoPop_word hn hc]
  case popPush =>
    intro hq hn hd hc hfill hhead
    refine ⟨_, exec_queuePush v true hq, ?_⟩
    rw [State.fifo_pop_push hn hd hc hfill hhead, State.fifoPop_word hn hc]
    exact ⟨(((State.only_refl _ s).upSpl _).qWrite _ _ _).upSpl _, Tab.get_set_same (Tab.wf_set hfill _ _) _ _,
      Tab.get_set_same hhead _ _, by simp⟩
  case ramRead => exact exec_queueRamRead a hq
  case ramWrite => exact exec_queueRamWrite v a hq
  case delay =>
    rintro m hq rfl hc
    refine ⟨_, exec_queueDelayPush v hq, ?_⟩
    rw [State.delayPush_clean hc]
    exact ⟨(((State.only_refl _ s).qWrite _ _ _).upSpl _).qOut _ _, by simp⟩
  case captured => intro hf; rw [exec_spliceCapture, State.capture1_free hf]
  case captureHeld => intro hd; rw [exec_spliceCapture, State.capture1_held hd]
  case goHeld => intro h5 hd; rw [exec_splCapctlGo, State.writeCapCtl_held h5 hd]; rfl
  case clear => intro h5 hd; rw [exec_splCapctlGo, State.writeCapCtl_held h5 hd]; rfl
  case go => intro h5 hf; rw [exec_splCapctlGo, State.writeCapCtl_free h5 hf, State.capture1_free hf]; rfl
  case check =>
    exact fun ha hb => ⟨exec_cramCheck_unarmed ha hb false, _, exec_cramCheck_unarmed ha hb true,
      State.occurN_spl (by decide) 1 _ _ _ s, State.occurN_sum (by decide) 1 _ _ _ s⟩
  case checkHeld => exact fun hb => exec_cramCheck_held hb true

end Sys2Proof

namespace Sys2Proof.Machine

/-! ## What the work before a ready bit leaves (R435) -/

/-- What t has in common with s when a function of s has done its work to become ready: DEV_RDY, the Director's registers, the
incarnation, and the tamper sources found active or latched. -/
structure State.BringUpKeeps (s t : State) : Prop where
  rdy : t.rst.rdy = s.rst.rdy
  dir : t.dir = s.dir
  inc : t.crew.inc = s.crew.inc
  active : t.keep.active = s.keep.active
  latch : t.keep.vbLatch = s.keep.vbLatch

namespace State.BringUpKeeps

variable {s t u : State}

theorem refl (s : State) : s.BringUpKeeps s := ⟨rfl, rfl, rfl, rfl, rfl⟩

theorem trans (h : s.BringUpKeeps t) (h' : t.BringUpKeeps u) : s.BringUpKeeps u :=
  ⟨h'.rdy.trans h.rdy, h'.dir.trans h.dir, h'.inc.trans h.inc, h'.active.trans h.active, h'.latch.trans h.latch⟩

theorem ite {c : Prop} [Decidable c] (ht : s.BringUpKeeps t) (hu : s.BringUpKeeps u) : s.BringUpKeeps (if c then t else u) := by
  split
  · exact ht
  · exact hu

theorem thenIf {c : Prop} [Decidable c] (ht : s.BringUpKeeps t) (hu : t.BringUpKeeps u) : s.BringUpKeeps (if c then t else u) :=
  ite ht (ht.trans hu)

theorem foldl {α : Type} {f : State → α → State} (hf : ∀ (t : State) (a : α), t.BringUpKeeps (f t a)) (l : List α) (s : State) :
    s.BringUpKeeps (l.foldl f s) := by
  induction l generalizing s with
  | nil => exact refl s
  | cons a l ih => exact (hf s a).trans (ih _)

theorem upKeep (s : State) {f : Keep → Keep} (ha : (f s.keep).active = s.keep.active) (hl : (f s.keep).vbLatch = s.keep.vbLatch) :
    s.BringUpKeeps (s.upKeep f) :=
  ⟨rfl, rfl, rfl, ha, hl⟩

theorem upErr (s : State) (f : Err → Err) : s.BringUpKeeps (s.upErr f) := ⟨rfl, rfl, rfl, rfl, rfl⟩

theorem upRst (s : State) {f : Rst → Rst} (h : (f s.rst).rdy = s.rst.rdy) : s.BringUpKeeps (s.upRst f) := ⟨h, rfl, rfl, rfl, rfl⟩

theorem postEvent (s : State) (code : BitVec 16) (data : BitVec 32) (ahead : Bool) : s.BringUpKeeps (s.postEvent code data ahead) :=
  ite ⟨rfl, rfl, rfl, rfl, rfl⟩ ⟨rfl, rfl, rfl, rfl, rfl⟩

theorem noteUe (s : State) (det : Nat) : s.BringUpKeeps (s.noteUe det) :=
  ite ⟨rfl, rfl, rfl, rfl, rfl⟩ (refl s)

theorem placeRec (s : State) (r : ErrRec) : s.BringUpKeeps (s.placeRec r) :=
  ite ((upErr s _).trans (postEvent _ _ _ _)) (upErr s _)

theorem queueRec (s : State) (r : ErrRec) : s.BringUpKeeps (s.queueRec false r).1 := by
  simp only [State.queueRec, Bool.not_false, if_true, apply_ite Prod.fst]
  exact ite ((upErr s _).trans (upErr _ _)) (upErr s _)

/-- An occurrence of class C, U or N stops nothing: only class F signals to the halt line and the link (R454). -/
theorem occurN (s : State) {det : Nat} (hc : detClass det ≠ 2) (n : Nat) (chan : BitVec 32) (info : BitVec 64) (inj : Bool) :
    s.BringUpKeeps (s.occurN n det chan info inj) := by
  simp only [State.occurN, hc, decide_false, Bool.false_eq_true, if_false]
  refine (upErr s _).trans (ite ((noteUe _ _).trans (ite ?placed (queueRec _ _))) (upErr _ _))
  exact (upErr _ _).trans (placeRec _ _)

/-- Detector 42 alone may report at the reading of the copies, and it is of class C (R390). -/
theorem readCopies (s : State) : s.BringUpKeeps s.readCopies := by
  have fired : s.BringUpKeeps (if s.armedFor 42 (fun u _ => decide (u < 3)) then s.fired else s) :=
    ite (upErr s _) (refl s)
  unfold State.readCopies
  dsimp only
  split
  · exact fired
  · refine fired.trans (ite ((upKeep _ rfl rfl).trans (occurN _ (by decide) _ _ _ _)) (upKeep _ ?_ ?_))
    · simp only [apply_ite Keep.active, ite_self]
    · simp only [apply_ite Keep.vbLatch, ite_self]

/-- With no source latched under VBAT the Keeper's check raises no line; it wipes the secure region when that has lost its supply (R397). -/
theorem keeperUp (h : s.keep.vbLatch = 0) : s.BringUpKeeps s.keeperUp := by
  have copies := readCopies s
  have unlatched : s.readCopies.keep.vbLatch = 0 := copies.latch.trans h
  have wiped (t : State) : t.BringUpKeeps (t.wipe.upBanks Banks.mapLost) := ⟨rfl, rfl, rfl, rfl, rfl⟩
  unfold State.keeperUp
  simp only [State.upKeep_keep, unlatched, if_true]
  refine copies.trans ((upKeep _ rfl rfl).trans (thenIf (ite (refl _) ((upKeep _ rfl rfl).trans (ite ?gone (refl _)))) (upKeep _ rfl rfl)))
  exact (wiped _).trans ((upKeep _ rfl rfl).trans (postEvent _ _ _ _))

theorem place (s : State) (p : Placed) (es : List (BitVec 320)) : s.BringUpKeeps (s.place p es) := by
  have stored (f : Seq → Seq) (g : Dsys → Dsys) : s.BringUpKeeps ((s.upSeq f).upSys g) := ⟨rfl, rfl, rfl, rfl, rfl⟩
  have committed (t : State) : t.BringUpKeeps (t.upKeep (fun k => k.committed p.img)) := by
    refine upKeep t ?_ ?_ <;> unfold Keep.committed <;> split <;> rfl
  exact (stored _ _).trans (committed _)

theorem loadStored (s : State) (p : Stored) : s.BringUpKeeps (s.loadStored p) := by
  unfold State.loadStored
  split
  · exact place _ _ _
  · exact upRst s rfl

theorem loadRuntime (s : State) : s.BringUpKeeps s.loadRuntime := upKeep s rfl rfl

theorem fillStore (s : State) : s.BringUpKeeps s.fillStore := by
  have directory (t : State) (f : Seq → Seq) : t.BringUpKeeps (t.upSeq f) := ⟨rfl, rfl, rfl, rfl, rfl⟩
  exact (loadRuntime s).trans ((directory _ _).trans (foldl loadStored _ _))

theorem train (s : State) (p : BitVec 4) : s.BringUpKeeps (s.train p) :=
  ite (refl s) ⟨rfl, rfl, rfl, rfl, rfl⟩

theorem trainAll (s : State) : s.BringUpKeeps s.trainAll := foldl (fun t _ => train t _) _ s

theorem readyWork {b : Nat} (h : b = 3 → s.keep.vbLatch = 0) : s.BringUpKeeps (s.readyWork b) := by
  unfold State.readyWork
  split
  · exact keeperUp (h rfl)
  · exact ⟨rfl, rfl, rfl, rfl, rfl⟩
  · exact ⟨rfl, rfl, rfl, rfl, rfl⟩
  · exact fillStore s
  · exact loadRuntime s
  · exact refl s

end State.BringUpKeeps

/-! ## READY_BIT_SET -/

theorem State.respond_none (l : List Nat) (s : State) :
    l.foldl (fun s b => if (0 : BitVec 8).getLsbD b then s.tamperNow b false else s) s = s := by
  induction l with
  | nil => rfl
  | cons b l ih =>
    have unset : ¬(0 : BitVec 8).getLsbD b = true := ne_true_of_eq_false BitVec.getLsbD_zero
    rw [List.foldl_cons, if_neg unset, ih]

/-- With no source found active, no response to one runs (R398). -/
theorem State.runActive_none {s : State} (h : s.keep.active = 0) : s.runActive = s := by
  have cleared : s.upKeep (fun k => { k with active := 0 }) = s :=
    congrArg (fun a => s.upKeep (fun k => { k with active := a })) h.symm
  unfold State.runActive
  rw [h]
  split
  · rfl
  · exact (State.respond_none _ _).trans cleared

/-- The state once function b has done its work, bit b of DEV_RDY is set, and the crew's ports train with bit 6. -/
def State.withReady (b : Nat) (s : State) : State :=
  let s := (s.readyWork b).upRst (fun r => { r with rdy := setBit r.rdy b true })
  if b = 6 then s.trainAll else s

/-- Event 0x0008 with RUNTIME, when a Director reset is still to be reported (R254, R442). -/
def State.reportReset (b : Nat) (s : State) : State :=
  if b = 14 ∧ s.rst.report then
    (s.upRst (fun r => { r with report := false })).postEvent 8 (s.sys.dstateLow.setWidth 32) false
  else s

theorem State.BringUpKeeps.withReady (s : State) (b : Nat) :
    ((s.readyWork b).upRst (fun r => { r with rdy := setBit r.rdy b true })).BringUpKeeps (s.withReady b) :=
  ite (trainAll _) (refl _)

theorem State.BringUpKeeps.reportReset (s : State) (b : Nat) : s.BringUpKeeps (s.reportReset b) :=
  ite ((upRst s rfl).trans (postEvent _ _ _ _)) (refl s)

section ReadyBit

variable {s : State} {b : BitVec 4}

theorem exec_readyBitSet_missing {k : Nat} (hk : k ∈ rdyNeeds b.toNat) (h : s.ready k = false) : exec (.readyBitSet b) s = .next s := by
  have missing : (rdyNeeds b.toNat).all s.ready = false := List.all_eq_false.mpr ⟨k, hk, by simp [h]⟩
  exact if_pos (.inr (.inr (.inl (by simp [missing]))))

/-- BOOT is the copier's, ARRAY waits for its domain, RUNTIME for NORMAL of a Director that is released. -/
theorem State.readyHeld_eq_false {n : Nat} (hboot : n ≠ 12) (harr : n = 11 → s.dom 0 = 2)
    (hrun : n = 14 → s.sys.normal = true ∧ s.dir.run ≠ .held) : s.readyHeld n = false := by
  simpa [State.readyHeld, hboot] using ⟨harr, hrun⟩

theorem exec_readyBitSet_ready (hb : b.toNat < 15) (hunset : s.ready b.toNat = false) (hneeds : ∀ k ∈ rdyNeeds b.toNat, s.ready k = true)
    (hheld : s.readyHeld b.toNat = false) :
    exec (.readyBitSet b) s = .next ((s.withReady b.toNat).runActive.reportReset b.toNat) := by
  have all : (rdyNeeds b.toNat).all s.ready = true := List.all_eq_true.mpr hneeds
  exact (if_neg (by simp [hb, hunset, all, hheld])).trans (apply_ite Host.Outcome.next _ _ _).symm

end ReadyBit

/-! ## The boot copier (R439, R440) -/

section Boot

variable {s : State} {code : BitVec 4} {i a b : BootImage}

/-- A copied image stands in program memory from word 0, the Director runs, and CODE tells the source. -/
theorem State.upRst_bootWith {f : Rst → Rst} (hf : (f s.rst).rdy = s.rst.rdy) :
    let t := (s.upRst f).bootWith code i
    t.sys.pmem = Tab.setList 0 s.sys.pmem 0 (i.words.take 262144) ∧ t.dir = { s.dir with run := .running } ∧
      t.rst.bootCode = code ∧ t.rst.rdy = setBit s.rst.rdy 12 true ∧ State.only [.sys, .dir, .keep, .rst] s t := by
  refine ⟨rfl, rfl, rfl, congrArg (setBit · 12 true) hf, fun k hk => ?_⟩
  cases k with
  | sys | dir | keep | rst => simp at hk
  | _ => rfl

theorem exec_bootCopy (h3 : s.ready 3 = true) (h12 : s.ready 12 = false) (hc : s.rst.bootCode = 0) :
    exec (.bootCopy a b) s = .next (if a.sigOk then s.bootWith 1 a else if b.sigOk then s.bootFailed.bootWith 2 b
      else s.bootFailed.upRst (fun r => { r with bootCode := 4 })) := by
  refine (if_neg (by simp [h3, h12, hc])).trans ?_
  cases a.sigOk <;> cases b.sigOk <;> rfl

theorem exec_bootRetry (hc : s.rst.bootCode = 4) (hl : s.keep.lc ≠ .scrapped) :
    exec (.bootRetry 0 1 i) s = .next (if i.sigOk then (s.upRst (fun r => { r with retry := false })).bootWith 3 i
      else (s.upRst (fun r => { r with retry := false })).bootFailed) :=
  if_neg (by simp [hc, hl])

theorem exec_bootRetry_refused (h : s.rst.bootCode ≠ 4 ∨ s.keep.lc = .scrapped) : exec (.bootRetry 0 1 i) s = .next s :=
  if_pos (.inr h)

end Boot

end Sys2Proof.Machine

namespace Sys2Proof
open Machine

/-- Settles O30: whatever a function does before its bit, it leaves the Director, the incarnation and the other bits; and each source
of the boot copier writes the image over the same program memory. -/
theorem boot : Obligations.Boot := by
  intro s
  refine ⟨?ready, fun b k hk h => exec_readyBitSet_missing hk h, fun a b i code h3 h12 hc => ⟨?copied, ?failed⟩,
    fun i hc hl => ⟨?retried, ?again⟩, fun i h => exec_bootRetry_refused h⟩
  case ready =>
    intro b hb hunset hneeds hboot harr hrun hact hlatch
    have work : s.BringUpKeeps (s.readyWork b.toNat) := .readyWork (fun h => hlatch (BitVec.eq_of_toNat_eq h))
    have set := State.BringUpKeeps.withReady s b.toNat
    have quiet : (s.withReady b.toNat).runActive = s.withReady b.toNat :=
      State.runActive_none (set.active.trans (work.active.trans hact))
    have keeps := set.trans (.reportReset _ b.toNat)
    have held : s.readyHeld b.toNat = false := State.readyHeld_eq_false (fun h => hboot (BitVec.eq_of_toNat_eq h))
      (fun h => harr (BitVec.eq_of_toNat_eq h)) (fun h => hrun (BitVec.eq_of_toNat_eq h))
    refine ⟨_, exec_readyBitSet_ready hb hunset hneeds held, ?_⟩
    rw [quiet]
    refine ⟨keeps.rdy.trans (congrArg (setBit · b.toNat true) work.rdy), keeps.dir.trans work.dir, keeps.inc.trans work.inc, ?_⟩
    rintro rfl
    rfl
  case copied =>
    rw [exec_bootCopy h3 h12 hc]
    rintro (⟨ha, rfl, rfl⟩ | ⟨ha, hb, rfl, rfl⟩)
    · rw [if_pos ha]
      exact ⟨_, rfl, State.upRst_bootWith (f := id) rfl⟩
    · rw [if_neg (ne_true_of_eq_false ha), if_pos hb]
      exact ⟨_, rfl, State.upRst_bootWith rfl⟩
  case failed =>
    intro ha hb
    rw [exec_bootCopy h3 h12 hc, if_neg (ne_true_of_eq_false ha), if_neg (ne_true_of_eq_false hb)]
    rfl
  case retried =>
    intro hi
    rw [exec_bootRetry hc hl, if_pos hi]
    exact ⟨_, rfl, State.upRst_bootWith rfl⟩
  case again =>
    intro hi
    rw [exec_bootRetry hc hl, if_neg (ne_true_of_eq_false hi)]
    rfl

end Sys2Proof
